-- ==== Sys2Proof/Word.lean ====
section
/-! DEFINITION. The words that cross a pin: bytes of the comfort link and sets of massage cells. -/
namespace Sys2Proof

/-- One byte of a comfort-link frame. -/
abbrev Byte := BitVec 8

/-- A 16-bit field of the comfort link (a notice detail, a status header). -/
abbrev Word16 := BitVec 16

/-- A set of massage cells as the part reports and receives it: bit 0 is M1, bit 7 is M8 (12.1.3, R184). -/
abbrev CellSet := BitVec 8

end Sys2Proof
end

