-- ==== Sys2Proof/Syntax.lean ====
section
/-! DEFINITION. The commands of the DS468: one constructor of `Instr` per row of spec/opcode_table.json, with the names
they use. Comfort-link arguments are the numbers sent (a selector may be unknown); events carry what happened. -/
namespace Sys2Proof

/-- The six axes in the order of the axis table (00_scope.md 5.2). -/
inductive Axis where
  | slide | lift | tilt | recline | headrest | extend
  deriving DecidableEq, Repr

/-- Direction of counting (00_scope.md 5.2; coded 0 DOWN, 1 UP in 12.1.2). -/
inductive Dir where
  | down | up
  deriving DecidableEq, Repr

/-- The two heated and ventilated zones, C (cushion) and B (backrest). -/
inductive Zone where
  | c | b
  deriving DecidableEq, Repr

/-- The fourteen bladders in selector order (12.1.2): six support bladders, then the massage cells M1 to M8. -/
inductive Bladder where
  | lu | ll | bbl | bbr | cbl | cbr | m1 | m2 | m3 | m4 | m5 | m6 | m7 | m8
  deriving DecidableEq, Repr

/-- The four lumbar steps, and the four lumbar contacts that ask them (R60, R103). -/
inductive LumbarStep where
  | stepIn | stepOut | stepUp | stepDown
  deriving DecidableEq, Repr

/-- The four keys (R57). -/
inductive Key where
  | mem1 | mem2 | mem3 | set
  deriving DecidableEq, Repr

/-- The twenty contacts of the seat switch pack (3.1). -/
inductive Contact where
  | axis (a : Axis) (d : Dir)
  | lumbar (l : LumbarStep)
  | key (k : Key)
  deriving DecidableEq, Repr

/-- The grade of a BRACE frame (R163). -/
inductive Grade where
  | one | two
  deriving DecidableEq, Repr

/-- The kind of a CRASH frame, in the order of its coding (R163). -/
inductive CrashKind where
  | front | rear | side | unspecified
  deriving DecidableEq, Repr

/-- What the FIT strap selects (R1): high FULL, low BASIC (12.3). -/
inductive Fitment where
  | full | basic
  deriving DecidableEq, Repr

/-- A step record as it crosses the link (12.1.3): action, cell set, level or dwell or count, and the byte carried. -/
structure StepRec where
  action : Nat
  cells : CellSet
  value : Nat
  carried : Nat
  deriving DecidableEq, Repr

/-- What an edge can find wrong with a safety frame (row SAFETY_FRAME_DROP, R166): a CHECK drop carries the command
and argument that the frame held when it reached its check. -/
inductive DropCause where
  | lead | gap | calRange | shortSymbol
  | check (command argument : Nat)
  deriving DecidableEq, Repr

/-- The frames that capture a reply before they are taken (R168, R185): the reads, and LOAD PATTERN END. -/
inductive ReadFrame where
  | status | axis (a : Nat) | allocation | gallery | bladder (b : Nat) | massage | climate | brace
  | profile (slot : Nat) | recall | config (item index : Nat) | notice | patternEnd (pattern : Nat)
  deriving DecidableEq, Repr

/-- The commands: one constructor per row of spec/opcode_table.json, in the table's order. -/
inductive Instr where
  | readStatus
  | readAxis (axis : Nat)
  | readAllocation
  | readGallery
  | readBladder (bladder : Nat)
  | readMassage
  | readClimate
  | readBrace
  | readProfile (slot : Nat)
  | readRecall
  | readConfig (item index : Nat)
  | readNotice
  | moveAxisTo (axis target : Nat)
  | jogAxis (axis direction duration : Nat)
  | stopAxis (axis : Nat)
  | stopAll
  | learnAxis (axis : Nat)
  | clearAxisFault (axis : Nat)
  | storeProfile (slot : Nat)
  | recallProfile (slot : Nat)
  | eraseProfile (slot : Nat)
  | doorExit
  | doorEntry
  | setSupport (bladder target : Nat)
  | lumbarAdjust (step : Nat)
  | clearGalleryFault
  | loadPatternBegin (pattern count : Nat)
  | loadPatternSteps (count : Nat) (steps : List StepRec)
  | loadPatternEnd (pattern : Nat)
  | startMassage (pattern intensity speed : Nat)
  | setMassage (intensity speed : Nat)
  | stopMassage
  | setHeat (zone level : Nat)
  | setFan (zone level : Nat)
  | setSupplyCeiling (ceiling : Nat)
  | setSupplyThresholds (low cutoff : Nat)
  | setVehicleState (value : Nat)
  | unlockBrace
  | writeConfig (item index value second : Nat)
  | park
  | reset
  | comfortFrameLength
  | unknownCommand (code : Nat)
  | chipSelectWake
  | statusQuery
  | brace (grade : Grade)
  | hold
  | standDown
  | crash (kind : CrashKind)
  | safetyFrameRefused (command argument : Nat)
  | safetyFrameDrop (cause : DropCause)
  | safetyGapTimeout
  | safetySymbolTimeout
  | safetySymbolTooLong
  | safetyReplyStart
  | safetyReplySent
  | safetyCollision
  | lineStuck
  | lineStuckCleared
  | safetyLineWake
  | acceptedPulse (axis : Axis)
  | rejectedLow (axis : Axis)
  | stall (axis : Axis)
  | coastWindowEnd (axis : Axis)
  | overcurrentBlankingEnd (axis : Axis)
  | overcurrent (axis : Axis)
  | jogExpiry (axis : Axis)
  | staggerWindowEnd
  | bracePoint
  | monitorSample (millivolts : Nat)
  | thresholdSettleEnd
  | axisContactPress (axis : Axis) (dir : Dir)
  | axisContactRelease (axis : Axis) (dir : Dir)
  | keyPress (key : Key)
  | keyRelease (key : Key)
  | keyRearm (key : Key)
  | storeWindowEnd
  | lumbarContactPress (contact : LumbarStep)
  | lumbarContactRelease (contact : LumbarStep)
  | switchStuck (contact : Contact)
  | recallTimeout
  | burstEnd
  | settleEnd
  | pressureReading (code : Nat)
  | compressorWaitExpiry
  | massageHoldEnd
  | cycleRestEnd
  | sessionExpiry
  | heatSample (zone : Zone) (code : Nat)
  | heatStepdown (zone : Zone)
  | holdTimerExpiry
  | storeWriteComplete
  | wakeIntervalInstant (closed : List Contact) (millivolts : Nat)
  | powerOnReset (fit : Fitment) (lineHigh : Bool)
  | resetPin
  | warmResetDrainEnd (lineHigh : Bool)
  | hallSample (axis : Axis) (high : Bool)
  | safetyLineEdge (rising : Bool) (micros : Nat)
  | replySymbolEnd
  | replyCapture (frame : ReadFrame)
  | contactLevelChange (contact : Contact) (closed : Bool)
  | comparatorAssertionChange (axis : Axis) (asserted : Bool)
  | powerLoss
  deriving DecidableEq, Repr

end Sys2Proof
end

