-- ==== Sys2Proof/Tables.lean ====
section
/-! DEFINITION. Fixed tables of the part, one entry per axis, zone, bladder, contact group, slot or pattern, as plain data. -/
namespace Sys2Proof

/-- One entry per axis. -/
structure PerAxis (α : Type) where
  slide : α
  lift : α
  tilt : α
  recline : α
  headrest : α
  extend : α
  deriving DecidableEq, Repr

namespace PerAxis
variable {α β : Type}
def get (t : PerAxis α) : Axis → α
  | .slide => t.slide | .lift => t.lift | .tilt => t.tilt
  | .recline => t.recline | .headrest => t.headrest | .extend => t.extend
def set (t : PerAxis α) (a : Axis) (v : α) : PerAxis α :=
  match a with
  | .slide => { t with slide := v } | .lift => { t with lift := v } | .tilt => { t with tilt := v }
  | .recline => { t with recline := v } | .headrest => { t with headrest := v } | .extend => { t with extend := v }
def map (f : α → β) (t : PerAxis α) : PerAxis β :=
  { slide := f t.slide, lift := f t.lift, tilt := f t.tilt, recline := f t.recline, headrest := f t.headrest, extend := f t.extend }
def all (v : α) : PerAxis α := { slide := v, lift := v, tilt := v, recline := v, headrest := v, extend := v }
end PerAxis

/-- One entry per zone. -/
structure PerZone (α : Type) where
  c : α
  b : α
  deriving DecidableEq, Repr

namespace PerZone
variable {α : Type}
def get (t : PerZone α) : Zone → α
  | .c => t.c | .b => t.b
def set (t : PerZone α) (z : Zone) (v : α) : PerZone α :=
  match z with
  | .c => { t with c := v } | .b => { t with b := v }
def all (v : α) : PerZone α := { c := v, b := v }
end PerZone

/-- One entry per direction. -/
structure PerDir (α : Type) where
  down : α
  up : α
  deriving DecidableEq, Repr

namespace PerDir
variable {α : Type}
def get (t : PerDir α) : Dir → α
  | .down => t.down | .up => t.up
def set (t : PerDir α) (d : Dir) (v : α) : PerDir α :=
  match d with
  | .down => { t with down := v } | .up => { t with up := v }
def all (v : α) : PerDir α := { down := v, up := v }
end PerDir

/-- One entry per bladder. -/
structure PerBladder (α : Type) where
  lu : α
  ll : α
  bbl : α
  bbr : α
  cbl : α
  cbr : α
  m1 : α
  m2 : α
  m3 : α
  m4 : α
  m5 : α
  m6 : α
  m7 : α
  m8 : α
  deriving DecidableEq, Repr

namespace PerBladder
variable {α : Type}
def get (t : PerBladder α) : Bladder → α
  | .lu => t.lu | .ll => t.ll | .bbl => t.bbl | .bbr => t.bbr | .cbl => t.cbl | .cbr => t.cbr
  | .m1 => t.m1 | .m2 => t.m2 | .m3 => t.m3 | .m4 => t.m4 | .m5 => t.m5 | .m6 => t.m6 | .m7 => t.m7 | .m8 => t.m8
def set (t : PerBladder α) (x : Bladder) (v : α) : PerBladder α :=
  match x with
  | .lu => { t with lu := v } | .ll => { t with ll := v } | .bbl => { t with bbl := v } | .bbr => { t with bbr := v }
  | .cbl => { t with cbl := v } | .cbr => { t with cbr := v }
  | .m1 => { t with m1 := v } | .m2 => { t with m2 := v } | .m3 => { t with m3 := v } | .m4 => { t with m4 := v }
  | .m5 => { t with m5 := v } | .m6 => { t with m6 := v } | .m7 => { t with m7 := v } | .m8 => { t with m8 := v }
def all (v : α) : PerBladder α :=
  { lu := v, ll := v, bbl := v, bbr := v, cbl := v, cbr := v, m1 := v, m2 := v, m3 := v, m4 := v, m5 := v, m6 := v, m7 := v, m8 := v }
end PerBladder

/-- The four bolsters that a brace fills (R143). -/
inductive Bolster where
  | bbl | bbr | cbl | cbr
  deriving DecidableEq, Repr

/-- The bladder of a bolster. -/
def Bolster.bladder : Bolster → Bladder
  | .bbl => .bbl | .bbr => .bbr | .cbl => .cbl | .cbr => .cbr

/-- One entry per bolster. -/
structure PerBolster (α : Type) where
  bbl : α
  bbr : α
  cbl : α
  cbr : α
  deriving DecidableEq, Repr

namespace PerBolster
variable {α : Type}
def get (t : PerBolster α) : Bolster → α
  | .bbl => t.bbl | .bbr => t.bbr | .cbl => t.cbl | .cbr => t.cbr
def set (t : PerBolster α) (x : Bolster) (v : α) : PerBolster α :=
  match x with
  | .bbl => { t with bbl := v } | .bbr => { t with bbr := v } | .cbl => { t with cbl := v } | .cbr => { t with cbr := v }
def all (v : α) : PerBolster α := { bbl := v, bbr := v, cbl := v, cbr := v }
end PerBolster

/-- One entry per lumbar contact. -/
structure PerLumbar (α : Type) where
  stepIn : α
  stepOut : α
  stepUp : α
  stepDown : α
  deriving DecidableEq, Repr

namespace PerLumbar
variable {α : Type}
def get (t : PerLumbar α) : LumbarStep → α
  | .stepIn => t.stepIn | .stepOut => t.stepOut | .stepUp => t.stepUp | .stepDown => t.stepDown
def set (t : PerLumbar α) (x : LumbarStep) (v : α) : PerLumbar α :=
  match x with
  | .stepIn => { t with stepIn := v } | .stepOut => { t with stepOut := v }
  | .stepUp => { t with stepUp := v } | .stepDown => { t with stepDown := v }
def all (v : α) : PerLumbar α := { stepIn := v, stepOut := v, stepUp := v, stepDown := v }
end PerLumbar

/-- One entry per key. -/
structure PerKey (α : Type) where
  mem1 : α
  mem2 : α
  mem3 : α
  set4 : α
  deriving DecidableEq, Repr

namespace PerKey
variable {α : Type}
def get (t : PerKey α) : Key → α
  | .mem1 => t.mem1 | .mem2 => t.mem2 | .mem3 => t.mem3 | .set => t.set4
def put (t : PerKey α) (x : Key) (v : α) : PerKey α :=
  match x with
  | .mem1 => { t with mem1 := v } | .mem2 => { t with mem2 := v } | .mem3 => { t with mem3 := v } | .set => { t with set4 := v }
def all (v : α) : PerKey α := { mem1 := v, mem2 := v, mem3 := v, set4 := v }
end PerKey

/-- The six slots of the profile table (4.1). -/
inductive Slot where
  | p1 | p2 | p3 | p4 | return | brace
  deriving DecidableEq, Repr

/-- The four retained profiles (R176). -/
inductive Retained4 where
  | p1 | p2 | p3 | p4
  deriving DecidableEq, Repr

/-- The slot of a retained profile. -/
def Retained4.slot : Retained4 → Slot
  | .p1 => .p1 | .p2 => .p2 | .p3 => .p3 | .p4 => .p4

/-- One entry per slot. -/
structure PerSlot (α : Type) where
  p1 : α
  p2 : α
  p3 : α
  p4 : α
  ret : α
  brace : α
  deriving DecidableEq, Repr

namespace PerSlot
variable {α : Type}
def get (t : PerSlot α) : Slot → α
  | .p1 => t.p1 | .p2 => t.p2 | .p3 => t.p3 | .p4 => t.p4 | .return => t.ret | .brace => t.brace
def set (t : PerSlot α) (x : Slot) (v : α) : PerSlot α :=
  match x with
  | .p1 => { t with p1 := v } | .p2 => { t with p2 := v } | .p3 => { t with p3 := v } | .p4 => { t with p4 := v }
  | .return => { t with ret := v } | .brace => { t with brace := v }
def all (v : α) : PerSlot α := { p1 := v, p2 := v, p3 := v, p4 := v, ret := v, brace := v }
end PerSlot

/-- One entry per retained profile. -/
structure PerProfile (α : Type) where
  p1 : α
  p2 : α
  p3 : α
  p4 : α
  deriving DecidableEq, Repr

namespace PerProfile
variable {α : Type}
def get (t : PerProfile α) : Retained4 → α
  | .p1 => t.p1 | .p2 => t.p2 | .p3 => t.p3 | .p4 => t.p4
def set (t : PerProfile α) (x : Retained4) (v : α) : PerProfile α :=
  match x with
  | .p1 => { t with p1 := v } | .p2 => { t with p2 := v } | .p3 => { t with p3 := v } | .p4 => { t with p4 := v }
def all (v : α) : PerProfile α := { p1 := v, p2 := v, p3 := v, p4 := v }
end PerProfile

/-- The eight pattern numbers (R107). -/
inductive PatternNo where
  | n1 | n2 | n3 | n4 | n5 | n6 | n7 | n8
  deriving DecidableEq, Repr

/-- One entry per pattern number. -/
structure PerPattern (α : Type) where
  n1 : α
  n2 : α
  n3 : α
  n4 : α
  n5 : α
  n6 : α
  n7 : α
  n8 : α
  deriving DecidableEq, Repr

namespace PerPattern
variable {α : Type}
def get (t : PerPattern α) : PatternNo → α
  | .n1 => t.n1 | .n2 => t.n2 | .n3 => t.n3 | .n4 => t.n4 | .n5 => t.n5 | .n6 => t.n6 | .n7 => t.n7 | .n8 => t.n8
def set (t : PerPattern α) (x : PatternNo) (v : α) : PerPattern α :=
  match x with
  | .n1 => { t with n1 := v } | .n2 => { t with n2 := v } | .n3 => { t with n3 := v } | .n4 => { t with n4 := v }
  | .n5 => { t with n5 := v } | .n6 => { t with n6 := v } | .n7 => { t with n7 := v } | .n8 => { t with n8 := v }
def all (v : α) : PerPattern α := { n1 := v, n2 := v, n3 := v, n4 := v, n5 := v, n6 := v, n7 := v, n8 := v }
end PerPattern

/-- Four things, one per level 0 to 3. -/
structure PerLevel (α : Type) where
  l0 : α
  l1 : α
  l2 : α
  l3 : α
  deriving DecidableEq, Repr

namespace PerLevel
variable {α : Type}
/-- A level above 3 does not occur (R134, R135); it reads as level 3. -/
def get (t : PerLevel α) : Nat → α
  | 0 => t.l0 | 1 => t.l1 | 2 => t.l2 | _ => t.l3
def set (t : PerLevel α) (n : Nat) (v : α) : PerLevel α :=
  match n with
  | 0 => { t with l0 := v } | 1 => { t with l1 := v } | 2 => { t with l2 := v } | _ => { t with l3 := v }
end PerLevel

end Sys2Proof
end

