-- ==== Sys2Proof/Config.lean ====
section
/-! DEFINITION. The configuration items that WRITE CONFIG sets and the configuration record retains (the tables of 1.2, 2.4,
3.1, 4.1, 5.3, 6.1, 7.1, 8.1 and 11.4). Their defaults and ranges stand in Machine/. The spec leaves no value undefined,
so there is no free value here (notes/assumptions/38.md). -/
namespace Sys2Proof

/-- How the bridge is held in a coast (R12). -/
inductive StopMode where
  | brake | free
  deriving DecidableEq, Repr

/-- The clearing direction of an axis (R72). -/
inductive Clearing where
  | down | up | none
  deriving DecidableEq, Repr

/-- The items of one axis (table of 1.2), in the units of that table. -/
structure AxisSettings where
  claim : Nat
  stopMode : StopMode
  coastWindow : Nat
  stallTimeout : Nat
  startAllowance : Nat
  softMargin : Nat
  endWindow : Nat
  suspectWindow : Nat
  minTravel : Nat
  onTarget : Nat
  initialLead : Nat
  disturbanceLimit : Nat
  hallInterval : Nat
  minLowWidth : Nat
  clearing : Clearing
  windowLow : Nat
  windowHigh : Nat
  braceEnable : Bool
  deriving DecidableEq, Repr

/-- The items of one zone (table of 7.1). -/
structure ZoneSettings where
  matResistance : Nat
  target1 : Nat
  target2 : Nat
  target3 : Nat
  kp : Nat
  ki : Nat
  heatPeriod : Nat
  stepDown : Nat
  deriving DecidableEq, Repr

/-- One NTC breakpoint (7.2): a converter code and a temperature in half-degrees. -/
structure Breakpoint where
  code : Nat
  temp : Int
  deriving DecidableEq, Repr

/-- Every configuration item. `ntc` holds breakpoints 1 to 9 in order. Recall limit, stuck limit and hold limit are in s,
the session limit in min. -/
structure Settings where
  axis : PerAxis AxisSettings
  parkCeiling : Nat
  lowShare : Nat
  braceAllowance : Nat
  stagger : Nat
  braceStagger : Nat
  fanClaim : PerLevel Nat
  compressorClaim : Nat
  monitorInterval : Nat
  debounce : Nat
  stuckLimit : Nat
  recallLimit : Nat
  exitOffset : Nat
  tolerance : Nat
  burstTime : Nat
  settleTime : Nat
  burstLimit : Nat
  queueLimit : Nat
  fullScale : Nat
  sessionLimit : Nat
  zone : PerZone ZoneSettings
  fanDuty : PerLevel Nat
  ntc : List Breakpoint
  holdLimit : Nat
  wakeInterval : Nat
  deriving DecidableEq, Repr

end Sys2Proof
end

