-- ==== Sys2Proof/Machine/Defaults.lean ====
section
/-! DEFINITION. The default of every configuration item, and the values the spec fixes. -/
namespace Sys2Proof.Machine

/-- Default of an axis whose own columns are the claim, the clearing direction and the brace columns (table of 1.2). -/
def axisDefault (claim : Nat) (clearing : Clearing) (low high : Nat) (enable : Bool) : AxisSettings :=
  { claim := claim, stopMode := .brake, coastWindow := 60, stallTimeout := 120, startAllowance := 100, softMargin := 30,
    endWindow := 24, suspectWindow := 400, minTravel := 800, onTarget := 3, initialLead := 6, disturbanceLimit := 8,
    hallInterval := 32, minLowWidth := 200, clearing := clearing, windowLow := low, windowHigh := high, braceEnable := enable }

/-- Table of 1.2, per axis. -/
def axisDefaults : PerAxis AxisSettings :=
  { slide := axisDefault 60 .down 3000 16383 true
    lift := axisDefault 70 .down 0 16383 false
    tilt := axisDefault 50 .down 600 16383 true
    recline := axisDefault 60 .none 256 1456 true
    headrest := axisDefault 30 .none 0 16383 false
    extend := axisDefault 30 .down 0 16383 false }

/-- Table of 7.1, per zone: only the mat resistance differs. -/
def zoneDefault (resistance : Nat) : ZoneSettings :=
  { matResistance := resistance, target1 := 66, target2 := 76, target3 := 84, kp := 6, ki := 4, heatPeriod := 250, stepDown := 20 }

/-- Table of 7.2. -/
def ntcDefault : List Breakpoint :=
  [⟨3900, -80⟩, ⟨3500, -20⟩, ⟨2900, 30⟩, ⟨2200, 60⟩, ⟨1600, 90⟩, ⟨1100, 120⟩, ⟨700, 150⟩, ⟨420, 190⟩, ⟨200, 250⟩]

/-- Every item at its default (00_scope.md 6, R182). -/
def defaultSettings : Settings :=
  { axis := axisDefaults
    parkCeiling := 60, lowShare := 4, braceAllowance := 200, stagger := 80, braceStagger := 20
    fanClaim := { l0 := 0, l1 := 4, l2 := 7, l3 := 11 }
    compressorClaim := 30, monitorInterval := 2
    debounce := 20, stuckLimit := 30
    recallLimit := 15, exitOffset := 600
    tolerance := 8, burstTime := 300, settleTime := 150, burstLimit := 12, queueLimit := 12
    fullScale := 400, sessionLimit := 15
    zone := { c := zoneDefault 2400, b := zoneDefault 3000 }
    fanDuty := { l0 := 0, l1 := 90, l2 := 160, l3 := 255 }
    ntc := ntcDefault
    holdLimit := 3, wakeInterval := 40 }

/-- Highest axis position (00_scope.md 5.1). -/
def maxPosition : Nat := 16383
/-- The low stop of an axis whose stops are known (table of 1.2). -/
def lowStopPosition : Nat := 256
/-- Position of an axis whose record is bad (R26). -/
def defaultPosition : Nat := 8192
/-- Overcurrent blanking after a bridge-on, ms (R19). -/
def blankingTime : Nat := 10
/-- Overcurrent measurement, ms (R19). -/
def overcurrentTime : Nat := 2
/-- Key re-arm time, ms (R51). -/
def rearmTime : Nat := 50
/-- Store window, ms (R51). -/
def storeWindowTime : Nat := 5000
/-- Threshold settle, ms (R46). -/
def thresholdSettleTime : Nat := 2
/-- Ceiling after either reset, LU (R50). -/
def resetCeiling : Nat := 120
/-- LOW threshold after either reset, mV (R50). -/
def resetLowThreshold : Nat := 11000
/-- CUTOFF threshold after either reset, mV (R50). -/
def resetCutoffThreshold : Nat := 8000
/-- Compressor wait limit, ms (5.3). -/
def compressorWaitLimit : Nat := 2000
/-- Pressure ceiling (5.3). -/
def pressureCeiling : Nat := 900
/-- Brace bolster pressure (5.3). -/
def bracePressure : Nat := 700
/-- Lumbar maximum (5.3). -/
def lumbarMaximum : Nat := 600
/-- Lumbar step (5.3). -/
def lumbarStepSize : Nat := 20
/-- Cycle rest, ms (R116). -/
def cycleRestTime : Nat := 10
/-- Places of the step store (R107). -/
def stepStoreSize : Nat := 160
/-- Limit temperature, half-degrees (7.1). -/
def limitTemperature : Int := 120
/-- Recovery margin, half-degrees (7.1). -/
def recoveryMargin : Int := 10
/-- Ventilation offset, half-degrees (7.1). -/
def ventilationOffset : Int := 4
/-- Room of the notice queue (R173). -/
def noticeRoom : Nat := 16
/-- Entries up to which link-requested writes are taken (R177). -/
def linkWriteRoom : Nat := 9

end Sys2Proof.Machine
end

