-- ==== Sys2Proof/Machine/State.lean ====
section
/-! DEFINITION. The state of the part, as plain data: every piece of state the spec gives it (INVENTORY.md, State), and the
state after reset. Timers are the ms they have left, `none` when they do not run (notes/assumptions/1.md). -/
namespace Sys2Proof.Machine

/-! ### Seat axes (1.2) -/

/-- Trust in position and stops. -/
inductive Confidence where
  | unlearned | learned | suspect
  deriving DecidableEq, Repr

/-- Bridge and claim condition (1.5). -/
inductive Drive where
  | idle | waitGrant | driving | coasting | fault
  deriving DecidableEq, Repr

/-- Party whose move is in progress. -/
inductive Owner where
  | none | manual | link | recall | learn | brace
  deriving DecidableEq, Repr

/-- Result of an ended move. -/
inductive MoveResult where
  | reached | missed | obstacle | endStop | shedAbort | fault | aborted
  deriving DecidableEq, Repr

/-- Why the bridge last left DRIVING (R12). -/
inductive Cause where
  | lead | limit | stall | request | shed
  deriving DecidableEq, Repr

/-- Whether this run's dirty mark has been written (R8). -/
inductive DirtyMark where
  | notMarked | queued | marked
  deriving DecidableEq, Repr

/-- Progress of a learn run (R23). -/
inductive LearnPhase where
  | none | low | high | settle
  deriving DecidableEq, Repr

/-- The bridge outputs of an axis (R12). -/
inductive Bridge where
  | released | drivenDown | drivenUp | braked
  deriving DecidableEq, Repr

/-- JOG, or TO_TARGET with its target. -/
inductive MoveKind where
  | jog
  | toTarget (target : Nat)
  deriving DecidableEq, Repr

/-- A move: its kind, its direction, and the ms left of a link jog's expiry (R21). -/
structure Move where
  kind : MoveKind
  dir : Dir
  expiry : Option Nat
  deriving DecidableEq, Repr

/-- A pending move with its owner (R16). -/
structure Pending where
  move : Move
  owner : Owner
  deriving DecidableEq, Repr

/-- One axis channel. From `bridge` on, the fields are what 1.3 to 1.8 imply: the bridge, the direction it was last driven
in, the running timers, the comparator, the result that the end of the coast will write (`none` with cause LEAD: judged
then by R14), whether that end is reported to the owner, and whether the axis waits after a shed (R18). -/
structure AxisState where
  position : Nat
  lowStop : Option Nat
  highStop : Option Nat
  confidence : Confidence
  drive : Drive
  owner : Owner
  move : Option Move
  pending : Option Pending
  leadUp : Nat
  leadDown : Nat
  disturbance : Nat
  lastResult : Option MoveResult
  resync : Int
  dirty : DirtyMark
  learn : LearnPhase
  cause : Option Cause
  bridge : Bridge
  driveDir : Dir
  stallLeft : Option Nat
  coastLeft : Option Nat
  blankLeft : Option Nat
  overcurrentLeft : Option Nat
  comparator : Bool
  coastResult : Option MoveResult
  coastReport : Bool
  afterShed : Bool
  deriving DecidableEq, Repr

/-- The accepted level of a hall front end (R3). -/
inductive HallLevel where
  | high | low | unknown
  deriving DecidableEq, Repr

/-- A hall front end (R3, R4): the accepted level, the agreeing run (its level and its length), the measured low so far in
µs, and the spacing in µs to the next sample. -/
structure Hall where
  accepted : HallLevel
  runHigh : Bool
  runLength : Nat
  lowMicros : Nat
  spacing : Nat
  deriving DecidableEq, Repr

/-! ### Supply allocator and monitor (chapter 2) -/

/-- The nine indivisible consumers (R27). -/
inductive Consumer where
  | axis (a : Axis)
  | compressor
  | fan (z : Zone)
  deriving DecidableEq, Repr

/-- A claim (R28); `level` is the fan level it is for, 0 for any other consumer. -/
structure Claim where
  consumer : Consumer
  cls : Nat
  amount : Nat
  arrival : Nat
  level : Nat
  deriving DecidableEq, Repr

/-- A claim of the granted set with its grant stamp (R28). -/
structure Grant where
  claim : Claim
  stamp : Nat
  deriving DecidableEq, Repr

/-- A running stagger window (R38): its length, the length to its brace point, the ms left, whether that point has passed. -/
structure Stagger where
  length : Nat
  braceLength : Nat
  left : Nat
  bracePassed : Bool
  deriving DecidableEq, Repr

/-- The supply allocator. The heater demands and grants are held in the zone records. -/
structure Alloc where
  pending : List Claim
  granted : List Grant
  nextArrival : Nat
  nextGrant : Nat
  cSet : Nat
  ceiling : Nat
  stagger : Option Stagger
  deriving DecidableEq, Repr

/-- The monitor's judgement of the supply (R45). -/
inductive MonitorState where
  | normal | low | cutoff
  deriving DecidableEq, Repr

/-- The supply monitor: samples are in mV, newest last. -/
structure Monitor where
  window : List Nat
  v : Nat
  belowLow : Nat
  belowCutoff : Nat
  clearLow : Nat
  clearCutoff : Nat
  state : MonitorState
  lowThreshold : Nat
  cutoffThreshold : Nat
  settleLeft : Option Nat
  sampleLeft : Option Nat
  deriving DecidableEq, Repr

/-! ### Switch scanner (chapter 3) -/

/-- Condition of a pressed contact (3.2). -/
inductive Condition where
  | active | heldOff | stuck
  deriving DecidableEq, Repr

/-- One contact: raw level, accepted level, condition, debounce and stuck timers. -/
structure ContactState where
  closed : Bool
  pressed : Bool
  cond : Option Condition
  debounce : Option Nat
  stuckLeft : Option Nat
  deriving DecidableEq, Repr

/-- The scanner. `stepNo` numbers the lumbar steps it hands, `waiting` holds the bladders whose operations of the last step
have not ended (R60). -/
structure Scanner where
  axes : PerAxis (PerDir ContactState)
  lumbar : PerLumbar ContactState
  keys : PerKey ContactState
  armed : PerKey Bool
  rearm : PerKey (Option Nat)
  window : Option Nat
  stepNo : Nat
  waiting : List Bladder
  deriving DecidableEq, Repr

/-! ### Profiles and recall (chapter 4) -/

/-- Heat and fan level of one zone in a climate part. -/
structure Climate where
  heat : Nat
  fan : Nat
  deriving DecidableEq, Repr

/-- A profile slot: valid flag, axis part, support part (support bladders only), climate part. -/
structure Profile where
  valid : Bool
  axes : PerAxis (Option Nat)
  support : PerBladder (Option Nat)
  climate : Option (PerZone Climate)
  deriving DecidableEq, Repr

/-- Who started a recall (4.3). -/
inductive Source where
  | key | link | easyEntry | standDown
  deriving DecidableEq, Repr

inductive Phase where
  | wave1 | wave2 | done | aborted
  deriving DecidableEq, Repr

/-- How a recall ended (4.3). -/
inductive RecallOutcome where
  | complete | partlyDone | superseded | bySwitch | keyReleased | stopped | timeout | preempted
  deriving DecidableEq, Repr

/-- Result of one axis in a recall context (4.3). -/
inductive RecallResult where
  | none | waiting | running | notStarted
  | ended (r : MoveResult)
  | unlearned
  deriving DecidableEq, Repr

inductive Wave where
  | one | two
  deriving DecidableEq, Repr

/-- A recall context, or its copy in the last-recall record. `slot` is `none` for an easy exit. -/
structure Recall where
  slot : Option Slot
  source : Source
  deadMan : Option Key
  phase : Phase
  outcome : Option RecallOutcome
  target : PerAxis (Option Nat)
  wave : PerAxis (Option Wave)
  result : PerAxis RecallResult
  left : Nat
  deriving DecidableEq, Repr

/-! ### Gallery (chapter 5) -/

inductive OpKind where
  | fill | vent | measure
  deriving DecidableEq, Repr

inductive Origin where
  | support | massage | brace
  deriving DecidableEq, Repr

inductive OpResult where
  | done | limit | starved | preempted | cancelled | sensor
  deriving DecidableEq, Repr

/-- A gallery operation (5.4). `seed` marks a seeding operation, whose result goes to no party (R106); `step` is the number
of the lumbar step of the scanner that queued it (R60). The target of a MEASURE is 0. -/
structure Op where
  bladder : Bladder
  kind : OpKind
  target : Nat
  origin : Origin
  bursts : Nat
  seed : Bool
  step : Option Nat
  deriving DecidableEq, Repr

inductive GalleryState where
  | idle | filling | venting | settling | measuring | fault
  deriving DecidableEq, Repr

/-- A bladder record (R88); "connected" is computed (R87). -/
structure BladderState where
  measured : Option Nat
  comfort : Option Nat
  lastTarget : Nat
  lastResult : Option OpResult
  deriving DecidableEq, Repr

structure Gallery where
  state : GalleryState
  inFlight : Option Op
  queue : List Op
  burstLeft : Option Nat
  waitLeft : Option Nat
  settleLeft : Option Nat
  lastReading : Option Nat
  bladders : PerBladder BladderState
  deriving DecidableEq, Repr

/-! ### Massage (chapter 6) -/

/-- A present entry of the pattern directory (R107). -/
structure PatternEntry where
  start : Nat
  length : Nat
  cells : CellSet
  deriving DecidableEq, Repr

/-- The staging area while open (6.2). -/
structure Staging where
  pattern : PatternNo
  declared : Nat
  steps : List StepRec
  deriving DecidableEq, Repr

/-- The pattern directory, the step store (the places in use, from place 0) and the staging area. -/
structure Patterns where
  directory : PerPattern (Option PatternEntry)
  steps : List StepRec
  staging : Option Staging
  deriving DecidableEq, Repr

inductive EngineState where
  | off | running | paused | stopping
  deriving DecidableEq, Repr

inductive EndReason where
  | stop | session | failed | brace | crash | sensor
  deriving DecidableEq, Repr

/-- An entry of the repeat stack (6.3). -/
structure Repeat where
  index : Nat
  remaining : Nat
  deriving DecidableEq, Repr

/-- What the step in progress, or the stop, asks of the gallery for each of its cells (R115, R118). -/
structure CellOp where
  kind : OpKind
  target : Nat
  deriving DecidableEq, Repr

/-- The engine and its context (6.3). `asking` is the operation of an INFLATE or DEFLATE step or of the stop vents in
progress, `holdLeft` the wait of a HOLD step, `restLeft` the cycle rest. The top of the repeat stack is its head. -/
structure Engine where
  state : EngineState
  pattern : Option PatternNo
  index : Nat
  stack : List Repeat
  intensity : Nat
  speed : Nat
  pendingIntensity : Option Nat
  pendingSpeed : Option Nat
  sessionLeft : Nat
  outstanding : CellSet
  stillToAsk : CellSet
  failed : CellSet
  held : CellSet
  endReason : Option EndReason
  asking : Option CellOp
  holdLeft : Option Nat
  restLeft : Option Nat
  deriving DecidableEq, Repr

/-! ### Climate (chapter 7) -/

inductive ZoneMode where
  | off | regulating | overheat | sensorFault
  deriving DecidableEq, Repr

/-- A zone record (R123); `level3` is the time at level 3 in ms, `vUsed` the V of the last loop sample (R137). -/
structure ZoneState where
  heat : Nat
  fan : Nat
  mode : ZoneMode
  ntc : Option Nat
  temp : Option Int
  i16 : Int
  capped : Bool
  current : Nat
  demand : Nat
  grant : Nat
  loopDuty : Nat
  dutyOut : Nat
  level3 : Nat
  sampleLeft : Option Nat
  vUsed : Nat
  deriving DecidableEq, Repr

/-! ### Brace (chapter 8) -/

inductive BraceMode where
  | idle | bracing | braced | releasing | locked
  deriving DecidableEq, Repr

inductive AxisAction where
  | none | fault | unlearned | inWindow | running
  | ended (r : MoveResult)
  deriving DecidableEq, Repr

inductive AirAction where
  | none | notTaken | running
  | ended (r : OpResult)
  deriving DecidableEq, Repr

/-- The restore outcome that a BRACE_STATE notice carries (R151, 12.1.4). -/
inductive RestoreOutcome where
  | none | complete | partlyDone | timeout | bySwitch
  deriving DecidableEq, Repr

structure Brace where
  mode : BraceMode
  grade : Nat
  holdLeft : Option Nat
  driven : PerAxis Bool
  axisAction : PerAxis AxisAction
  bolster : PerBolster AirAction
  vents : PerBolster AirAction
  crash : Option CrashKind
  restore : RestoreOutcome
  deriving DecidableEq, Repr

/-! ### Safety line (chapter 9) -/

inductive Receiver where
  | waitHigh | waitLead | leadIn | gap | cal | symbols | turnaround | reply | stuck
  deriving DecidableEq, Repr

/-- Outcome of a safety frame: TAKEN, or the reason of its drop or refusal (R166). -/
inductive FrameOutcome where
  | taken | lead | gap | calRange | symbol | timeout | check | unknown | argument | wake
  deriving DecidableEq, Repr

inductive ReplyOutcome where
  | sent | collision | none
  deriving DecidableEq, Repr

structure FrameRecord where
  command : Option Nat
  argument : Option Nat
  outcome : FrameOutcome
  reply : ReplyOutcome
  deriving DecidableEq, Repr

/-- The receiver. `low` is the level that the line has when the part does not pull it, `driving` the length in µs of the low that
the part pulls for a reply symbol, none while it has the line released (R164). Symbols are held first to last. -/
structure SafetyLine where
  receiver : Receiver
  w : Option Nat
  symbols : List Bool
  replyFields : List Bool
  replyIndex : Nat
  stuck : Bool
  record : Option FrameRecord
  low : Bool
  driving : Option Nat
  deriving DecidableEq, Repr

/-! ### Comfort link, notices (chapter 10) -/

/-- Result codes in the order of their coding (12.1.1). -/
inductive Result where
  | accepted | busy | range | state | restricted | unknown | length | empty | full | invalid
  deriving DecidableEq, Repr

inductive Vehicle where
  | parked | moving
  deriving DecidableEq, Repr

/-- The link: last result, header captured at the last falling edge of chip-select, whether a frame has begun and not ended,
the reply captured for it and for which frame, and the read data of the last frame. -/
structure Link where
  lastResult : Result
  vehicle : Vehicle
  header : Word16
  begun : Bool
  captured : Option (ReadFrame × List Byte)
  reply : List Byte
  deriving DecidableEq, Repr

inductive NoticeKind where
  | axisSuspect | axisResync | axisObstacle | axisFault | axisLearned | learnFailed
  | shed | supplyState | switchStuck | keyRefused | recallDone | galleryFault | massageStopped
  | sensorFault | heatOverheat | heatStepdown | braceState | stuck | safetyCollision | safetyFrame | recordDefaulted
  deriving DecidableEq, Repr

inductive Subject where
  | none
  | axis (a : Axis)
  | bladder (b : Bladder)
  | zone (z : Zone)
  | pattern (p : PatternNo)
  | link
  deriving DecidableEq, Repr

structure Notice where
  kind : NoticeKind
  subject : Subject
  detail : Word16
  count : Nat
  deriving DecidableEq, Repr

/-- The entry that READ NOTICE captured (R174): its kind and subject, the count that was read, and whether a notice has
coalesced into it since. -/
structure NoticeCapture where
  kind : NoticeKind
  subject : Subject
  count : Nat
  coalesced : Bool
  deriving DecidableEq, Repr

/-- The notice queue, oldest first, notices-lost, and the captured entry. -/
structure Notices where
  queue : List Notice
  lost : Bool
  captured : Option NoticeCapture
  deriving DecidableEq, Repr

/-! ### Retained store (chapter 11) -/

/-- A retained axis record (R176). -/
structure AxisRecord where
  position : Nat
  highStop : Option Nat
  confidence : Confidence
  leadUp : Nat
  leadDown : Nat
  clean : Bool
  deriving DecidableEq, Repr

/-- A write of a record: which record, and the contents captured when it was queued (R176). -/
inductive RecordWrite where
  | axis (a : Axis) (r : AxisRecord)
  | profile (p : Retained4) (r : Profile)
  | pattern (p : PatternNo) (steps : Option (List StepRec))
  | configuration (r : Settings)
  | crashLock (k : Option CrashKind)
  deriving DecidableEq, Repr

/-- One copy of a record: its sequence number, whether its check passes, its contents (R176). -/
structure Copy (α : Type) where
  seq : Nat
  good : Bool
  contents : α
  deriving DecidableEq, Repr

/-- The two copies of a record (R176). -/
structure Copies (α : Type) where
  one : Copy α
  two : Copy α
  deriving DecidableEq, Repr

/-- The twenty retained records. -/
structure Records where
  axis : PerAxis (Copies AxisRecord)
  profile : PerProfile (Copies Profile)
  pattern : PerPattern (Copies (Option (List StepRec)))
  configuration : Copies Settings
  crashLock : Copies (Option CrashKind)
  deriving DecidableEq, Repr

/-- The store queue, oldest first, and the write in flight (R177). -/
structure StoreQueue where
  queue : List RecordWrite
  inFlight : Option RecordWrite
  deriving DecidableEq, Repr

/-- RUN, PARKING, PARKED (R180, R181), the drain of a warm reset (R183), and no supply (R176). -/
inductive Power where
  | run | parking | parked | draining | off
  deriving DecidableEq, Repr

/-! ### The whole part -/

/-- What the hand-overs between blocks inside one step read and never change. -/
structure Base where
  power : Power
  wakeLeft : Option Nat
  fit : Fitment
  cfg : Settings
  hall : PerAxis Hall
  monitor : Monitor
  patterns : Patterns
  line : SafetyLine
  link : Link
  records : Records
  deriving DecidableEq, Repr

/-- What the hand-overs between blocks change. -/
structure Seat where
  axes : PerAxis AxisState
  alloc : Alloc
  scanner : Scanner
  profiles : PerSlot Profile
  recallCtx : Option Recall
  lastRecall : Option Recall
  gallery : Gallery
  engine : Engine
  zones : PerZone ZoneState
  brace : Brace
  notices : Notices
  store : StoreQueue
  deriving DecidableEq, Repr

/-- The state of the part, and the commands that wait, first in first out. -/
structure State where
  pending : List Instr
  base : Base
  seat : Seat
  deriving DecidableEq, Repr

/-- The part has no fault that stops it: every fault of the spec is a state of a block (an axis in FAULT, the gallery in
FAULT, a zone in SENSOR_FAULT) or a refusal with a result code. Nobody raises this constructor; it is safe. -/
inductive Fault where
  /-- Raised by nobody. Safe. -/
  | impossible
  deriving DecidableEq, Repr

/-- Why a command has no meaning. -/
inductive Refusal where
  /-- Raised by an arm of exec whose command has no meaning yet; no arm does so. Safe. -/
  | notModelled (mnemonic : String)
  deriving DecidableEq, Repr

/-! ### Reset values -/

namespace Reset

/-- An axis at the reset values of R26, with the values its record gave. -/
def axis (position : Nat) (high : Option Nat) (conf : Confidence) (leadUp leadDown : Nat) : AxisState :=
  { position := position, lowStop := high.map (fun _ => lowStopPosition), highStop := high, confidence := conf,
    drive := .idle, owner := .none, move := none, pending := none, leadUp := leadUp, leadDown := leadDown,
    disturbance := 0, lastResult := none, resync := 0, dirty := .notMarked, learn := .none, cause := none,
    bridge := .released, driveDir := .down, stallLeft := none, coastLeft := none, blankLeft := none,
    overcurrentLeft := none, comparator := false, coastResult := none, coastReport := false, afterShed := false }

/-- A hall front end after a reset or a wake (R3). -/
def hall (interval : Nat) : Hall :=
  { accepted := .unknown, runHigh := false, runLength := 0, lowMicros := 0, spacing := interval }

/-- The allocator after a reset (R50); E is C_set, since the monitor is NORMAL and no brace runs (R33). -/
def alloc : Alloc :=
  { pending := [], granted := [], nextArrival := 0, nextGrant := 0, cSet := resetCeiling, ceiling := resetCeiling, stagger := none }

/-- The monitor after a reset (R44, R50). -/
def monitor (interval : Nat) : Monitor :=
  { window := [], v := 0, belowLow := 0, belowCutoff := 0, clearLow := 0, clearCutoff := 0, state := .normal,
    lowThreshold := resetLowThreshold, cutoffThreshold := resetCutoffThreshold, settleLeft := none, sampleLeft := some interval }

/-- A contact after a reset (R62). -/
def contact : ContactState :=
  { closed := false, pressed := false, cond := none, debounce := none, stuckLeft := none }

/-- The scanner after a reset (R62). -/
def scanner : Scanner :=
  { axes := .all (.all contact), lumbar := .all contact, keys := .all contact, armed := .all true, rearm := .all none,
    window := none, stepNo := 0, waiting := [] }

/-- A slot that holds nothing (4.1). -/
def profile : Profile := { valid := false, axes := .all none, support := .all none, climate := none }

/-- A bladder after a reset (R106). -/
def bladder : BladderState := { measured := none, comfort := none, lastTarget := 0, lastResult := none }

/-- A seeding vent of R106. -/
def seedVent (b : Bladder) : Op :=
  { bladder := b, kind := .vent, target := 0, origin := .support, bursts := 0, seed := true, step := none }

/-- A seeding measurement of R106. -/
def seedMeasure (b : Bladder) : Op :=
  { bladder := b, kind := .measure, target := 0, origin := .support, bursts := 0, seed := true, step := none }

/-- The seeding operations of R106, in order. -/
def seeding : List Op :=
  [seedVent .m1, seedVent .m2, seedVent .m3, seedVent .m4, seedVent .m5, seedVent .m6, seedVent .m7, seedVent .m8,
   seedMeasure .lu, seedMeasure .ll, seedMeasure .bbl, seedMeasure .bbr, seedMeasure .cbl, seedMeasure .cbr]

/-- The gallery after a reset, before its queue is served (R106). -/
def gallery (queue : List Op) : Gallery :=
  { state := .idle, inFlight := none, queue := queue, burstLeft := none, waitLeft := none, settleLeft := none,
    lastReading := none, bladders := .all bladder }

/-- The engine after a reset (R122). -/
def engine : Engine :=
  { state := .off, pattern := none, index := 0, stack := [], intensity := 1, speed := 1, pendingIntensity := none,
    pendingSpeed := none, sessionLeft := 0, outstanding := 0, stillToAsk := 0, failed := 0, held := 0, endReason := none,
    asking := none, holdLeft := none, restLeft := none }

/-- A zone after a reset (R138). -/
def zone (period : Nat) : ZoneState :=
  { heat := 0, fan := 0, mode := .off, ntc := none, temp := none, i16 := 0, capped := false, current := 0, demand := 0,
    grant := 0, loopDuty := 0, dutyOut := 0, level3 := 0, sampleLeft := some period, vUsed := 0 }

/-- The brace controller after a reset, with what the crash-lock record gave (R158). -/
def brace (lock : Option CrashKind) : Brace :=
  { mode := if lock.isSome then .locked else .idle, grade := 0, holdLeft := none, driven := .all false,
    axisAction := .all .none, bolster := .all .none, vents := .all .none, crash := lock, restore := .none }

/-- The receiver after a reset, by the line's level (R159). -/
def line (high : Bool) : SafetyLine :=
  { receiver := if high then .waitLead else .waitHigh, w := none, symbols := [], replyFields := [], replyIndex := 0,
    stuck := false, record := none, low := !high, driving := none }

/-- The link after a reset (R169, R175). -/
def link : Link :=
  { lastResult := .accepted, vehicle := .moving, header := 0, begun := false, captured := none, reply := [] }

/-- The notice queue after a reset (R175). -/
def notices : Notices := { queue := [], lost := false, captured := none }

/-- A record that has never been written: neither copy passes its check (notes/assumptions/7.md). -/
def blank {α : Type} (contents : α) : Copies α :=
  { one := { seq := 0, good := false, contents := contents }, two := { seq := 0, good := false, contents := contents } }

/-- The contents of a never-written axis record; no load reads them. -/
def axisRecord : AxisRecord :=
  { position := 0, highStop := none, confidence := .unlearned, leadUp := 0, leadDown := 0, clean := false }

/-- A retained store that has never been written (notes/assumptions/7.md). -/
def records : Records :=
  { axis := .all (blank axisRecord), profile := .all (blank profile), pattern := .all (blank none),
    configuration := blank defaultSettings, crashLock := blank none }

/-- A notice as it first enters the queue (R173). -/
def firstNotice (k : NoticeKind) (s : Subject) (detail : Word16) : Notice :=
  { kind := k, subject := s, detail := detail, count := 1 }

/-- The RECORD_DEFAULTED notices of a part whose twenty records are all bad (R182): the configuration, crash-lock and profile
records share the subject none, the last of them being P4. -/
def defaultedNotices : List Notice :=
  [{ firstNotice .recordDefaulted .none 6 with count := 6 },
   firstNotice .recordDefaulted (.axis .slide) 2, firstNotice .recordDefaulted (.axis .lift) 2,
   firstNotice .recordDefaulted (.axis .tilt) 2, firstNotice .recordDefaulted (.axis .recline) 2,
   firstNotice .recordDefaulted (.axis .headrest) 2, firstNotice .recordDefaulted (.axis .extend) 2,
   firstNotice .recordDefaulted (.pattern .n1) 7, firstNotice .recordDefaulted (.pattern .n2) 7,
   firstNotice .recordDefaulted (.pattern .n3) 7, firstNotice .recordDefaulted (.pattern .n4) 7,
   firstNotice .recordDefaulted (.pattern .n5) 7, firstNotice .recordDefaulted (.pattern .n6) 7,
   firstNotice .recordDefaulted (.pattern .n7) 7, firstNotice .recordDefaulted (.pattern .n8) 7]

/-- The gallery once the first seeding operation is served (R91, R93, R106). -/
def galleryServed : Gallery :=
  { gallery seeding.tail with
    state := .venting, inFlight := some { seedVent .m1 with bursts := 1 }, burstLeft := some defaultSettings.burstTime }

end Reset

/-- The part right after a power-on reset with the FULL strap, the safety line high, and a retained store that has never
been written (R182 and the reset table of each chapter; notes/assumptions/7.md). -/
def State.reset : State :=
  { pending := []
    base :=
      { power := .run, wakeLeft := none, fit := .full, cfg := defaultSettings
        hall := .all (Reset.hall 32)
        monitor := Reset.monitor defaultSettings.monitorInterval
        patterns := { directory := .all none, steps := [], staging := none }
        line := Reset.line true
        link := Reset.link
        records := Reset.records }
    seat :=
      { axes := .all (Reset.axis defaultPosition none .unlearned 6 6)
        alloc := Reset.alloc
        scanner := Reset.scanner
        profiles := .all Reset.profile
        recallCtx := none, lastRecall := none
        gallery := Reset.galleryServed
        engine := Reset.engine
        zones := .all (Reset.zone 250)
        brace := Reset.brace none
        notices := { Reset.notices with queue := Reset.defaultedNotices }
        store := { queue := [], inFlight := none } } }

end Sys2Proof.Machine
end

