-- ==== Sys2Proof/Machine/Task.lean ====
section
/-! DEFINITION. The hand-overs between blocks inside one step, as data. A block that acts answers the new seat and the
hand-overs that follow from it; Settle.lean carries them out in order (notes/assumptions/5.md). -/
namespace Sys2Proof.Machine

/-- One hand-over from a block to a block. -/
inductive Task where
  /-- An allocation pass is called for (R32). -/
  | pass
  /-- The shedding of the pass in progress (R35). -/
  | shed
  /-- The admission walk of the pass in progress (R37). -/
  | walk
  /-- A grant is handed to its consumer (R32). -/
  | granted (c : Consumer)
  /-- A shed is handed to its axis (R36). -/
  | axisShed (a : Axis)
  /-- A shed is handed to the gallery (R36). -/
  | compressorShed
  /-- The heater share of the pass in progress, which began with these grants (R39). -/
  | share (c b : Nat)
  /-- A Coast window ends (R13). -/
  | coastEnd (a : Axis)
  /-- An axis reports the end of a move to its owner (R13, R17). -/
  | moveEnded (a : Axis) (o : Owner) (r : MoveResult)
  /-- A recall hands the move of one axis (R73). -/
  | recallHand (a : Axis)
  /-- The sequencer looks whether a wave or the recall has ended (R73, R76). -/
  | recallCheck
  /-- A recall starts from a slot (R71). -/
  | recallStart (slot : Slot) (source : Source) (deadMan : Option Key)
  /-- A recall applies one entry of its support part (R74). -/
  | applySupport (b : Bladder) (target : Nat)
  /-- A level is set by the climate part of a recall (R75). -/
  | applyHeat (z : Zone) (level : Nat)
  | applyFan (z : Zone) (level : Nat)
  /-- The gallery serves its head when it is IDLE (R91). -/
  | serve
  /-- An operation has ended and the gallery enters IDLE (R96). -/
  | galleryIdle
  /-- A result is handed to the party of an operation's origin (R96). -/
  | opResult (op : Op) (r : OpResult)
  /-- GALLERY_FAULT for a sensor fault is posted (R97). -/
  | sensorNotice (code : Nat)
  /-- The engine begins the step at its index (R115, R116). -/
  | engineBegin
  /-- The engine asks the gallery for the next cell of its list (R115, R118). -/
  | engineAsk
  /-- The engine looks whether its step or its stop has ended (R115, R118). -/
  | engineCheck
  /-- The gallery queue has lost an entry, or its limit was raised (R117). -/
  | engineRetry
  /-- The scanner hands a step of its ACTIVE lumbar contact (R60). -/
  | lumbarNext
  /-- A press acts (R56, R57, R60). -/
  | axisPress (a : Axis) (d : Dir)
  | keyAct (k : Key)
  | lumbarAct (l : LumbarStep)
  /-- A brace asks a fill (R143), hands a move (R142), or has done every step of its entry (R141, R146, R152). -/
  | braceFill (x : Bolster)
  | braceMove (a : Axis) (target : Nat)
  | braceEntered
  | braceCheck
  /-- A stand-down asks a vent, hands the massage stop, or has done every step of its entry (R148, R150). -/
  | standDownVent (x : Bolster)
  | massageStop
  | releasingEntered
  | releasingCheck
  /-- The loop sample of a zone ends with the grant now held (R130). -/
  | loopEnd (z : Zone)
  deriving DecidableEq, Repr

/-- What a block answers: the seat it leaves, and the hand-overs that follow, first to last. -/
abbrev Did := Seat × List Task

/-- Do `f` on the seat that `x` left, and add its hand-overs behind those of `x`. -/
def andThen (x : Did) (f : Seat → Did) : Did :=
  match x with
  | (s, before) =>
    match f s with
    | (s1, after) => (s1, before ++ after)

/-- Do `f` for each member of a list, in order. -/
def forEach {α : Type} (l : List α) (f : α → Seat → Did) (s : Seat) : Did :=
  l.foldl (fun x i => andThen x (f i)) (s, [])

/-- Nothing follows. -/
def done (s : Seat) : Did := (s, [])

end Sys2Proof.Machine
end

