-- ==== Sys2Proof/Machine/Ops.lean ====
section
/-! DEFINITION. The named operations that every block shares: which axes are present, the axis and contact records, the
notice queue (R173), the store queue (R177) and the claims (R29 to R31). -/
namespace Sys2Proof.Machine

/-! ### Presence and orders -/

/-- The axes in the order of the axis table. -/
def axisOrder : List Axis := [.slide, .lift, .tilt, .recline, .headrest, .extend]
/-- The order in which a recall judges and hands (R71, R73). -/
def recallOrder : List Axis := [.slide, .recline, .lift, .tilt, .extend, .headrest]
/-- The order in which a brace judges and hands (R142). -/
def braceOrder : List Axis := [.recline, .slide, .tilt, .lift, .headrest, .extend]
/-- The order of the bolsters (R143). -/
def bolsterOrder : List Bolster := [.bbl, .bbr, .cbl, .cbr]
/-- The support bladders in order. -/
def supportOrder : List Bladder := [.lu, .ll, .bbl, .bbr, .cbl, .cbr]
/-- The massage cells in order, M1 first. -/
def cellOrder : List Bladder := [.m1, .m2, .m3, .m4, .m5, .m6, .m7, .m8]

/-- R1: BASIC omits HEADREST and EXTEND. -/
def present (f : Fitment) (a : Axis) : Bool :=
  match f, a with
  | .full, _ => true
  | .basic, .headrest => false
  | .basic, .extend => false
  | .basic, _ => true

/-- The present axes among a list. -/
def presentIn (f : Fitment) (l : List Axis) : List Axis := l.filter (present f)

/-- R52: the contacts of an absent axis are absent. -/
def contactPresent (f : Fitment) (c : Contact) : Bool :=
  match c with
  | .axis a _ => present f a
  | _ => true

/-- RUN, and PARKING, in which the part works as in RUN (R180). -/
def running (p : Power) : Bool :=
  match p with
  | .run => true
  | .parking => true
  | _ => false

/-! ### Axis and contact records -/

def axisOf (s : Seat) (a : Axis) : AxisState := s.axes.get a

def putAxis (s : Seat) (a : Axis) (x : AxisState) : Seat := { s with axes := s.axes.set a x }

def contactOf (sc : Scanner) (c : Contact) : ContactState :=
  match c with
  | .axis a d => (sc.axes.get a).get d
  | .lumbar l => sc.lumbar.get l
  | .key k => sc.keys.get k

def putContact (sc : Scanner) (c : Contact) (x : ContactState) : Scanner :=
  match c with
  | .axis a d => { sc with axes := sc.axes.set a ((sc.axes.get a).set d x) }
  | .lumbar l => { sc with lumbar := sc.lumbar.set l x }
  | .key k => { sc with keys := sc.keys.put k x }

/-- Set the condition of a contact. -/
def setCondition (s : Seat) (c : Contact) (k : Condition) : Seat :=
  { s with scanner := putContact s.scanner c { contactOf s.scanner c with cond := some k } }

def isActive (s : Seat) (c : Contact) : Bool := (contactOf s.scanner c).cond = some .active

/-- An ACTIVE contact becomes HELD_OFF; any other keeps its condition. -/
def holdOff (s : Seat) (c : Contact) : Seat :=
  if isActive s c then setCondition s c .heldOff else s

/-- The other contact of an axis pair. -/
def partner (d : Dir) : Dir :=
  match d with
  | .down => .up
  | .up => .down

def lumbarOrder : List LumbarStep := [.stepIn, .stepOut, .stepUp, .stepDown]
def keyOrder : List Key := [.mem1, .mem2, .mem3, .set]

/-- The contacts in the order of their coding (12.1.2). -/
def contactOrder : List Contact :=
  axisOrder.flatMap (fun a => [.axis a .up, .axis a .down]) ++ lumbarOrder.map .lumbar ++ keyOrder.map .key

/-! ### Notices (R173) -/

def sameNotice (k : NoticeKind) (sub : Subject) (n : Notice) : Bool := n.kind = k ∧ n.subject = sub

/-- R173: the count rises by 1 to at most 255, and the detail becomes the new one. -/
def coalesce (k : NoticeKind) (sub : Subject) (detail : Word16) (n : Notice) : Notice :=
  if sameNotice k sub n then { n with detail := detail, count := min 255 (n.count + 1) } else n

/-- A coalescing marks the captured entry it reaches (R174). -/
def markCapture (k : NoticeKind) (sub : Subject) (c : NoticeCapture) : NoticeCapture :=
  if c.kind = k ∧ c.subject = sub then { c with coalesced := true } else c

/-- R173: a notice coalesces, enters at the back, or is dropped with notices-lost set. -/
def postTo (n : Notices) (k : NoticeKind) (sub : Subject) (detail : Word16) : Notices :=
  if n.queue.any (sameNotice k sub) then
    { n with queue := n.queue.map (coalesce k sub detail), captured := n.captured.map (markCapture k sub) }
  else if n.queue.length < noticeRoom then
    { n with queue := n.queue ++ [{ kind := k, subject := sub, detail := detail, count := 1 }] }
  else { n with lost := true }

def post (s : Seat) (k : NoticeKind) (sub : Subject) (detail : Word16) : Seat :=
  { s with notices := postTo s.notices k sub detail }

/-! ### The store queue (R177) -/

/-- The two writes name the same record. -/
def sameRecord (x y : RecordWrite) : Bool :=
  match x, y with
  | .axis a _, .axis b _ => a = b
  | .profile p _, .profile q _ => p = q
  | .pattern p _, .pattern q _ => p = q
  | .configuration _, .configuration _ => true
  | .crashLock _, .crashLock _ => true
  | _, _ => false

/-- R177: with no write in flight, the oldest entry leaves the queue and its write begins. -/
def startWrite (q : StoreQueue) : StoreQueue :=
  match q.inFlight, q.queue with
  | none, w :: rest => { queue := rest, inFlight := some w }
  | _, _ => q

/-- R177: a write that the queue takes replaces the entry of its record in place, or enters at the back. -/
def enterWrite (q : StoreQueue) (w : RecordWrite) : StoreQueue :=
  startWrite
    (if q.queue.any (sameRecord w) then { q with queue := q.queue.map (fun x => if sameRecord w x then w else x) }
     else { q with queue := q.queue ++ [w] })

/-- R177: a link-requested write is refused when its record has no entry and nine or more entries wait. -/
def refusesLinkWrite (q : StoreQueue) (w : RecordWrite) : Bool :=
  !q.queue.any (sameRecord w) && linkWriteRoom ≤ q.queue.length

def queueWrite (s : Seat) (w : RecordWrite) : Seat := { s with store := enterWrite s.store w }

/-- A write of the record waits or is in flight (notes/assumptions/34.md). -/
def writeOutstanding (q : StoreQueue) (w : RecordWrite) : Bool :=
  q.queue.any (sameRecord w) || (q.inFlight.map (sameRecord w)).getD false

/-- R178: the record of an axis with the values it holds. -/
def recordOf (x : AxisState) (clean : Bool) : AxisRecord :=
  { position := x.position, highStop := x.highStop, confidence := x.confidence, leadUp := x.leadUp, leadDown := x.leadDown,
    clean := clean }

def queueAxisRecord (s : Seat) (a : Axis) (clean : Bool) : Seat :=
  queueWrite s (.axis a (recordOf (axisOf s a) clean))

/-! ### Claims (R28 to R31) -/

def grantedClaim (al : Alloc) (c : Consumer) : Option Claim :=
  (al.granted.find? (fun g => g.claim.consumer = c)).map Grant.claim

def pendingClaim (al : Alloc) (c : Consumer) : Option Claim :=
  al.pending.find? (fun p => p.consumer = c)

def isGranted (al : Alloc) (c : Consumer) : Bool := al.granted.any (fun g => g.claim.consumer = c)

def isPending (al : Alloc) (c : Consumer) : Bool := al.pending.any (fun p => p.consumer = c)

def holdsClaim (al : Alloc) (c : Consumer) : Bool := isGranted al c || isPending al c

/-- G: the sum of the granted amounts (R28). -/
def grantedSum (l : List Grant) : Nat := (l.map (fun g => g.claim.amount)).sum

/-- Ahead in the claim list: by class, then by arrival stamp (R28). -/
def ahead (x y : Claim) : Bool := x.cls < y.cls || (x.cls = y.cls && x.arrival ≤ y.arrival)

/-- Enter a claim at the place its class and stamp give it. -/
def insertClaim (c : Claim) : List Claim → List Claim
  | [] => [c]
  | x :: rest => if ahead x c then x :: insertClaim c rest else c :: x :: rest

/-- R29: a new arrival. -/
def arrive (al : Alloc) (c : Consumer) (cls amount level : Nat) : Alloc :=
  { al with
    pending := insertClaim { consumer := c, cls := cls, amount := amount, arrival := al.nextArrival, level := level } al.pending
    nextArrival := al.nextArrival + 1 }

/-- Change every claim of a consumer, pending and granted, where it stands. -/
def mapClaims (al : Alloc) (c : Consumer) (f : Claim → Claim) : Alloc :=
  { al with
    pending := al.pending.map (fun p => if p.consumer = c then f p else p)
    granted := al.granted.map (fun g => if g.claim.consumer = c then { g with claim := f g.claim } else g) }

/-- R29: raise a claim; a claim already held only takes the new amount. A pass follows. -/
def raiseClaim (s : Seat) (c : Consumer) (cls amount level : Nat) : Did :=
  if holdsClaim s.alloc c then
    ({ s with alloc := mapClaims s.alloc c (fun x => { x with amount := amount, level := level }) }, [.pass])
  else ({ s with alloc := arrive s.alloc c cls amount level }, [.pass])

/-- Take every claim of a consumer out of the claim list and the granted set. -/
def dropClaims (al : Alloc) (c : Consumer) : Alloc :=
  { al with
    pending := al.pending.filter (fun p => p.consumer ≠ c)
    granted := al.granted.filter (fun g => g.claim.consumer ≠ c) }

/-- R30: release; a pass follows when a claim was held. -/
def releaseClaim (s : Seat) (c : Consumer) : Did :=
  if holdsClaim s.alloc c then ({ s with alloc := dropClaims s.alloc c }, [.pass]) else done s

/-- R31: change the amount of a claim that is raised. -/
def changeAmount (s : Seat) (c : Consumer) (amount : Nat) : Did :=
  if holdsClaim s.alloc c then
    ({ s with alloc := mapClaims s.alloc c (fun x => { x with amount := amount }) }, [.pass])
  else done s

/-- R31: the class of the claim held for a consumer, 1 when none is held. -/
def classOf (al : Alloc) (c : Consumer) : Nat :=
  match grantedClaim al c, pendingClaim al c with
  | some g, _ => g.cls
  | none, some p => p.cls
  | none, none => 1

/-- R31: a pending claim of a new class moves to the place that class and its stamp give it; a granted one stays. -/
def setClass (al : Alloc) (c : Consumer) (cls : Nat) : Alloc :=
  match pendingClaim al c with
  | some p => { al with pending := insertClaim { p with cls := cls } (al.pending.filter (fun x => x.consumer ≠ c)) }
  | none => mapClaims al c (fun x => { x with cls := cls })

/-- R31: a change of class of a claim that is raised, with its pass. -/
def changeClass (s : Seat) (c : Consumer) (cls : Nat) : Did :=
  if holdsClaim s.alloc c ∧ classOf s.alloc c ≠ cls then ({ s with alloc := setClass s.alloc c cls }, [.pass]) else done s

/-! ### Numbers of the link -/

def toByte (n : Nat) : Byte := BitVec.ofNat 8 n
def toWord (n : Nat) : Word16 := BitVec.ofNat 16 n
/-- Two's complement in 16 bits. -/
def signedWord (i : Int) : Word16 := BitVec.ofInt 16 i
/-- A 16-bit number read as two's complement. -/
def readSigned (n : Nat) : Int := (BitVec.ofNat 16 n).toInt
/-- A high and a low byte. -/
def pairWord (high low : Nat) : Word16 := toWord (high * 256 + low)

end Sys2Proof.Machine
end

