-- ==== Sys2Proof/Machine/MonitorOps.lean ====
section
/-! DEFINITION. The supply monitor: samples, the averaged voltage, the run counts and the state (02_supply_allocation.md R44
to R47). -/
namespace Sys2Proof.Machine

/-- R44: a sample is held to 0 to 20000 mV. -/
def heldVoltage (mv : Nat) : Nat := min mv 20000

/-- R44: the last 8 samples. -/
def pushSample (w : List Nat) (mv : Nat) : List Nat :=
  let w1 := w ++ [heldVoltage mv]
  w1.drop (w1.length - 8)

/-- R45: a run count, up to 4, or 0 at a value that does not meet its condition. -/
def runCount (n : Nat) (meets : Bool) : Nat := if meets then min 4 (n + 1) else 0

/-- R45: the four run counts after an averaged value. -/
def countValue (m : Monitor) (v : Nat) : Monitor :=
  { m with
    belowLow := runCount m.belowLow (v < m.lowThreshold)
    belowCutoff := runCount m.belowCutoff (v < m.cutoffThreshold)
    clearLow := runCount m.clearLow (m.lowThreshold + 500 ≤ v)
    clearCutoff := runCount m.clearCutoff (m.cutoffThreshold + 500 ≤ v) }

/-- R45: the state after the counts are brought up to date. -/
def judgeSupply (m : Monitor) : MonitorState :=
  match m.state with
  | .normal => if m.belowCutoff = 4 then .cutoff else if m.belowLow = 4 then .low else .normal
  | .low => if m.belowCutoff = 4 then .cutoff else if m.clearLow = 4 then .normal else .low
  | .cutoff => if m.clearLow = 4 then .normal else if m.clearCutoff = 4 then .low else .cutoff

/-- R45, R46: an averaged value; during a settle it is not compared and does not count. -/
def takeValue (m : Monitor) (v : Nat) : Monitor :=
  if m.settleLeft.isSome then { m with v := v }
  else
    let m1 := countValue { m with v := v } v
    { m1 with state := judgeSupply m1 }

/-- R44: one sample. No averaged value is produced until the window holds 8. -/
def takeSample (m : Monitor) (mv : Nat) : Monitor :=
  let w := pushSample m.window mv
  let m1 := { m with window := w }
  if w.length < 8 then m1 else takeValue m1 (w.sum / 8)

def monitorCode (m : MonitorState) : Nat :=
  match m with
  | .normal => 0 | .low => 1 | .cutoff => 2

/-- R45: a change of state posts SUPPLY_STATE and makes a pass. -/
def supplyChange (old new : MonitorState) (s : Seat) : Did :=
  if old = new then done s else (post s .supplyState .none (toWord (monitorCode new)), [.pass])

/-- R46: both thresholds are in their ranges, on their steps and in order. -/
def thresholdsValid (low cutoff : Nat) : Bool :=
  8000 ≤ low && low ≤ 12000 && 6000 ≤ cutoff && cutoff ≤ 9000 && low % 250 = 0 && cutoff % 250 = 0 && cutoff < low

/-- R46: new thresholds clear the counts and begin a settle. -/
def setThresholds (m : Monitor) (low cutoff : Nat) : Monitor :=
  { m with lowThreshold := low, cutoffThreshold := cutoff, belowLow := 0, belowCutoff := 0, clearLow := 0, clearCutoff := 0,
           settleLeft := some thresholdSettleTime }

end Sys2Proof.Machine
end

