-- ==== Sys2Proof/Machine/Allocator.lean ====
section
/-! DEFINITION. The supply allocator: the effective ceiling, eligibility, shedding, the admission walk, the stagger window,
the heater share and the fan claims (02_supply_allocation.md R27 to R43), and how a zone takes a new grant (R131). -/
namespace Sys2Proof.Machine

/-! ### Ceiling and eligibility (R33, R34) -/

/-- R33: E before the brace allowance. -/
def deratedCeiling (cSet lowShare : Nat) (m : MonitorState) : Nat :=
  match m with
  | .normal => cSet
  | .low => cSet * lowShare / 8
  | .cutoff => 0

def braceAllows (mode : BraceMode) : Bool :=
  match mode with
  | .bracing => true
  | .braced => true
  | .releasing => true
  | _ => false

/-- R33: the effective ceiling E. -/
def effectiveCeiling (cSet lowShare allowance : Nat) (m : MonitorState) (mode : BraceMode) : Nat :=
  let e := deratedCeiling cSet lowShare m
  if braceAllows mode ∧ m ≠ .cutoff then max e allowance else e

/-- R34: the brace state takes the fans, the heaters and the non-brace compressor away. -/
def braceHolds (mode : BraceMode) : Bool :=
  match mode with
  | .bracing => true
  | .braced => true
  | .locked => true
  | _ => false

/-- R34. -/
def eligible (mode : BraceMode) (cls : Nat) : Bool :=
  match mode with
  | .idle => true
  | .releasing => true
  | .bracing => cls ≤ 1
  | .braced => cls ≤ 1
  | .locked => false

/-! ### Shedding (R35, R36) -/

/-- Why a claim is shed (R36). -/
inductive ShedCause where
  | ceiling | ineligible
  deriving DecidableEq, Repr

/-- The most recently granted of a list. -/
def newest : List Grant → Option Grant
  | [] => none
  | g :: rest =>
    match newest rest with
    | none => some g
    | some h => if h.stamp < g.stamp then some g else some h

/-- The highest class number among granted claims. -/
def highestClass (l : List Grant) : Nat := (l.map (fun g => g.claim.cls)).foldl max 0

/-- R48: in CUTOFF every grant is withdrawn and none is made, one of a zero amount too (notes/assumptions/47.md). -/
def cutOff (b : Base) : Bool := b.monitor.state = .cutoff

/-- R35, R48: the claim to be shed, and why. -/
def victim (mode : BraceMode) (cut : Bool) (ceiling : Nat) (l : List Grant) : Option (Grant × ShedCause) :=
  match newest (l.filter (fun g => !eligible mode g.claim.cls)) with
  | some g => some (g, .ineligible)
  | none =>
    if cut || decide (ceiling < grantedSum l) then
      (newest (l.filter (fun g => g.claim.cls = highestClass l))).map (fun g => (g, .ceiling))
    else none

/-- R41: a fan shed while its upgrade is pending becomes one claim, the upgrade in the place of the shed one. -/
def returned (al : Alloc) (c : Claim) : Claim :=
  match pendingClaim al c.consumer with
  | some up => { up with arrival := c.arrival }
  | none => c

/-- R36: a shed claim returns to the claim list with its arrival stamp. -/
def unGrant (al : Alloc) (c : Claim) : Alloc :=
  { al with
    granted := al.granted.filter (fun g => g.claim.consumer ≠ c.consumer)
    pending := insertClaim (returned al c) (al.pending.filter (fun p => p.consumer ≠ c.consumer)) }

def consumerSubject (c : Consumer) : Subject :=
  match c with
  | .axis a => .axis a
  | .fan z => .zone z
  | .compressor => .none

/-- The code of an axis in selector order (12.1.2). -/
def axisCode (a : Axis) : Nat :=
  match a with
  | .slide => 0 | .lift => 1 | .tilt => 2 | .recline => 3 | .headrest => 4 | .extend => 5

/-- 12.1.4: the consumer byte of a SHED notice. -/
def consumerCode (c : Consumer) : Nat :=
  match c with
  | .axis a => axisCode a
  | .compressor => 6
  | .fan .c => 7
  | .fan .b => 8

def shedCode (c : ShedCause) : Nat :=
  match c with
  | .ceiling => 0
  | .ineligible => 1

/-- R36: the hand-over of a shed to its consumer. -/
def shedTask (c : Consumer) : List Task :=
  match c with
  | .axis a => [.axisShed a]
  | .compressor => [.compressorShed]
  | .fan _ => []

/-- R36: one shed, with its notice and its hand-over. -/
def shedOne (s : Seat) (c : Claim) (cause : ShedCause) : Did :=
  (post { s with alloc := unGrant s.alloc c } .shed (consumerSubject c.consumer)
    (pairWord (consumerCode c.consumer) (shedCode cause)), shedTask c.consumer)

/-- R35, R36: shedding withdraws one claim, hands the shed to its consumer as it is made (R32), and goes on with what that
left, until the granted set is lawful. -/
def shed (b : Base) (s : Seat) : Did :=
  match victim s.brace.mode (cutOff b) s.alloc.ceiling s.alloc.granted with
  | none => done s
  | some (g, cause) =>
    let y := shedOne s g.claim cause
    (y.1, y.2 ++ [.shed])

/-! ### The admission walk (R37, R38, R40) -/

/-- R38: an axis claim is held by a running stagger window, a class-0 one up to the brace point. -/
def staggerHolds (al : Alloc) (c : Claim) : Bool :=
  match c.consumer, al.stagger with
  | .axis _, some w => if c.cls = 0 then !w.bracePassed else true
  | _, _ => false

/-- R37, R40: the claim fits under E, with a running grant of the same fan counted out. -/
def fits (al : Alloc) (c : Claim) : Bool :=
  grantedSum (al.granted.filter (fun g => g.claim.consumer ≠ c.consumer)) + c.amount ≤ al.ceiling

/-- R37: the first eligible claim of the list; no other may be granted before it. -/
def walkHead (mode : BraceMode) (al : Alloc) : Option Claim := al.pending.find? (fun c => eligible mode c.cls)

/-- R37, R48: the claim that the walk grants next. -/
def admissible (mode : BraceMode) (cut : Bool) (al : Alloc) : Option Claim :=
  match walkHead mode al with
  | some c => if !cut && fits al c && !staggerHolds al c then some c else none
  | none => none

/-- R38: the stagger window that a grant starts; a length of 0 starts none (notes/assumptions/17.md). -/
def startStagger (cfg : Settings) (c : Claim) (old : Option Stagger) : Option Stagger :=
  match c.consumer with
  | .axis _ =>
    let len := if c.cls = 0 then cfg.braceStagger else cfg.stagger
    if len = 0 then old
    else some { length := len, braceLength := cfg.braceStagger, left := len, bracePassed := cfg.braceStagger = 0 }
  | _ => old

/-- R37: a grant. -/
def grant (cfg : Settings) (al : Alloc) (c : Claim) : Alloc :=
  { al with
    pending := al.pending.filter (fun p => p.consumer ≠ c.consumer)
    granted := al.granted.filter (fun g => g.claim.consumer ≠ c.consumer) ++ [{ claim := c, stamp := al.nextGrant }]
    nextGrant := al.nextGrant + 1
    stagger := startStagger cfg c al.stagger }

/-- R37: the walk grants one claim, hands the grant (R32), and goes on from the head of the list as the hand-over left it
(notes/assumptions/48.md). -/
def walk (b : Base) (s : Seat) : Did :=
  match admissible s.brace.mode (cutOff b) s.alloc with
  | none => done s
  | some c => ({ s with alloc := grant b.cfg s.alloc c }, [.granted c.consumer, .walk])

/-! ### The heater share (R39, R131) -/

/-- R39: H. -/
def heaterRoom (mode : BraceMode) (al : Alloc) : Nat :=
  if braceHolds mode then 0 else al.ceiling - grantedSum al.granted

/-- R39: g_c and g_b from H and the demands. -/
def heaterShare (h dc db : Nat) : Nat × Nat :=
  if dc + db ≤ h then (dc, db)
  else
    let gc0 := min dc (h / 2)
    let gb := min db (h - gc0)
    (min dc (h - gb), gb)

/-- R130: the cap of a grant under a mat current. -/
def dutyCap (grant current : Nat) : Nat := if current = 0 then 0 else 255 * grant / current

/-- R131: a zone receives a new grant between samples. A duty that the grant does not cut sets no capped flag, a duty of 0
among them (notes/assumptions/49.md). -/
def takeGrant (z : ZoneState) (g : Nat) : ZoneState :=
  let z1 := { z with grant := g }
  if z.mode = .regulating ∧ dutyCap g z.current < z.dutyOut then { z1 with dutyOut := dutyCap g z.current, capped := true }
  else z1

/-- R39: the heater share, last in a pass. Both grants are handed when either differs from the one the pass began with. -/
def share (s : Seat) (c0 b0 : Nat) : Seat :=
  let g := heaterShare (heaterRoom s.brace.mode s.alloc) s.zones.c.demand s.zones.b.demand
  if g.1 = c0 ∧ g.2 = b0 then s
  else { s with zones := { c := takeGrant s.zones.c g.1, b := takeGrant s.zones.b g.2 } }

/-! ### The pass (R32) -/

/-- R32, R33: E at the start of a pass. -/
def passCeiling (b : Base) (s : Seat) : Nat :=
  effectiveCeiling s.alloc.cSet b.cfg.lowShare b.cfg.braceAllowance b.monitor.state s.brace.mode

/-- R32: the ceiling, then shedding, the walk and the heater share. -/
def allocationPass (b : Base) (s : Seat) : Did :=
  ({ s with alloc := { s.alloc with ceiling := passCeiling b s } }, [.shed, .walk, .share s.zones.c.grant s.zones.b.grant])

/-! ### Fans (R40, R41) -/

/-- R41: the running level; 0 with no granted claim (notes/assumptions/50.md). -/
def runningLevel (al : Alloc) (z : Zone) : Nat := ((grantedClaim al (.fan z)).map Claim.level).getD 0

/-- R40: a fan at a level raises a claim, at level 0 only when the level-0 Fan claim is above 0. -/
def fanClaims (cfg : Settings) (level : Nat) : Bool := level ≠ 0 || cfg.fanClaim.l0 ≠ 0

def fanArrives (cfg : Settings) (al : Alloc) (z : Zone) (level : Nat) : Alloc :=
  arrive al (.fan z) 3 (cfg.fanClaim.get level) level

/-- A fan claim takes a level and its amount in place. -/
def atLevel (cfg : Settings) (level : Nat) (c : Claim) : Claim := { c with level := level, amount := cfg.fanClaim.get level }

def dropPending (al : Alloc) (c : Consumer) : Alloc := { al with pending := al.pending.filter (fun p => p.consumer ≠ c) }

/-- Change the pending claim of a fan in place. -/
def setPending (cfg : Settings) (al : Alloc) (z : Zone) (level : Nat) : Alloc :=
  { al with pending := al.pending.map (fun p => if p.consumer = .fan z then atLevel cfg level p else p) }

/-- R40, the rows of a rise. -/
def fanRise (cfg : Settings) (al : Alloc) (z : Zone) (level : Nat) : Alloc :=
  if isPending al (.fan z) then fanArrives cfg (dropPending al (.fan z)) z level
  else fanArrives cfg al z level

/-- R40, the rows of a fall to a level whose claim is raised. -/
def fanFall (cfg : Settings) (al : Alloc) (z : Zone) (level : Nat) : Alloc :=
  if isGranted al (.fan z) && isPending al (.fan z) then
    if runningLevel al z < level then setPending cfg al z level
    else if level < runningLevel al z then mapClaims (dropPending al (.fan z)) (.fan z) (atLevel cfg level)
    else dropPending al (.fan z)
  else mapClaims al (.fan z) (atLevel cfg level)

/-- R40: a fan level change, with its pass. A level that does not change calls for nothing. -/
def fanLevelChange (b : Base) (s : Seat) (z : Zone) (old level : Nat) : Did :=
  if old = level then done s
  else if !fanClaims b.cfg level then releaseClaim s (.fan z)
  else if old < level then ({ s with alloc := fanRise b.cfg s.alloc z level }, [.pass])
  else if holdsClaim s.alloc (.fan z) then ({ s with alloc := fanFall b.cfg s.alloc z level }, [.pass])
  else ({ s with alloc := fanArrives b.cfg s.alloc z level }, [.pass])

/-- R40, R43: a fan at level 0 raises or releases its claim by the level-0 Fan claim. -/
def levelZeroClaim (b : Base) (s : Seat) (z : Zone) : Did :=
  if (s.zones.get z).fan ≠ 0 then done s
  else if b.cfg.fanClaim.l0 = 0 then releaseClaim s (.fan z)
  else if holdsClaim s.alloc (.fan z) then done s
  else ({ s with alloc := fanArrives b.cfg s.alloc z 0 }, [.pass])

/-- R43: the claims raised for a level take a new amount, those of both fans together, with one pass after the two changes
(notes/assumptions/63.md). -/
def changeFanAmount (cfg : Settings) (s : Seat) (level : Nat) : Did :=
  let hit (c : Claim) : Bool := (c.consumer = .fan .c || c.consumer = .fan .b) && c.level = level
  let al := s.alloc
  if al.pending.any hit || al.granted.any (fun g => hit g.claim) then
    ({ s with alloc :=
        { al with
          pending := al.pending.map (fun c => if hit c then atLevel cfg level c else c)
          granted := al.granted.map (fun g => if hit g.claim then { g with claim := atLevel cfg level g.claim } else g) } },
     [.pass])
  else done s

end Sys2Proof.Machine
end

