-- ==== Sys2Proof/Machine/Gallery.lean ====
section
/-! DEFINITION. The gallery controller: its queue, the service of an operation, its end, sensor faults, and the support
bladders (05_the_pneumatic_gallery.md R87 to R106). -/
namespace Sys2Proof.Machine

def bladderOf (g : Gallery) (x : Bladder) : BladderState := g.bladders.get x

def putBladder (g : Gallery) (x : Bladder) (r : BladderState) : Gallery := { g with bladders := g.bladders.set x r }

def withGallery (s : Seat) (g : Gallery) : Seat := { s with gallery := g }

/-- The target of an operation, 900 at most (5.4). -/
def opTarget (t : Nat) : Nat := min t pressureCeiling

def mkOp (x : Bladder) (k : OpKind) (t : Nat) (o : Origin) : Op :=
  { bladder := x, kind := k, target := opTarget t, origin := o, bursts := 0, seed := false, step := none }

/-- R74, R102, R103: a vent when the bladder holds a measured pressure above the target, else a fill. -/
def kindTowards (r : BladderState) (t : Nat) : OpKind :=
  match r.measured with
  | some p => if t < p then .vent else .fill
  | none => .fill

/-! ### Outputs (R87) -/

/-- R87: the bladder whose valve is energised. -/
def energised (g : Gallery) : Option Bladder :=
  match g.state with
  | .idle => none
  | .fault => none
  | _ => g.inFlight.map Op.bladder

/-- R87: the vent valve is open. -/
def ventOpen (g : Gallery) : Bool := g.state = .venting

/-- R87: the compressor runs. -/
def compressorOn (s : Seat) : Bool := s.gallery.state = .filling && isGranted s.alloc .compressor

/-- R88: a bladder is connected while its valve is energised. -/
def connected (g : Gallery) (x : Bladder) : Bool := energised g = some x

/-! ### Ends (R96) -/

def writeResult (g : Gallery) (x : Bladder) (r : OpResult) : Gallery :=
  putBladder g x { bladderOf g x with lastResult := some r }

/-- R96: the notice of LIMIT and STARVED. -/
def endNotice (s : Seat) (x : Bladder) (r : OpResult) : Seat :=
  match r with
  | .limit => post s .galleryFault (.bladder x) 0x4000
  | .starved => post s .galleryFault (.bladder x) 0x8000
  | _ => s

/-- R96: the operation in flight ends; the gallery is not yet IDLE while its result is handed. The notice of LIMIT and STARVED
is posted first (notes/assumptions/65.md). -/
def endFlight (s : Seat) (r : OpResult) : Did :=
  match s.gallery.inFlight with
  | none => done s
  | some op =>
    let g := writeResult { s.gallery with inFlight := none, burstLeft := none, waitLeft := none, settleLeft := none } op.bladder r
    let y := releaseClaim (endNotice (withGallery s g) op.bladder r) .compressor
    (y.1, y.2 ++ [.opResult op r, .galleryIdle])

/-- R96: queued operations are removed with a result each, in queue order. -/
def removeQueued (s : Seat) (out : Op → Bool) (r : OpResult) : Did :=
  let gone := s.gallery.queue.filter out
  let g := { s.gallery with queue := s.gallery.queue.filter (fun o => !out o) }
  (withGallery s (gone.foldl (fun g o => writeResult g o.bladder r) g), gone.map (fun o => .opResult o r))

/-- R96: the gallery enters IDLE and serves the next head, unless it is in FAULT. -/
def galleryIdle (s : Seat) : Did :=
  if s.gallery.inFlight.isSome ∨ s.gallery.state = .fault then done s
  else (withGallery s { s.gallery with state := .idle }, [.serve])

/-! ### Service (R91 to R95) -/

/-- R91, R94: the completion test against a pressure. -/
def meets (tolerance : Nat) (op : Op) (p : Nat) : Bool :=
  match op.kind with
  | .fill => op.target ≤ p + tolerance
  | .vent => p ≤ op.target + tolerance
  | .measure => true

/-- R91: the operation ends DONE before any valve is energised. -/
def doneAtOnce (tolerance : Nat) (op : Op) (r : BladderState) : Bool :=
  match op.kind, r.measured with
  | .measure, _ => false
  | _, some p => meets tolerance op p
  | _, none => false

/-- R92: the class of the compressor claim. -/
def compressorClass (o : Origin) : Nat := if o = .brace then 0 else 2

/-- R92, R93: a burst begins. The wait timer starts when the claim is not granted; a grant stops it. -/
def beginBurst (b : Base) (s : Seat) (op : Op) : Did :=
  let op1 := { op with bursts := op.bursts + 1 }
  let g := { s.gallery with inFlight := some op1, burstLeft := some b.cfg.burstTime, settleLeft := none, waitLeft := none }
  match op.kind with
  | .fill =>
    if isGranted s.alloc .compressor then done (withGallery s { g with state := .filling })
    else
      let s1 := withGallery s { g with state := .filling, waitLeft := some compressorWaitLimit }
      if isPending s.alloc .compressor then done s1
      else raiseClaim s1 .compressor (compressorClass op.origin) b.cfg.compressorClaim 0
  | _ => done (withGallery s { g with state := .venting })

/-- R94, R95: a settle begins. -/
def beginSettle (b : Base) (s : Seat) : Seat :=
  withGallery s { s.gallery with state := .settling, burstLeft := none, waitLeft := none, settleLeft := some b.cfg.settleTime }

/-- R91: service of the operation that has left the queue. -/
def beginService (b : Base) (s : Seat) (op : Op) : Did :=
  let op0 := { op with bursts := 0 }
  if doneAtOnce b.cfg.tolerance op0 (bladderOf s.gallery op0.bladder) then
    endFlight (withGallery s { s.gallery with state := .measuring, inFlight := some op0 }) .done
  else if op0.kind = .measure then done (beginSettle b (withGallery s { s.gallery with inFlight := some op0 }))
  else beginBurst b s op0

/-- R91: the head is served when the gallery is IDLE. The queue has then lost an entry (R117). -/
def serve (b : Base) (s : Seat) : Did :=
  if s.gallery.state ≠ .idle ∨ s.gallery.inFlight.isSome then done s
  else
    match s.gallery.queue with
    | [] => done s
    | op :: rest =>
      let y := beginService b (withGallery s { s.gallery with queue := rest }) op
      (y.1, y.2 ++ [.engineRetry])

/-- R92: the compressor claim is granted: the wait timer stops, and the burst timer goes on. -/
def compressorGranted (s : Seat) : Seat :=
  if s.gallery.state = .filling then withGallery s { s.gallery with waitLeft := none } else s

/-- R92: a shed in FILLING starts the wait timer. -/
def compressorShed (s : Seat) : Seat :=
  if s.gallery.state = .filling then withGallery s { s.gallery with waitLeft := some compressorWaitLimit } else s

/-- R94: the test after a reading within 8 to 1015. -/
def afterReading (b : Base) (s : Seat) (op : Op) (p : Nat) : Did :=
  if meets b.cfg.tolerance op p then endFlight s .done
  else if op.bursts < b.cfg.burstLimit then beginBurst b s op
  else endFlight s .limit

/-- R97: a sensor fault. The gallery is in FAULT when the results are handed (notes/assumptions/22.md). The queue has lost its
entries, so a waiting engine asks again and meets FAULT (R117, R118). -/
def sensorFault (s : Seat) (code : Nat) : Did :=
  let y := endFlight (withGallery s { s.gallery with state := .fault }) .sensor
  let z := removeQueued y.1 (fun _ => true) .sensor
  (z.1, y.2 ++ z.2 ++ [.engineRetry, .sensorNotice code])

/-- R97: the notice of a sensor fault carries the faulty reading. -/
def sensorNotice (s : Seat) (code : Nat) : Seat := post s .galleryFault .none (toWord (0xC000 + code % 1024))

/-- R94, R97: a conversion completes in MEASURING. -/
def reading (b : Base) (s : Seat) (code : Nat) : Did :=
  let s1 := withGallery s { s.gallery with lastReading := some code }
  match s.gallery.inFlight with
  | none => done s1
  | some op =>
    if code < 8 ∨ 1015 < code then sensorFault s1 code
    else
      let g := putBladder s1.gallery op.bladder { bladderOf s1.gallery op.bladder with measured := some code }
      afterReading b (withGallery s1 g) op code

/-! ### Taking operations (R90, R99, R100, R101) -/

/-- The answer of the gallery to an operation asked (R90, R99). -/
inductive Verdict where
  | taken | fault | busy | full
  deriving DecidableEq, Repr

def queuedFor (g : Gallery) (x : Bladder) : Option Op := g.queue.find? (fun o => o.bladder = x)

/-- R90, R99: the judgement of a non-brace operation. -/
def verdict (b : Base) (g : Gallery) (x : Bladder) : Verdict :=
  if g.state = .fault then .fault
  else
    match queuedFor g x with
    | some o => if o.origin = .brace then .busy else .taken
    | none => if g.queue.length < b.cfg.queueLimit then .taken else .full

/-- R99, R100: an operation taken sets its bladder's last target when it fills or vents. -/
def setLastTarget (g : Gallery) (op : Op) : Gallery :=
  if op.kind = .measure then g else putBladder g op.bladder { bladderOf g op.bladder with lastTarget := op.target }

/-- R99: put a taken operation in the queue; one that it replaces ends CANCELLED. -/
def enterOp (s : Seat) (op : Op) : Did :=
  match queuedFor s.gallery op.bladder with
  | some old =>
    let g := { s.gallery with queue := s.gallery.queue.map (fun o => if o.bladder = op.bladder then op else o) }
    (withGallery s (setLastTarget (writeResult g op.bladder .cancelled) op), [.opResult old .cancelled])
  | none => done (withGallery s (setLastTarget { s.gallery with queue := s.gallery.queue ++ [op] } op))

/-- A taken non-brace operation enters and the head is served when the gallery is IDLE (R91). -/
def askOp (s : Seat) (op : Op) : Did := let y := enterOp s op; (y.1, y.2 ++ [.serve])

/-- R100 step 6: behind every queued brace operation and ahead of every other. -/
def insertBrace (op : Op) : List Op → List Op
  | [] => [op]
  | o :: rest => if o.origin = .brace then o :: insertBrace op rest else op :: o :: rest

/-- R100 step 5: the non-brace operation nearest the back. -/
def lastNonBrace (l : List Op) : Option Op := (l.filter (fun o => o.origin ≠ .brace)).getLast?

/-- R100 step 5: room for a brace operation. -/
def makeRoom (b : Base) (s : Seat) : Did :=
  if b.cfg.queueLimit ≤ s.gallery.queue.length then
    match lastNonBrace s.gallery.queue with
    | some o => removeQueued s (fun x => x.bladder = o.bladder) .cancelled
    | none => done s
  else done s

/-- R100 steps 4 to 6. -/
def enterBrace (b : Base) (s : Seat) (op : Op) : Did :=
  match queuedFor s.gallery op.bladder with
  | some _ => enterOp s op
  | none =>
    andThen (makeRoom b s)
      (fun t => done (withGallery t (setLastTarget { t.gallery with queue := insertBrace op t.gallery.queue } op)))

/-- R100: a brace operation is taken. Its queue entries enter before the results of what it ended are handed. -/
def askBrace (b : Base) (s : Seat) (op : Op) : Did :=
  let cut (t : Seat) : Did :=
    match t.gallery.inFlight with
    | some o => if o.origin = .brace then done t else endFlight t .preempted
    | none => done t
  andThen
    (andThen (andThen (andThen (cut s) (fun t => removeQueued t (fun o => o.origin = .massage) .cancelled))
      (fun t => removeQueued t (fun o => o.bladder = op.bladder && o.origin ≠ .brace) .cancelled))
      (fun t => enterBrace b t op))
    (fun t => (t, [.serve, .engineRetry]))

/-- R101: the massage engine withdraws its operations. -/
def withdrawMassage (s : Seat) : Did :=
  andThen (removeQueued s (fun o => o.origin = .massage && !o.seed) .cancelled)
    (fun t =>
      match t.gallery.inFlight with
      | some o => if o.origin = .massage then endFlight t .cancelled else done t
      | none => done t)

/-- R101: a crash ends the operation in flight and removes every queued one. -/
def crashGallery (s : Seat) : Did :=
  andThen (endFlight s .preempted) (fun t => removeQueued t (fun _ => true) .cancelled)

/-! ### Support bladders (R102, R103) -/

def setComfort (s : Seat) (x : Bladder) (t : Nat) : Seat :=
  withGallery s (putBladder s.gallery x { bladderOf s.gallery x with comfort := some t })

/-- R102, R74: set the comfort target and ask the operation towards it. -/
def askSupport (s : Seat) (x : Bladder) (t : Nat) : Did :=
  askOp (setComfort s x (opTarget t)) (mkOp x (kindTowards (bladderOf s.gallery x) (opTarget t)) t .support)

/-- R74: one entry of a support part; the comfort target is set even when the operation is not taken. -/
def applySupport (b : Base) (s : Seat) (x : Bladder) (t : Nat) : Did :=
  if verdict b s.gallery x = .taken then askSupport s x t else done (setComfort s x (opTarget t))

/-- R103: the base of a lumbar step. -/
def lumbarBase (r : BladderState) : Nat :=
  match r.comfort, r.measured with
  | some t, _ => t
  | none, some p => p
  | none, none => 0

/-- R103: a step of 20 up or down, clamped to 0 to 600. -/
def lumbarValue (raise : Bool) (base : Nat) : Nat :=
  if raise then min lumbarMaximum (base + lumbarStepSize) else min lumbarMaximum (base - lumbarStepSize)

/-- R103: whether the step raises LU and LL. -/
def lumbarRaises (l : LumbarStep) : Bool × Bool :=
  match l with
  | .stepIn => (true, true)
  | .stepOut => (false, false)
  | .stepUp => (true, false)
  | .stepDown => (false, true)

/-- R103: the new value of LU and of LL. -/
def lumbarValues (g : Gallery) (l : LumbarStep) : Nat × Nat :=
  (lumbarValue (lumbarRaises l).1 (lumbarBase (bladderOf g .lu)), lumbarValue (lumbarRaises l).2 (lumbarBase (bladderOf g .ll)))

/-- R103: the bladders that ask an operation. -/
def lumbarAsks (g : Gallery) (l : LumbarStep) : List (Bladder × Nat) :=
  [(Bladder.lu, (lumbarValues g l).1), (Bladder.ll, (lumbarValues g l).2)].filter
    (fun p => p.2 ≠ lumbarBase (bladderOf g p.1))

/-- R103: the step is judged whole before anything changes. -/
def lumbarVerdict (b : Base) (g : Gallery) (l : LumbarStep) : Verdict :=
  let asks := (lumbarAsks g l).map Prod.fst
  let added := (asks.filter (fun x => (queuedFor g x).isNone)).length
  if g.state = .fault then .fault
  else if asks.any (fun x => (queuedFor g x).any (fun o => o.origin = .brace)) then .busy
  else if added ≠ 0 ∧ b.cfg.queueLimit < g.queue.length + added then .full
  else .taken

/-- R103: the step is taken: both comfort targets are set, and LU then LL ask. The gallery serves after both have entered
(notes/assumptions/21.md). -/
def lumbarStep (s : Seat) (l : LumbarStep) (tag : Option Nat) : Did :=
  let v := lumbarValues s.gallery l
  let asks := lumbarAsks s.gallery l
  let s1 := setComfort (setComfort s .lu v.1) .ll v.2
  andThen
    (forEach asks
      (fun p t => enterOp t { mkOp p.1 (kindTowards (bladderOf t.gallery p.1) p.2) p.2 .support with step := tag }) s1)
    (fun t => (t, [.serve]))

end Sys2Proof.Machine
end

