-- ==== Sys2Proof/Machine/Massage.lean ====
section
/-! DEFINITION. The massage engine and the loading of patterns (06_massage_patterns.md R107 to R122, R185). -/
namespace Sys2Proof.Machine

/-! ### Cell sets -/

/-- The place of a cell in a set: bit 0 is M1 (R184). -/
def cellBit (x : Bladder) : Nat :=
  match x with
  | .m2 => 1 | .m3 => 2 | .m4 => 3 | .m5 => 4 | .m6 => 5 | .m7 => 6 | .m8 => 7
  | _ => 0

def cellMask (x : Bladder) : CellSet := 1#8 <<< cellBit x
def inSet (c : CellSet) (x : Bladder) : Bool := c.getLsbD (cellBit x)
def addCell (c : CellSet) (x : Bladder) : CellSet := c ||| cellMask x
def dropCell (c : CellSet) (x : Bladder) : CellSet := c &&& ~~~ cellMask x
/-- The cells that a test selects. -/
def cellsWhere (f : Bladder → Bool) : CellSet := cellOrder.foldl (fun c x => if f x then addCell c x else c) 0
/-- The first cell of a set, M1 first. -/
def firstCell (c : CellSet) : Option Bladder := cellOrder.find? (inSet c)
def cellCount (c : CellSet) : Nat := (cellOrder.filter (inSet c)).length
def isCell (x : Bladder) : Bool := cellOrder.contains x

/-! ### Patterns in the store (R107) -/

/-- The step of a present pattern at an index counted from its own start. -/
def stepAt (p : Patterns) (n : PatternNo) (i : Nat) : Option StepRec :=
  match p.directory.get n with
  | some e => if i < e.length then p.steps[e.start + i]? else none
  | none => none

def cellsUsed (p : Patterns) (n : Option PatternNo) : CellSet :=
  match n with
  | some k => ((p.directory.get k).map PatternEntry.cells).getD 0
  | none => 0

/-! ### Walking (R114 to R116) -/

/-- round_half_even of n over d (00_scope.md 5.1). -/
def roundHalfEven (n d : Nat) : Nat :=
  let q := n / d
  let twice := 2 * (n % d)
  if twice < d then q else if d < twice then q + 1 else if q % 2 = 0 then q else q + 1

/-- R115: the target of a step. -/
def stepTarget (level intensity fullScale : Nat) : Nat := roundHalfEven (level * intensity * fullScale) 500

/-- R116: the wait of a HOLD step. -/
def holdTime (dwell speed : Nat) : Nat := max 10 (dwell * (6 - speed) / 3)

/-- R114: pending values replace the held ones when a step begins. -/
def takeSpeed (e : Engine) : Engine :=
  { e with intensity := e.pendingIntensity.getD e.intensity, speed := e.pendingSpeed.getD e.speed,
           pendingIntensity := none, pendingSpeed := none }

def withEngine (s : Seat) (e : Engine) : Seat := { s with engine := e }

/-- R116: what CLOSE_REPEAT does with the stack, and where the walk goes on. -/
def closeRepeat (e : Engine) : Engine :=
  match e.stack with
  | r :: rest =>
    if 0 < r.remaining then { e with stack := { r with remaining := r.remaining - 1 } :: rest, index := r.index + 1 }
    else { e with stack := rest, index := e.index + 1 }
  | [] => { e with index := e.index + 1 }

/-- R115: an INFLATE or DEFLATE step begins. -/
def askStep (b : Base) (e : Engine) (k : OpKind) (st : StepRec) : Engine :=
  { e with asking := some { kind := k, target := stepTarget st.value e.intensity b.cfg.fullScale },
           outstanding := 0, stillToAsk := st.cells }

/-- R115, R116: a step begins. -/
def runStep (b : Base) (s : Seat) (e : Engine) (st : StepRec) : Did :=
  match st.action with
  | 0 => (withEngine s (askStep b e .fill st), [.engineAsk])
  | 1 => (withEngine s (askStep b e .vent st), [.engineAsk])
  | 2 => done (withEngine s { e with holdLeft := some (holdTime (st.value * 10) e.speed) })
  | 3 => (withEngine s { e with stack := { index := e.index, remaining := st.value - 1 } :: e.stack, index := e.index + 1 },
          [.engineBegin])
  | _ => (withEngine s (closeRepeat e), [.engineBegin])

/-- R115, R116: begin the step at the index; beyond the last step the cycle ends with a rest, in which the index stays at the
pattern length (notes/assumptions/53.md). -/
def engineBegin (b : Base) (s : Seat) : Did :=
  if s.engine.state ≠ .running then done s
  else
    let e := takeSpeed { s.engine with asking := none, holdLeft := none, restLeft := none }
    match e.pattern.bind (fun n => stepAt b.patterns n e.index) with
    | some st => runStep b s e st
    | none => done (withEngine s { s.engine with asking := none, holdLeft := none, restLeft := some cycleRestTime })

/-! ### Ending at once (R120) -/

/-- R120: the operations asked are VENT_TO 0. -/
def asksVents (e : Engine) : Bool := e.asking = some { kind := .vent, target := 0 }

/-- Cells whose last target is above 0. -/
def filledCells (g : Gallery) : CellSet := cellsWhere (fun x => 0 < (bladderOf g x).lastTarget)

/-- R120 step 1: the held cells. -/
def heldCells (s : Seat) : CellSet :=
  filledCells s.gallery ||| (if asksVents s.engine then s.engine.outstanding ||| s.engine.stillToAsk else 0)

/-- 12.1.4: the code of an end reason. -/
def reasonCode (r : EndReason) : Nat :=
  match r with
  | .stop => 0 | .session => 1 | .failed => 2 | .brace => 3 | .crash => 4 | .sensor => 5

def patternSubject (p : Option PatternNo) : Subject :=
  match p with
  | some n => .pattern n
  | none => .none

/-- The engine enters OFF and posts MASSAGE_STOPPED (R118, R120). -/
def engineOff (s : Seat) (r : EndReason) : Seat :=
  post
    (withEngine s { s.engine with state := .off, outstanding := 0, stillToAsk := 0, endReason := some r, asking := none,
                                  holdLeft := none, restLeft := none })
    .massageStopped (patternSubject s.engine.pattern) (toWord (reasonCode r))

/-- R120: the engine ends at once, from any state but OFF. -/
def engineEnd (s : Seat) (r : EndReason) : Seat :=
  if s.engine.state = .off then s
  else engineOff (withEngine s { s.engine with held := heldCells s }) r

/-! ### Asking the gallery (R115, R117, R118) -/

/-- The cell whose operation was taken joins the outstanding set. -/
def cellTaken (e : Engine) (x : Bladder) : Engine :=
  { e with outstanding := addCell e.outstanding x, stillToAsk := dropCell e.stillToAsk x }

/-- R117: a full queue pauses a running engine; a stopping one waits. -/
def pauseEngine (e : Engine) : Engine := if e.state = .running then { e with state := .paused } else e

/-- R115, R117, R118: ask for the first cell of the list, or go on when it is empty. A cell refused for a full queue ends the
asking, for stop vents and in a retry too (notes/assumptions/67.md). -/
def engineAsk (b : Base) (s : Seat) : Did :=
  match s.engine.state, s.engine.asking, firstCell s.engine.stillToAsk with
  | .off, _, _ => done s
  | _, some op, some x =>
    match verdict b s.gallery x with
    | .taken =>
      let y := askOp (withEngine s (cellTaken s.engine x)) (mkOp x op.kind op.target .massage)
      (y.1, y.2 ++ [.engineAsk])
    | .fault => done (engineEnd s .sensor)
    | _ => done (withEngine s (pauseEngine s.engine))
  | .paused, some _, none => (withEngine s { s.engine with state := .running }, [.engineCheck])
  | _, _, _ => (s, [.engineCheck])

/-- R117: the queue lost an entry, or its limit was raised. -/
def engineRetry (s : Seat) : Did :=
  match s.engine.state with
  | .paused => (s, [.engineAsk])
  | .stopping => if s.engine.stillToAsk = 0 then done s else (s, [.engineAsk])
  | _ => done s

/-- R115, R118: the step ends, or the stop ends, when nothing is outstanding or still to ask. -/
def engineCheck (s : Seat) : Did :=
  if s.engine.outstanding ≠ 0 ∨ s.engine.stillToAsk ≠ 0 then done s
  else
    match s.engine.state with
    | .running =>
      if s.engine.asking.isSome then
        (withEngine s { s.engine with asking := none, index := s.engine.index + 1 }, [.engineBegin])
      else done s
    | .stopping => done (engineOff s (s.engine.endReason.getD .stop))
    | _ => done s

/-! ### Stopping (R118, R119) -/

/-- R118 step 3: cells whose VENT_TO 0 the stop withdraws. -/
def withdrawnVents (g : Gallery) : CellSet :=
  let isVent (o : Op) : Bool := o.origin = .massage && o.kind = .vent && o.target = 0
  cellsWhere (fun x => (g.queue ++ g.inFlight.toList).any (fun o => isVent o && o.bladder = x))

/-- The vents of a stop set are asked in ascending order (R118). -/
def beginStop (s : Seat) (set : CellSet) (reason : EndReason) : Seat :=
  withEngine s
    { s.engine with state := .stopping, outstanding := 0, stillToAsk := set, endReason := some reason,
                    asking := some { kind := .vent, target := 0 }, holdLeft := none, restLeft := none }

/-- R118: the engine enters STOPPING from RUNNING or PAUSED. -/
def engineStop (s : Seat) (reason : EndReason) : Did :=
  let set := filledCells s.gallery ||| withdrawnVents s.gallery
  let y := withdrawMassage (beginStop s set reason)
  (y.1, y.2 ++ [.engineAsk])

/-- R118: a stop from OFF with held cells. -/
def stopHeld (s : Seat) (reason : EndReason) : Did :=
  let s1 := beginStop s s.engine.held reason
  (withEngine s1 { s1.engine with held := 0 }, [.engineAsk])

/-- R115: every cell that the pattern can move has failed. -/
def allFailed (used failed : CellSet) : Bool := used ≠ 0 && (used &&& failed) = used

/-- R115, R118, R120: a result reaches the engine. The cell of a stop vent that ends LIMIT does not join the failed cells
(notes/assumptions/54.md). -/
def massageResult (b : Base) (s : Seat) (x : Bladder) (r : OpResult) : Did :=
  let e := s.engine
  if e.state = .off ∨ ¬ inSet e.outstanding x then done s
  else if r = .sensor then done (engineEnd s .sensor)
  else
    let e1 := { e with outstanding := dropCell e.outstanding x }
    if (r = .limit ∨ r = .starved) ∧ e.state ≠ .stopping then
      let e2 := { e1 with failed := addCell e1.failed x }
      if allFailed (cellsUsed b.patterns e.pattern) e2.failed then engineStop (withEngine s e2) .failed
      else (withEngine s e2, [.engineCheck])
    else (withEngine s e1, [.engineCheck])

/-- R113: the context of an accepted START. -/
def startContext (b : Base) (n : PatternNo) (i v : Nat) : Engine :=
  { Reset.engine with state := .running, pattern := some n, intensity := i, speed := v,
                      sessionLeft := b.cfg.sessionLimit * 60000 }

/-- R113: an accepted START; one in RUNNING or PAUSED first withdraws what the engine had asked. -/
def engineStart (b : Base) (s : Seat) (n : PatternNo) (i v : Nat) : Did :=
  let s1 := withEngine s (startContext b n i v)
  let y := if s.engine.state = .off then done s1 else withdrawMassage s1
  (y.1, y.2 ++ [.engineBegin])

/-! ### Loading (R108 to R112) -/

/-- R108: a step record is valid. -/
def stepValid (st : StepRec) : Bool :=
  match st.action with
  | 0 => st.cells ≠ 0 && st.value ≤ 100
  | 1 => st.cells ≠ 0 && st.value ≤ 100
  | 2 => 1 ≤ st.value && st.value ≤ 255
  | 3 => 2 ≤ st.value && st.value ≤ 255
  | 4 => true
  | _ => false

/-- R111: the failing check and its step index; check 0 when none fails. -/
structure Judgement where
  check : Nat
  index : Nat
  deriving DecidableEq, Repr

/-- R111 check 6: the index of the first invalid step. -/
def firstInvalid : Nat → List StepRec → Option Nat
  | _, [] => none
  | i, st :: rest => if stepValid st then firstInvalid (i + 1) rest else some i

/-- R111 check 7: the walk, with the open repeats, innermost first. -/
def nestingFault : Nat → List Nat → List StepRec → Option Nat
  | _, stack, [] => stack.head?
  | i, stack, st :: rest =>
    if st.action = 3 then
      if 2 ≤ stack.length then some i else nestingFault (i + 1) (i :: stack) rest
    else if st.action = 4 then
      match stack with
      | [] => some i
      | _ :: outer => nestingFault (i + 1) outer rest
    else nestingFault (i + 1) stack rest

/-- R111 checks 5 to 7 on staged steps. -/
def judgeSteps (declared : Nat) (steps : List StepRec) : Judgement :=
  if steps.length < declared then { check := 1, index := steps.length }
  else
    match firstInvalid 0 steps with
    | some i => { check := 2, index := i }
    | none =>
      match nestingFault 0 [] steps with
      | some i => { check := 3, index := i }
      | none => { check := 0, index := 0 }

/-- R185: the judgement of LOAD PATTERN END; check 0 when the staging area is not open for the pattern. -/
def judgeStaged (p : Patterns) (n : PatternNo) : Judgement :=
  match p.staging with
  | some st => if st.pattern = n then judgeSteps st.declared st.steps else { check := 0, index := 0 }
  | none => { check := 0, index := 0 }

/-- R107: the cells that INFLATE and DEFLATE steps name. -/
def cellsOf (steps : List StepRec) : CellSet :=
  steps.foldl (fun c st => if st.action ≤ 1 then c ||| st.cells else c) 0

def patternOrder : List PatternNo := [.n1, .n2, .n3, .n4, .n5, .n6, .n7, .n8]

/-- The steps of a present pattern. -/
def patternSteps (p : Patterns) (n : PatternNo) : List StepRec :=
  match p.directory.get n with
  | some e => (p.steps.drop e.start).take e.length
  | none => []

def usedPlaces (p : Patterns) : Nat := (patternOrder.map (fun n => ((p.directory.get n).map PatternEntry.length).getD 0)).sum

/-- R107: the free count. -/
def freePlaces (p : Patterns) : Nat := stepStoreSize - usedPlaces p

/-- R112 step 1: the room for a pattern. -/
def roomFor (p : Patterns) (n : PatternNo) : Nat := freePlaces p + ((p.directory.get n).map PatternEntry.length).getD 0

/-- Place steps behind those in the store and make the entry present (R112, R122). -/
def placePattern (p : Patterns) (n : PatternNo) (steps : List StepRec) : Patterns :=
  { p with
    directory := p.directory.set n (some { start := p.steps.length, length := steps.length, cells := cellsOf steps })
    steps := p.steps ++ steps }

/-- The entry that starts at a place or beyond it and is the nearest, for moving patterns down in the order of their starts. -/
def insertByStart (x : PatternNo × Nat) : List (PatternNo × Nat) → List (PatternNo × Nat)
  | [] => [x]
  | y :: rest => if y.2 ≤ x.2 then y :: insertByStart x rest else x :: y :: rest

/-- The present patterns other than `n` in the order of their start places. -/
def othersByStart (p : Patterns) (n : PatternNo) : List PatternNo :=
  ((patternOrder.filterMap (fun k => if k = n then none else (p.directory.get k).map (fun e => (k, e.start)))).foldl
    (fun l x => insertByStart x l) []).map Prod.fst

/-- R112 step 3: the other patterns stand together from place 0, and the new one after them. The staging area closes. -/
def repack (p : Patterns) (n : PatternNo) (steps : List StepRec) : Patterns :=
  let empty : Patterns := { directory := .all none, steps := [], staging := none }
  placePattern ((othersByStart p n).foldl (fun q k => placePattern q k (patternSteps p k)) empty) n steps

end Sys2Proof.Machine
end

