-- ==== Sys2Proof/Machine/Axis.lean ====
section
/-! DEFINITION. The axis channels: the hall front end, counting, the drive cycle, stalls, takeovers, sheds, overcurrent and
learn runs (01_seat_axes_and_position_counting.md R3 to R25). -/
namespace Sys2Proof.Machine

/-! ### Hall front end (R3, R4) -/

/-- What a sample hands on. -/
inductive HallEvent where
  | nothing | pulse | rejected
  deriving DecidableEq, Repr

def levelIs (l : HallLevel) (high : Bool) : Bool :=
  match l with
  | .high => high
  | .low => !high
  | .unknown => false

/-- The agreeing run after a sample: samples at the accepted level end it, others lengthen it (R3). -/
def hallRun (h : Hall) (high : Bool) : Nat :=
  if levelIs h.accepted high then 0
  else if h.runLength ≠ 0 ∧ h.runHigh = high then h.runLength + 1 else 1

/-- R4: the low measured when HIGH is accepted. The samples before this one were counted when they were taken. -/
def judgeLow (minLow : Nat) (h : Hall) : HallEvent :=
  match h.accepted with
  | .low => if minLow ≤ h.lowMicros then .pulse else .rejected
  | _ => .nothing

/-- R3, R4: one sample. The low is measured from the sample that accepted LOW, one spacing a sample. -/
def hallStep (interval minLow : Nat) (h : Hall) (high : Bool) : Hall × HallEvent :=
  let low := if h.accepted = .low then h.lowMicros + h.spacing else 0
  let run := hallRun h high
  let h1 := { h with lowMicros := low, spacing := interval, runHigh := high, runLength := run }
  if run < 3 then (h1, .nothing)
  else if high then ({ h1 with accepted := .high, runLength := 0, lowMicros := 0 }, judgeLow minLow h1)
  else ({ h1 with accepted := .low, runLength := 0, lowMicros := 0 }, .nothing)

/-- R3: after a reset or a wake the accepted level is UNKNOWN. -/
def hallUnknown (h : Hall) : Hall :=
  { h with accepted := .unknown, runHigh := false, runLength := 0, lowMicros := 0 }

/-! ### Soft limits and preparation (R7) -/

def softLow (cf : AxisSettings) (x : AxisState) : Option Nat := x.lowStop.map (fun l => l + cf.softMargin)

/-- Soft limits exist while both stops are present (1.2). -/
def softLimits (cf : AxisSettings) (x : AxisState) : Option (Nat × Nat) :=
  match x.lowStop, x.highStop with
  | some l, some h => some (l + cf.softMargin, max (l + cf.softMargin) (h - cf.softMargin))
  | _, _ => none

/-- R7 step 1. -/
def clampTarget (cf : AxisSettings) (x : AxisState) (t : Nat) : Nat :=
  match softLimits cf x with
  | some (lo, hi) => max lo (min hi (min t maxPosition))
  | none => min t maxPosition

/-- R7 step 2. -/
def directionTo (x : AxisState) (t : Nat) : Dir := if x.position < t then .up else .down

/-- R7 step 3: the target lies within the On-target window of the position. -/
def onTarget (cf : AxisSettings) (position t : Nat) : Bool := position ≤ t + cf.onTarget && t ≤ position + cf.onTarget

/-- R7 step 4. -/
def atSoftLimit (cf : AxisSettings) (x : AxisState) (d : Dir) : Bool :=
  match x.confidence, softLimits cf x, d with
  | .learned, some (lo, _), .down => x.position ≤ lo
  | .learned, some (_, hi), .up => hi ≤ x.position
  | _, _, _ => false

/-- R7 steps 3 and 4: the result with which a move ends at once. -/
def endsAtOnce (cf : AxisSettings) (x : AxisState) (m : Move) : Option MoveResult :=
  match m.kind with
  | .toTarget t =>
    if onTarget cf x.position t then some .reached else if atSoftLimit cf x m.dir then some .endStop else none
  | .jog => if atSoftLimit cf x m.dir then some .endStop else none

/-- R7 steps 1 and 2: a TO_TARGET move, as the axis takes it. -/
def toTargetMove (cf : AxisSettings) (x : AxisState) (t : Nat) : Move :=
  let c := clampTarget cf x t
  { kind := .toTarget c, dir := directionTo x c, expiry := none }

/-- R18: the kept move of a shed takes its direction again from its target at the end of the coast. A pending move keeps the
direction that it was taken with: R13 step 4 names steps 3 and 4 of R7 alone. -/
def aimed (x : AxisState) (m : Move) : Move :=
  match m.kind with
  | .toTarget t => { m with dir := directionTo x t }
  | .jog => m

/-- The owner that a request of the table of R25 meets (notes/assumptions/14.md): the owner of the pending move where one is held; an axis
that still coasts from a BRACE move counts as NONE once the brace state is IDLE. -/
def ownerMet (mode : BraceMode) (x : AxisState) : Owner :=
  match x.pending with
  | some p => p.owner
  | none => if x.drive = .coasting ∧ x.owner = .brace ∧ mode = .idle then .none else x.owner

/-- The class of an axis claim (R27). -/
def axisClass (o : Owner) : Nat := if o = .brace then 0 else 1

/-! ### Ending a move -/

/-- The bridge of a coast (R12). -/
def stopBridge (m : StopMode) : Bridge :=
  match m with
  | .brake => .braked
  | .free => .released

def drivenBridge (d : Dir) : Bridge :=
  match d with
  | .down => .drivenDown
  | .up => .drivenUp

/-- An axis with no move (R13 step 6). The last result and the record fields are kept. -/
def toIdle (x : AxisState) : AxisState :=
  { x with drive := .idle, owner := .none, move := none, pending := none, bridge := .released, stallLeft := none,
           coastLeft := none, blankLeft := none, overcurrentLeft := none, coastResult := none, coastReport := false,
           afterShed := false }

def reportIf (report : Bool) (a : Axis) (o : Owner) (r : MoveResult) : List Task :=
  if report then [.moveEnded a o r] else []

/-- R24: a learn run that does not complete: the stops are discarded, the axis is UNLEARNED, its record is queued. -/
def loseLearn (s : Seat) (a : Axis) : Seat :=
  let x := axisOf s a
  if x.learn = .none then s
  else queueAxisRecord
    (putAxis s a { x with lowStop := none, highStop := none, confidence := .unlearned, learn := .none }) a false

/-- R24: completion of a learn run. -/
def completeLearn (s : Seat) (a : Axis) : Seat :=
  let x := axisOf s a
  post (queueAxisRecord (putAxis s a { x with confidence := .learned, disturbance := 0, learn := .none }) a false)
    .axisLearned (.axis a) (toWord (x.highStop.getD 0))

/-- A move that ends while no bridge is driven for it: the result is written at once, any claim is released, the axis enters
IDLE, and the owner is told (R7, R9, R17). -/
def finishAtOnce (s : Seat) (a : Axis) (r : MoveResult) (report : Bool) : Did :=
  let x := axisOf s a
  let s1 := putAxis s a { toIdle x with lastResult := some r }
  let s2 := if x.owner = .learn ∧ x.learn = .settle ∧ r = .reached then completeLearn s1 a else s1
  let y := releaseClaim s2 (.axis a)
  (y.1, y.2 ++ reportIf report a x.owner r)

/-- The fields of an axis that leaves DRIVING (R12). -/
def coasting (cf : AxisSettings) (x : AxisState) (cause : Cause) (result : Option MoveResult) (report : Bool) : AxisState :=
  { x with drive := .coasting, bridge := stopBridge cf.stopMode, coastLeft := some cf.coastWindow, cause := some cause,
           stallLeft := none, blankLeft := none, overcurrentLeft := none, coastResult := result, coastReport := report }

/-- R12: a Coast window of 0 ends the coast at once. -/
def coastTasks (cf : AxisSettings) (a : Axis) : List Task := if cf.coastWindow = 0 then [.coastEnd a] else []

/-- R12: switch-off with cause LEAD, LIMIT, STALL or REQUEST. The claim is released unless a pending move keeps it. -/
def switchOff (b : Base) (s : Seat) (a : Axis) (cause : Cause) (result : Option MoveResult) (report : Bool) : Did :=
  let cf := b.cfg.axis.get a
  let x := axisOf s a
  let s1 := putAxis s a (coasting cf x cause result report)
  let y := if x.pending.isSome then done s1 else releaseClaim s1 (.axis a)
  (y.1, y.2 ++ coastTasks cf a)

/-- The expiry of a move that has ended no longer runs. -/
def noExpiry (x : AxisState) : AxisState := { x with move := x.move.map (fun m => { m with expiry := none }) }

/-- The kept move of the coast of a shed (R18). -/
def keptMove (x : AxisState) : Bool := x.cause = some .shed && x.move.isSome && x.pending.isNone

/-- R17 in COASTING. The ended owner is the one whose end is reported (notes/assumptions/16.md). With the claim of a pending or
kept move goes the mark that its axis waits after a shed. -/
def endCoasting (s : Seat) (a : Axis) (r : MoveResult) (report : Bool) : Did :=
  let x := axisOf s a
  match x.pending with
  | some p =>
    releaseClaim
      (putAxis s a { noExpiry x with pending := none, owner := p.owner, coastResult := some r, coastReport := report,
                                     afterShed := false })
      (.axis a)
  | none =>
    if keptMove x then
      releaseClaim (putAxis s a { x with move := none, coastResult := some r, coastReport := report, afterShed := false }) (.axis a)
    else done (putAxis s a { noExpiry x with coastResult := some r, coastReport := report })

/-- R17: the move of an axis, with any pending move, ends early with result `r`. A learn run so ended is lost (R24). -/
def endMove (b : Base) (s : Seat) (a : Axis) (r : MoveResult) (report : Bool) : Did :=
  let s1 := if ownerMet s.brace.mode (axisOf s a) = .learn then loseLearn s a else s
  match (axisOf s1 a).drive with
  | .waitGrant => finishAtOnce s1 a r report
  | .driving => switchOff b (putAxis s1 a (noExpiry (axisOf s1 a))) a .request (some r) report
  | .coasting => endCoasting s1 a r report
  | _ => done s1

/-! ### Starting a move -/

/-- R9: the bridge is driven in the move direction. -/
def startDrive (b : Base) (s : Seat) (a : Axis) (m : Move) : Seat :=
  let cf := b.cfg.axis.get a
  putAxis s a
    { axisOf s a with
      drive := .driving, move := some m, bridge := drivenBridge m.dir, driveDir := m.dir,
      stallLeft := some (cf.stallTimeout + cf.startAllowance), coastLeft := none, blankLeft := some blankingTime,
      overcurrentLeft := none, coastResult := none, coastReport := false, afterShed := false }

/-- The axis waits for its grant with its bridge released (1.5). -/
def waiting (x : AxisState) (m : Move) : AxisState :=
  { x with drive := .waitGrant, move := some m, bridge := .released, stallLeft := none, coastLeft := none, blankLeft := none,
           overcurrentLeft := none, coastResult := none, coastReport := false }

/-- R7, R8: raise the claim of an axis in WAIT_GRANT, unless its dirty mark is being written; a BRACE move does not wait. -/
def raiseAxis (b : Base) (s : Seat) (a : Axis) : Did :=
  let x := axisOf s a
  if isPending s.alloc (.axis a) then done s
  else if x.dirty = .queued ∧ x.owner ≠ .brace then done s
  else raiseClaim s (.axis a) (axisClass x.owner) (b.cfg.axis.get a).claim 0

/-- R7 steps 3 and 4, then WAIT_GRANT, or DRIVING at once when the claim is still granted (R13 step 4). -/
def prepare (b : Base) (s : Seat) (a : Axis) (m : Move) : Did :=
  let x := axisOf s a
  match endsAtOnce (b.cfg.axis.get a) x m with
  | some r => finishAtOnce s a r true
  | none =>
    if isGranted s.alloc (.axis a) then done (startDrive b s a m)
    else raiseAxis b (putAxis s a (waiting x m)) a

/-- R8: the dirty mark of the first move taken in a run. -/
def markDirty (s : Seat) (a : Axis) : Seat :=
  let x := axisOf s a
  if x.dirty = .notMarked then queueAxisRecord (putAxis s a { x with dirty := .queued }) a false else s

/-- R84: a SLIDE move of owner MANUAL or LINK makes RETURN invalid. -/
def loseReturn (s : Seat) : Seat := { s with profiles := s.profiles.set .return Reset.profile }

def spoilReturn (s : Seat) (a : Axis) (o : Owner) : Seat :=
  if a = .slide ∧ (o = .manual ∨ o = .link) then loseReturn s else s

/-- R17, R25: what a takeover by owner `o` does to the move that the axis holds: a learn run is lost, and the move of
another owner ends ABORTED; the owner is told at once. -/
def takeOver (s : Seat) (a : Axis) (o old : Owner) : Did :=
  if old = o ∨ old = .none then done s
  else
    let s1 := if old = .learn then loseLearn s a else s
    done (putAxis s1 a { axisOf s1 a with lastResult := some .aborted })

/-- R16 while COASTING: the new move becomes the pending move, or replaces the kept move of a shed. The end of the move that
coasts is not reported to the owner of a pending move: the move that the owner now holds has not ended (R76). The mark that
the axis waits after a shed goes with its claim (R18, notes/assumptions/43.md). A claim kept for the pending move that is replaced
stays for the new one, also when another owner takes over (notes/assumptions/66.md). -/
def takeCoasting (s : Seat) (a : Axis) (o old : Owner) (m : Move) : Seat :=
  let x := axisOf s a
  let other := ¬ (old = o) ∧ ¬ (old = .none)
  let x1 := if other then { x with coastResult := some .aborted } else x
  if keptMove x then putAxis s a { x1 with move := some m, owner := o, coastReport := false }
  else putAxis s a { noExpiry x1 with pending := some { move := m, owner := o }, coastReport := false }

/-- R16: an axis that may take the move takes it. `m` is the move after R7 steps 1 and 2. A target at or behind the position
while DRIVING gives the move the other direction, so it is a reversal (notes/assumptions/44.md). A claim that waits after a
shed still does when another move takes its place (notes/assumptions/43.md), and the claim kept across a reversal is kept in a
takeover too, with its class changed (notes/assumptions/66.md). -/
def takeMove (b : Base) (s : Seat) (a : Axis) (o : Owner) (m : Move) : Did :=
  let old := ownerMet s.brace.mode (axisOf s a)
  let s0 := spoilReturn (markDirty s a) a o
  let told := if old = o ∨ old = .none then [] else [Task.moveEnded a old .aborted]
  match (axisOf s0 a).drive with
  | .idle => prepare b (putAxis s0 a { axisOf s0 a with owner := o }) a m
  | .waitGrant =>
    let s1 := (takeOver s0 a o old).1
    let s2 := putAxis s1 a { axisOf s1 a with owner := o }
    let y := changeClass s2 (.axis a) (axisClass o)
    let z := prepare b y.1 a m
    (z.1, told ++ y.2 ++ z.2)
  | .driving =>
    let s1 := (takeOver s0 a o old).1
    let x := axisOf s1 a
    if x.driveDir = m.dir then
      let y := changeClass (putAxis s1 a { x with move := some m, owner := o }) (.axis a) (axisClass o)
      (y.1, told ++ y.2)
    else
      let s2 := putAxis s1 a { noExpiry x with pending := some { move := m, owner := o } }
      let y := changeClass s2 (.axis a) (axisClass o)
      let z := switchOff b y.1 a .request none false
      (z.1, told ++ y.2 ++ z.2)
  | .coasting =>
    let s1 := if old = .learn ∧ o ≠ .learn then loseLearn s0 a else s0
    let y := changeClass (takeCoasting s1 a o old m) (.axis a) (axisClass o)
    (y.1, told ++ y.2)
  | .fault => done s

/-! ### Grant and shed (R9, R18) -/

/-- R9: the grant of a claim reaches its axis. A grant in a coast acts at its end. -/
def axisGranted (b : Base) (s : Seat) (a : Axis) : Did :=
  let x := axisOf s a
  match x.drive, x.move with
  | .waitGrant, some m =>
    if atSoftLimit (b.cfg.axis.get a) x m.dir then finishAtOnce s a .endStop true else done (startDrive b s a m)
  | _, _ => done s

/-- R18: a shed reaches its axis; the claim is already pending in its place. -/
def axisShed (b : Base) (s : Seat) (a : Axis) : Did :=
  let cf := b.cfg.axis.get a
  let x := axisOf s a
  match x.drive with
  | .driving => (putAxis s a { coasting cf x .shed none false with afterShed := true }, coastTasks cf a)
  | .coasting => done (putAxis s a { x with afterShed := true })
  | _ => done s

/-! ### Pulses (R5, R6, R10) -/

/-- R6: an addition to the disturbance count, with its comparison. -/
def disturb (b : Base) (s : Seat) (a : Axis) : Seat :=
  let x := axisOf s a
  let n := min 255 (x.disturbance + 1)
  let limit := (b.cfg.axis.get a).disturbanceLimit
  if x.disturbance = limit ∧ limit < 255 ∧ x.confidence = .learned then
    post (putAxis s a { x with disturbance := n, confidence := .suspect }) .axisSuspect (.axis a) 1
  else putAxis s a { x with disturbance := n }

/-- R5: the pulse would take the position out of 0 to 16383. -/
def saturates (x : AxisState) : Bool :=
  match x.driveDir with
  | .up => maxPosition ≤ x.position
  | .down => x.position = 0

def counted (x : AxisState) : Nat :=
  match x.driveDir with
  | .up => min maxPosition (x.position + 1)
  | .down => x.position - 1

/-- R5: confidence after a saturation. -/
def doubt (c : Confidence) : Confidence :=
  match c with
  | .learned => .suspect
  | c => c

/-- R5: the pulse is counted. -/
def countPulse (s : Seat) (a : Axis) : Seat :=
  let x := axisOf s a
  if saturates x then post (putAxis s a { x with confidence := doubt x.confidence }) .axisSuspect (.axis a) 0
  else putAxis s a { x with position := counted x }

/-- R10: the remaining distance in the move direction. -/
def remaining (x : AxisState) (m : Move) (t : Nat) : Int :=
  match m.dir with
  | .up => (t : Int) - (x.position : Int)
  | .down => (x.position : Int) - (t : Int)

def leadOf (x : AxisState) (d : Dir) : Nat :=
  match d with
  | .up => x.leadUp
  | .down => x.leadDown

def leadReached (x : AxisState) (m : Move) : Bool :=
  match m.kind with
  | .toTarget t => remaining x m t ≤ (leadOf x m.dir : Int)
  | .jog => false

/-- R10: the switch-off test; LEAD goes before LIMIT. -/
def switchOffTest (cf : AxisSettings) (x : AxisState) (m : Move) : Option Cause :=
  if leadReached x m then some .lead else if atSoftLimit cf x m.dir then some .limit else none

/-- R10, R11: the pulse of a DRIVING axis, after it was counted. -/
def drivenPulse (b : Base) (s : Seat) (a : Axis) : Did :=
  let cf := b.cfg.axis.get a
  let s1 := putAxis s a { axisOf s a with stallLeft := some cf.stallTimeout }
  match (axisOf s1 a).move with
  | none => done s1
  | some m =>
    match switchOffTest cf (axisOf s1 a) m with
    | some .lead => switchOff b s1 a .lead none true
    | some _ => switchOff b s1 a .limit (some .endStop) true
    | none => done s1

/-- R5, R6: an accepted pulse. -/
def pulse (b : Base) (s : Seat) (a : Axis) : Did :=
  match (axisOf s a).drive with
  | .driving => drivenPulse b (countPulse s a) a
  | .coasting => done (countPulse s a)
  | _ => done (disturb b s a)

/-! ### Stall (R11, R15, R23, R24) -/

/-- R24: a failed learn run. -/
def failLearn (s : Seat) (a : Axis) (detail : Nat) : Seat :=
  post (loseLearn s a) .learnFailed (.axis a) (toWord detail)

/-- R15: a stall at a stop of a LEARNED axis, or at the low end of a SUSPECT one: the stop to which the axis re-anchors. -/
def stallAnchor (cf : AxisSettings) (x : AxisState) : Option Nat :=
  match x.confidence, x.driveDir, x.lowStop, x.highStop with
  | .learned, .up, _, some h => if h ≤ x.position + cf.endWindow then some h else none
  | .learned, .down, some l, _ => if x.position ≤ l + cf.endWindow then some l else none
  | .suspect, .down, some _, some _ => if x.position ≤ lowStopPosition + cf.suspectWindow then some lowStopPosition else none
  | _, _, _, _ => none

/-- R15: END with a resync. Only a SUSPECT axis loses its disturbance count and becomes LEARNED. -/
def anchor (s : Seat) (a : Axis) (stop : Nat) : Seat :=
  let x := axisOf s a
  let amount : Int := (stop : Int) - (x.position : Int)
  let x1 := { x with position := stop, resync := amount }
  let x2 := if x.confidence = .suspect then { x1 with confidence := .learned, disturbance := 0 } else x1
  post (putAxis s a x2) .axisResync (.axis a) (signedWord amount)

/-- R15: the stall of a move that is no learn run. -/
def classifyStall (b : Base) (s : Seat) (a : Axis) : Seat × MoveResult :=
  let x := axisOf s a
  if x.confidence = .unlearned then (s, .endStop)
  else
    match stallAnchor (b.cfg.axis.get a) x with
    | some stop => (anchor s a stop, .endStop)
    | none => (post s .axisObstacle (.axis a) (toWord x.position), .obstacle)

/-- R23, R24: the stall of a learn run. -/
def learnStall (b : Base) (s : Seat) (a : Axis) : Seat × MoveResult :=
  let x := axisOf s a
  match x.learn with
  | .low => (putAxis s a { x with position := lowStopPosition, lowStop := some lowStopPosition }, .endStop)
  | .high =>
    if x.position < lowStopPosition + (b.cfg.axis.get a).minTravel then (failLearn s a 0, .endStop)
    else (putAxis s a { x with highStop := some x.position }, .endStop)
  | _ => (failLearn s a 1, .obstacle)

/-- R11: the stall timer expires. -/
def stalled (b : Base) (s : Seat) (a : Axis) : Did :=
  let y := if (axisOf s a).learn = .none then classifyStall b s a else learnStall b s a
  switchOff b y.1 a .stall (some y.2) true

/-! ### End of the coast (R13, R14) -/

/-- R14: the overshoot; positive is past the target. -/
def overshoot (x : AxisState) (m : Move) (t : Nat) : Int :=
  match m.dir with
  | .up => (x.position : Int) - (t : Int)
  | .down => (t : Int) - (x.position : Int)

/-- R14: the lead after a coast. -/
def adaptedLead (lead : Nat) (past : Int) : Nat :=
  if 2 ≤ past then min 63 (lead + 1) else if past ≤ -2 then lead - 1 else lead

def adaptLead (x : AxisState) (m : Move) (t : Nat) : AxisState :=
  match m.dir with
  | .up => { x with leadUp := adaptedLead x.leadUp (overshoot x m t) }
  | .down => { x with leadDown := adaptedLead x.leadDown (overshoot x m t) }

/-- R14: REACHED within the On-target window, MISSED otherwise. -/
def judged (cf : AxisSettings) (x : AxisState) (t : Nat) : MoveResult :=
  if onTarget cf x.position t then .reached else .missed

/-- R13 steps 1 to 3: the lead adapts after a LEAD coast, and the result of the coast. -/
def coastOutcome (cf : AxisSettings) (x : AxisState) : AxisState × Option MoveResult :=
  match x.cause, x.move with
  | some .lead, some m =>
    match m.kind with
    | .toTarget t => (adaptLead x m t, some (x.coastResult.getD (judged cf x t)))
    | .jog => (x, x.coastResult)
  | _, _ => (x, x.coastResult)

/-- R23: the move of the next phase of a learn run, from the phase whose coast has ended. -/
def nextPhase (cf : AxisSettings) (x : AxisState) : Option (LearnPhase × Move) :=
  match x.learn, x.cause with
  | .low, some .stall => some (.high, { kind := .jog, dir := .up, expiry := none })
  | .high, some .stall =>
    match softLimits cf x with
    | some (_, hi) => some (.settle, { kind := .toTarget hi, dir := directionTo x hi, expiry := none })
    | none => none
  | _, _ => none

/-- R13 step 4: a pending move becomes the move, with its own owner. -/
def startPending (b : Base) (s : Seat) (a : Axis) (o : Owner) (m : Move) : Did :=
  let x := axisOf s a
  prepare b (putAxis s a { x with owner := o, pending := none, coastLeft := none, coastReport := false, coastResult := none }) a m

/-- R13 step 6. A learn run whose settle has ended is complete (R24). -/
def coastToIdle (s : Seat) (a : Axis) : Seat :=
  let x := axisOf s a
  let s1 := if x.owner = .learn ∧ x.learn = .settle ∧ x.cause = some .lead then completeLearn s a else s
  putAxis s1 a (toIdle (axisOf s1 a))

/-- R13: the end of the Coast window. -/
def endCoast (b : Base) (s : Seat) (a : Axis) : Did :=
  let cf := b.cfg.axis.get a
  let x := axisOf s a
  if x.drive ≠ .coasting then done s
  else
    let o := coastOutcome cf x
    let x1 := { o.1 with lastResult := if o.2.isSome then o.2 else x.lastResult }
    let s1 := putAxis s a x1
    let told := match o.2 with
      | some r => reportIf x.coastReport a x.owner r
      | none => []
    let y : Did :=
      match x1.pending with
      | some p => startPending b s1 a p.owner p.move
      | none =>
        if keptMove x then
          match x1.move with
          | some m => startPending b s1 a x1.owner (aimed x1 m)
          | none => done s1
        else
          match nextPhase cf x1 with
          | some (ph, m) => startPending b (putAxis s1 a { x1 with learn := ph }) a .learn m
          | none => done (coastToIdle s1 a)
    (y.1, told ++ y.2)

/-! ### Overcurrent, fault, learn, crash -/

/-- R19: overcurrent. The switch-off cause stays that of the drive before (notes/assumptions/45.md). -/
def overcurrent (s : Seat) (a : Axis) : Did :=
  let x := axisOf s a
  let x1 := { toIdle x with drive := .fault, lastResult := some .fault, confidence := doubt x.confidence }
  let s1 := post (putAxis s a x1) .axisFault (.axis a) (toWord x.position)
  let s2 := if x.learn = .none then s1 else failLearn s1 a 2
  let y := releaseClaim s2 (.axis a)
  (y.1, y.2 ++ [.moveEnded a x.owner .fault])

/-- R20: FAULT is cleared. -/
def clearFault (s : Seat) (a : Axis) : Seat := putAxis s a { axisOf s a with drive := .idle, owner := .none }

/-- R23: a learn run starts. -/
def startLearn (b : Base) (s : Seat) (a : Axis) : Did :=
  let lead := (b.cfg.axis.get a).initialLead
  let s1 := if a = .slide then loseReturn s else s
  let s2 := putAxis s1 a
    { axisOf s1 a with confidence := .unlearned, lowStop := none, highStop := none, leadUp := lead, leadDown := lead, learn := .low }
  takeMove b s2 a .learn { kind := .jog, dir := .down, expiry := none }

/-- R153 step 2: a crash ends whatever the axis does, and brakes it. -/
def crashAxis (b : Base) (s : Seat) (a : Axis) : Did :=
  let y := endMove b s a .aborted false
  let x := axisOf y.1 a
  if x.drive = .coasting then (putAxis y.1 a { x with bridge := .braked }, y.2) else y

end Sys2Proof.Machine
end

