-- ==== Sys2Proof/Machine/Climate.lean ====
section
/-! DEFINITION. The climate controller: mat temperature, the heat sample, protection, levels and fans
(07_seat_climate.md R123 to R138). -/
namespace Sys2Proof.Machine

def zoneOrder : List Zone := [.c, .b]

def zoneOf (s : Seat) (z : Zone) : ZoneState := s.zones.get z

def putZone (s : Seat) (z : Zone) (x : ZoneState) : Seat := { s with zones := s.zones.set z x }

/-- floor(n / d) for a whole n of either sign and a positive d. -/
def floorDiv (n : Int) (d : Nat) : Int := Int.fdiv n (d : Int)

def clampInt (lo hi v : Int) : Int := max lo (min hi v)

/-! ### Mat temperature (R125, R126) -/

/-- R125: the segment of a code between two breakpoints. -/
def segment (p q : Breakpoint) (c : Nat) : Int :=
  p.temp + floorDiv (((p.code : Int) - (c : Int)) * (q.temp - p.temp)) (p.code - q.code)

/-- R125: the temperature of a code below the first breakpoint of the list. -/
def temperatureFrom (c : Nat) : List Breakpoint → Int
  | [] => 0
  | [p] => p.temp
  | p :: q :: rest => if q.code ≤ c then segment p q c else temperatureFrom c (q :: rest)

/-- R125: mat temperature, in half-degrees. -/
def temperature (table : List Breakpoint) (c : Nat) : Int :=
  match table with
  | [] => 0
  | p :: rest => if p.code ≤ c then p.temp else temperatureFrom c (p :: rest)

/-- R126: an open or shorted thermistor. -/
def codeFaulty (c : Nat) : Bool := c < 16 || 4079 < c

/-! ### The loop (R128 to R130) -/

/-- The target of a level (7.1). -/
def levelTarget (zs : ZoneSettings) (level : Nat) : Nat :=
  match level with
  | 1 => zs.target1
  | 2 => zs.target2
  | _ => zs.target3

/-- R128 step 1. -/
def loopTarget (zs : ZoneSettings) (z : ZoneState) : Int :=
  (levelTarget zs z.heat : Int) - (if 2 ≤ z.fan then ventilationOffset else 0)

/-- R128 step 2. -/
def loopError (zs : ZoneSettings) (z : ZoneState) : Int := clampInt (-255) 255 (loopTarget zs z - z.temp.getD 0)

/-- R128 step 3. -/
def loopIntegrator (zs : ZoneSettings) (z : ZoneState) : Int :=
  if z.capped then z.i16 else clampInt 0 4080 (z.i16 + (zs.ki : Int) * loopError zs z)

/-- R128 step 4, on the new integrator. -/
def loopDutyOf (zs : ZoneSettings) (z : ZoneState) : Nat :=
  (clampInt 0 255 ((zs.kp : Int) * loopError zs z + floorDiv (loopIntegrator zs z) 16)).toNat

/-- R129: mat current. -/
def matCurrent (v resistance : Nat) : Nat := if resistance = 0 then 0 else 10 * v / resistance

/-- R129: ceil(duty × C / 255). -/
def demandOf (duty current : Nat) : Nat := (duty * current + 254) / 255

/-- R128, R129: the loop up to its demand. -/
def loopValues (zs : ZoneSettings) (v : Nat) (z : ZoneState) : ZoneState :=
  let duty := loopDutyOf zs z
  let c := matCurrent v zs.matResistance
  { z with i16 := loopIntegrator zs z, loopDuty := duty, current := c, demand := demandOf duty c, vUsed := v }

/-- R130: the end of the loop with the grant now held. -/
def loopEnd (s : Seat) (z : Zone) : Seat :=
  let x := zoneOf s z
  let out := min x.loopDuty (dutyCap x.grant x.current)
  putZone s z { x with dutyOut := out, capped := out < x.loopDuty }

/-- A demand that has changed is handed with its pass (R129, R32). -/
def passIfDemand (s : Seat) (old new : Nat) : Did := if old = new then done s else (s, [.pass])

/-- R128 to R130: the loop of a REGULATING zone. -/
def runLoop (b : Base) (s : Seat) (z : Zone) : Did :=
  let x := zoneOf s z
  let x1 := loopValues (b.cfg.zone.get z) b.monitor.v x
  let y := passIfDemand (putZone s z x1) x.demand x1.demand
  (y.1, y.2 ++ [.loopEnd z])

/-! ### Protection (R126, R132) -/

/-- "The heater is off" (7.1). -/
def heaterOff (x : ZoneState) : ZoneState := { x with dutyOut := 0, demand := 0, i16 := 0, capped := false }

/-- The heater goes off in a mode; a demand that was not 0 is handed as 0. -/
def switchHeaterOff (s : Seat) (z : Zone) (x : ZoneState) : Did := passIfDemand (putZone s z (heaterOff x)) x.demand 0

/-- R126: a code in fault. -/
def zoneFault (s : Seat) (z : Zone) (code : Nat) : Did :=
  let x := { zoneOf s z with ntc := some code }
  if x.mode = .sensorFault then done (putZone s z x)
  else switchHeaterOff (post s .sensorFault (.zone z) (toWord code)) z { x with mode := .sensorFault }

/-- R132: the zone goes into OVERHEAT. -/
def overheat (s : Seat) (z : Zone) (x : ZoneState) (t : Int) : Did :=
  switchHeaterOff (post s .heatOverheat (.zone z) (signedWord t)) z { x with mode := .overheat }

/-- R126 to R132: the sample of a zone with a valid code, by its state and its new T_m. -/
def judgeSample (b : Base) (s : Seat) (z : Zone) (x : ZoneState) (t : Int) : Did :=
  let regulate : Did := runLoop b (putZone s z { x with mode := .regulating }) z
  match x.mode with
  | .off => done (putZone s z x)
  | .regulating => if limitTemperature ≤ t then overheat s z x t else regulate
  | .overheat => if t < limitTemperature - recoveryMargin then regulate else done (putZone s z x)
  | .sensorFault =>
    if x.heat = 0 then done (putZone s z { x with mode := .off })
    else if limitTemperature ≤ t then overheat s z x t else regulate

/-- R127: one sample of a zone; its timer restarts with the Heat period. -/
def heatSample (b : Base) (s : Seat) (z : Zone) (code : Nat) : Did :=
  let s1 := putZone s z { zoneOf s z with sampleLeft := some (b.cfg.zone.get z).heatPeriod }
  if codeFaulty code then zoneFault s1 z code
  else
    let t := temperature b.cfg.ntc code
    judgeSample b s1 z { zoneOf s1 z with ntc := some code, temp := some t } t

/-! ### Levels (R133 to R136) -/

/-- R134: the zone state at a level, unless it is SENSOR_FAULT. -/
def modeAtLevel (m : ZoneMode) (old level : Nat) : ZoneMode :=
  match m with
  | .sensorFault => .sensorFault
  | m => if level = 0 then .off else if old = 0 then .regulating else m

/-- R134: a change of heat level. The time at level 3 starts from 0 when the level becomes 3, and is 0 when it leaves 3. -/
def setHeat (s : Seat) (z : Zone) (level : Nat) : Did :=
  let x := zoneOf s z
  if x.heat = level then done s
  else
    let x1 := { x with heat := level, mode := modeAtLevel x.mode x.heat level, level3 := 0 }
    if level = 0 then switchHeaterOff s z x1 else done (putZone s z x1)

/-- R135: a change of fan level, handed to the allocator. -/
def setFan (b : Base) (s : Seat) (z : Zone) (level : Nat) : Did :=
  let x := zoneOf s z
  fanLevelChange b (putZone s z { x with fan := level }) z x.fan level

/-- R136: the off order of a crash and of a park. -/
def climateOff (b : Base) (s : Seat) : Did :=
  forEach zoneOrder (fun z t => andThen (setHeat t z 0) (fun u => setFan b u z 0)) s

/-- R136: on entering PARKED, and in a crash, no output runs: a level-0 fan claim is released too. -/
def releaseFans (s : Seat) : Did := forEach zoneOrder (fun z t => releaseClaim t (.fan z)) s

/-- R133: a zone steps down from level 3. -/
def stepDown (s : Seat) (z : Zone) : Did :=
  let y := setHeat s z 2
  (post y.1 .heatStepdown (.zone z) 2, y.2)

/-- R133: the Step-down time in ms, none for never. -/
def stepDownTime (zs : ZoneSettings) : Option Nat := if zs.stepDown = 0 then none else some (zs.stepDown * 60000)

/-- R133: the time at level 3 has reached the Step-down time. -/
def stepDownDue (zs : ZoneSettings) (x : ZoneState) : Bool :=
  match stepDownTime zs with
  | some t => x.heat = 3 && t ≤ x.level3
  | none => false

/-! ### Fan outputs (R135, R41) -/

/-- R135: the fan output. -/
def fanOutput (b : Base) (s : Seat) (z : Zone) : Nat :=
  if isGranted s.alloc (.fan z) then b.cfg.fanDuty.get (runningLevel s.alloc z) else 0

end Sys2Proof.Machine
end

