-- ==== Sys2Proof/Machine/RecallOps.lean ====
section
/-! DEFINITION. The recall sequencer and the profile table: captures, the start, the waves, the end and the aborts of a recall
(04_remembered_positions.md R64 to R86). -/
namespace Sys2Proof.Machine

/-! ### Capture (R65) -/

/-- R65: a capture into P1 to P4 and RETURN takes a LEARNED axis in IDLE. -/
def restPosition (x : AxisState) : Option Nat :=
  if x.confidence = .learned ∧ x.drive = .idle then some x.position else none

/-- The entries of an axis part, present axes only. -/
def axisPart (f : Fitment) (s : Seat) (entry : AxisState → Option Nat) : PerAxis (Option Nat) :=
  let at_ (a : Axis) : Option Nat := if present f a then entry (axisOf s a) else none
  { slide := at_ .slide, lift := at_ .lift, tilt := at_ .tilt, recline := at_ .recline, headrest := at_ .headrest,
    extend := at_ .extend }

/-- The support part of P1 to P4: comfort targets. -/
def comfortPart (g : Gallery) : PerBladder (Option Nat) :=
  { PerBladder.all none with
    lu := g.bladders.lu.comfort, ll := g.bladders.ll.comfort, bbl := g.bladders.bbl.comfort, bbr := g.bladders.bbr.comfort,
    cbl := g.bladders.cbl.comfort, cbr := g.bladders.cbr.comfort }

/-- The support part of BRACE: last measured pressures of the bolsters. -/
def bolsterPart (g : Gallery) : PerBladder (Option Nat) :=
  { PerBladder.all none with
    bbl := g.bladders.bbl.measured, bbr := g.bladders.bbr.measured, cbl := g.bladders.cbl.measured,
    cbr := g.bladders.cbr.measured }

def levelsOf (z : ZoneState) : Climate := { heat := z.heat, fan := z.fan }

/-- R65: P1 to P4. -/
def captureStore (f : Fitment) (s : Seat) : Profile :=
  { valid := true, axes := axisPart f s restPosition, support := comfortPart s.gallery,
    climate := some { c := levelsOf s.zones.c, b := levelsOf s.zones.b } }

/-- R65: RETURN. -/
def captureReturn (f : Fitment) (s : Seat) : Profile :=
  { valid := true, axes := axisPart f s restPosition, support := .all none, climate := none }

/-- R65: BRACE. -/
def captureBrace (f : Fitment) (s : Seat) : Profile :=
  { valid := true, axes := axisPart f s (fun x => some x.position), support := bolsterPart s.gallery, climate := none }

/-- The profile that READ PROFILE and the records hold for a slot of the table. -/
def profileOf (s : Seat) (k : Slot) : Profile := s.profiles.get k

def putProfile (s : Seat) (k : Slot) (p : Profile) : Seat := { s with profiles := s.profiles.set k p }

/-- R66, R68: write a slot and queue its record. -/
def storeSlot (s : Seat) (k : Retained4) (p : Profile) : Seat := queueWrite (putProfile s k.slot p) (.profile k p)

/-! ### Codes of the RECALL_DONE notice (12.1.4) -/

def slotCode (k : Option Slot) : Nat :=
  match k with
  | some .p1 => 0 | some .p2 => 1 | some .p3 => 2 | some .p4 => 3 | some .return => 4 | some .brace => 5
  | none => 6

def sourceCode (k : Source) : Nat :=
  match k with
  | .key => 0 | .link => 1 | .easyEntry => 2 | .standDown => 3

def outcomeCode (k : RecallOutcome) : Nat :=
  match k with
  | .complete => 0 | .partlyDone => 1 | .superseded => 2 | .bySwitch => 3 | .keyReleased => 4 | .stopped => 5
  | .timeout => 6 | .preempted => 7

/-! ### Judgement (R71, R72) -/

/-- R71 steps 1 to 3: the result of an axis that is not moved. -/
def judgeAxis (cf : AxisSettings) (x : AxisState) (t : Nat) : Option RecallResult :=
  if x.drive = .fault then some (.ended .fault)
  else if x.confidence = .unlearned then some .unlearned
  else if onTarget cf x.position (clampTarget cf x t) then some (.ended .reached)
  else none

/-- R72. -/
def waveOf (c : Clearing) (d : Dir) : Wave :=
  match c, d with
  | .none, _ => .one
  | .down, .down => .one
  | .up, .up => .one
  | _, _ => .two

/-- R71, R72: the result and the wave of one axis at the start. -/
def judgeStart (b : Base) (s : Seat) (a : Axis) (t : Option Nat) : RecallResult × Option Wave :=
  let cf := b.cfg.axis.get a
  let x := axisOf s a
  match t with
  | none => (.none, none)
  | some t =>
    match judgeAxis cf x t with
    | some r => (r, none)
    | none => (.waiting, some (waveOf cf.clearing (directionTo x (clampTarget cf x t))))

def tabulate {α : Type} (f : Axis → α) : PerAxis α :=
  { slide := f .slide, lift := f .lift, tilt := f .tilt, recline := f .recline, headrest := f .headrest, extend := f .extend }

/-- R69: the targets that the context copies, present axes only, clamped to 0 to 16383. -/
def copiedTargets (f : Fitment) (t : PerAxis (Option Nat)) : PerAxis (Option Nat) :=
  tabulate (fun a => if present f a then (t.get a).map (fun p => min p maxPosition) else none)

/-- R69, R71, R72: the context of a recall of a slot. -/
def newContext (b : Base) (s : Seat) (slot : Slot) (source : Source) (key : Option Key) (targets : PerAxis (Option Nat)) : Recall :=
  { slot := some slot, source := source, deadMan := key, phase := .wave1, outcome := none, target := targets,
    wave := tabulate (fun a => (judgeStart b s a (targets.get a)).2),
    result := tabulate (fun a => (judgeStart b s a (targets.get a)).1),
    left := b.cfg.recallLimit * 1000 }

/-! ### Waves and the end (R73, R76) -/

def recallOwner (k : Source) : Owner := if k = .standDown then .brace else .recall

/-- The result of an axis in the context is written. -/
def setRecallResult (r : Recall) (a : Axis) (v : RecallResult) : Recall := { r with result := r.result.set a v }

/-- R73: the move of one axis is handed; in wave 2 the axis is judged again first. The target that the context copied is clamped here
by the Soft margin that now holds (notes/assumptions/77.md). -/
def recallHand (b : Base) (s : Seat) (a : Axis) : Did :=
  match s.recallCtx with
  | none => done s
  | some r =>
    match r.target.get a, r.result.get a with
    | some t, .waiting =>
      let cf := b.cfg.axis.get a
      let again := if r.phase = .wave2 then judgeAxis cf (axisOf s a) t else none
      match again with
      | some v => done { s with recallCtx := some (setRecallResult r a v) }
      | none =>
        takeMove b { s with recallCtx := some (setRecallResult r a .running) } a (recallOwner r.source)
          (toTargetMove cf (axisOf s a) t)
    | _, _ => done s

/-- The move of an axis has not ended. -/
def unended (v : RecallResult) : Bool :=
  match v with
  | .waiting => true
  | .running => true
  | _ => false

/-- The axes of a wave, in the order in which they are handed. -/
def waveAxes (r : Recall) (w : Wave) : List Axis := recallOrder.filter (fun a => r.wave.get a = some w)

def waveOpen (r : Recall) (w : Wave) : Bool := (waveAxes r w).any (fun a => unended (r.result.get a))

/-- R76: every axis with a target has result REACHED. -/
def allReached (r : Recall) : Bool :=
  axisOrder.all (fun a => (r.target.get a).isNone || r.result.get a = .ended .reached)

/-- The context ends: it is copied to the last-recall record, and RECALL_DONE is posted (R76, R77). -/
def closeRecall (s : Seat) (r : Recall) (phase : Phase) (outcome : RecallOutcome) : Seat :=
  post { s with recallCtx := none, lastRecall := some { r with phase := phase, outcome := some outcome } }
    .recallDone .none (pairWord (slotCode r.slot * 16 + sourceCode r.source) (outcomeCode outcome))

/-- R151: the outcome of a restore, as its notice carries it. -/
def restoreOf (o : RecallOutcome) : RestoreOutcome :=
  match o with
  | .complete => .complete
  | .partlyDone => .partlyDone
  | .timeout => .timeout
  | .bySwitch => .bySwitch
  | _ => .none

/-- The brace controller learns how its restore ended (R151). -/
def noteRestore (s : Seat) (source : Source) (o : RecallOutcome) : Seat :=
  if source = .standDown then { s with brace := { s.brace with restore := restoreOf o } } else s

/-- R85: an easy entry that ends DONE makes RETURN invalid. -/
def afterEntry (s : Seat) (slot : Option Slot) : Seat := if slot = some .return then loseReturn s else s

/-- R76: the context ends DONE. -/
def finishRecall (s : Seat) (r : Recall) : Did :=
  let o := if allReached r then RecallOutcome.complete else .partlyDone
  (noteRestore (afterEntry (closeRecall s r .done o) r.slot) r.source o, [.releasingCheck])

/-- R73, R76: the next wave, or the end, when the moves of the phase have ended. -/
def recallCheck (s : Seat) : Did :=
  match s.recallCtx with
  | none => done s
  | some r =>
    match r.phase with
    | .wave1 =>
      if waveOpen r .one then done s
      else ({ s with recallCtx := some { r with phase := .wave2 } }, (waveAxes r .two).map .recallHand ++ [.recallCheck])
    | .wave2 => if waveOpen r .two then done s else finishRecall s r
    | _ => done s

/-! ### Aborts (R77) -/

/-- R77 step 2: the result of a RUNNING move. -/
def abortResult (x : AxisState) (o : RecallOutcome) : MoveResult :=
  if o = .timeout ∧ x.drive = .waitGrant ∧ x.afterShed then .shedAbort else .aborted

/-- R77 steps 2 to 4: the results of an aborted context. -/
def abortedResult (s : Seat) (o : RecallOutcome) (a : Axis) (v : RecallResult) : RecallResult :=
  match v with
  | .running => .ended (abortResult (axisOf s a) o)
  | .waiting => .notStarted
  | v => v

/-- R77: an abort. The moves of the recall are ended together; what their ends call for follows. -/
def abortRecall (b : Base) (s : Seat) (o : RecallOutcome) : Did :=
  match s.recallCtx with
  | none => done s
  | some r =>
    let moving := recallOrder.filter (fun a => r.result.get a = .running)
    let y := forEach moving (fun a t => endMove b t a (abortResult (axisOf s a) o) false) s
    let r1 := { r with result := tabulate (fun a => abortedResult s o a (r.result.get a)) }
    (noteRestore (closeRecall y.1 r1 .aborted o) r.source o, y.2 ++ [.releasingCheck])

/-! ### Starting (R70, R71, R74, R75) -/

/-- R70: an axis with a target whose owner is MANUAL or LEARN. -/
def busyAxis (f : Fitment) (s : Seat) (p : Profile) : Bool :=
  (presentIn f axisOrder).any (fun a =>
    (p.axes.get a).isSome &&
      (ownerMet s.brace.mode (axisOf s a) = .manual || ownerMet s.brace.mode (axisOf s a) = .learn))

/-- R70: the last checks of a recall of a slot. -/
def recallRefusal (f : Fitment) (s : Seat) (slot : Slot) : Option Result :=
  let p := profileOf s slot
  if !p.valid then some .empty else if busyAxis f s p then some .busy else none

/-- R74: the entries of a support part, in order. -/
def supportTasks (p : Profile) : List Task :=
  supportOrder.filterMap (fun x => (p.support.get x).map (fun t => Task.applySupport x t))

/-- R75: the levels of a climate part, zone C then zone B. -/
def climateTasks (p : Profile) : List Task :=
  match p.climate with
  | some c => [.applyHeat .c c.c.heat, .applyFan .c c.c.fan, .applyHeat .b c.b.heat, .applyFan .b c.b.fan]
  | none => []

/-- R84: a key or link recall whose profile holds a SLIDE target makes RETURN invalid. -/
def recallSpoils (s : Seat) (source : Source) (p : Profile) : Seat :=
  if (source = .key ∨ source = .link) ∧ p.axes.slide.isSome then loseReturn s else s

/-- R71 to R75: a context is created, judged, and its parts and its first wave are handed. -/
def recallStart (b : Base) (s : Seat) (slot : Slot) (source : Source) (key : Option Key) : Did :=
  let p := profileOf s slot
  let r := newContext b s slot source key (copiedTargets b.fit p.axes)
  ({ recallSpoils s source p with recallCtx := some r },
   supportTasks p ++ climateTasks p ++ (waveAxes r .one).map .recallHand ++ [.recallCheck])

/-- R78: a recall that passes its checks supersedes a running one, then starts. -/
def supersede (b : Base) (s : Seat) (slot : Slot) (source : Source) (key : Option Key) : Did :=
  let y := abortRecall b s .superseded
  (y.1, y.2 ++ [.recallStart slot source key])

/-- R149: the targets of a restore: the driven axes, from the BRACE slot. -/
def restoreTargets (f : Fitment) (s : Seat) : PerAxis (Option Nat) :=
  copiedTargets f (tabulate (fun a => if s.brace.driven.get a then (profileOf s .brace).axes.get a else none))

/-- R149: the restore starts. It carries no support part and no climate part. -/
def restoreStart (b : Base) (s : Seat) : Did :=
  let r := newContext b s .brace .standDown none (restoreTargets b.fit s)
  ({ s with recallCtx := some r }, (waveAxes r .one).map .recallHand ++ [.recallCheck])

/-- R84: the target of an easy exit. -/
def exitTarget (cfg : Settings) (x : AxisState) : Nat :=
  max (x.position - cfg.exitOffset) ((softLow cfg.axis.slide x).getD 0)

/-- R84: the exit is judged REACHED at the soft low, or on its target (R71). -/
def exitReached (cfg : Settings) (x : AxisState) : Bool :=
  x.position ≤ (softLow cfg.axis.slide x).getD 0 + cfg.axis.slide.onTarget ||
    onTarget cfg.axis.slide x.position (clampTarget cfg.axis.slide x (exitTarget cfg x))

/-- R84: the context of an easy exit. -/
def exitContext (b : Base) (s : Seat) : Recall :=
  let x := axisOf s .slide
  let hit := exitReached b.cfg x
  { slot := none, source := .easyEntry, deadMan := none, phase := .wave1, outcome := none,
    target := (PerAxis.all none).set .slide (some (exitTarget b.cfg x)),
    wave := (PerAxis.all none).set .slide (if hit then none else some .one),
    result := (PerAxis.all .none).set .slide (if hit then .ended .reached else .waiting),
    left := b.cfg.recallLimit * 1000 }

/-- R84: an accepted DOOR EXIT. -/
def exitStart (b : Base) (s : Seat) : Did :=
  ({ putProfile s .return (captureReturn b.fit s) with recallCtx := some (exitContext b s) },
   [.recallHand .slide, .recallCheck])

/-- R71: an axis with a target in the running recall is reserved to it. -/
def reserved (s : Seat) (a : Axis) : Bool :=
  match s.recallCtx with
  | some r => (r.target.get a).isSome
  | none => false

end Sys2Proof.Machine
end

