-- ==== Sys2Proof/Machine/BraceOps.lean ====
section
/-! DEFINITION. The brace controller: entry, upgrade, hold, stand-down, re-brace, crash, unlock, readiness
(08_brace_and_stand_down.md R139 to R158). -/
namespace Sys2Proof.Machine

def withBrace (s : Seat) (x : Brace) : Seat := { s with brace := x }

/-! ### Notices -/

/-- 12.1.1. -/
def modeCode (m : BraceMode) : Nat :=
  match m with
  | .idle => 0 | .bracing => 1 | .braced => 2 | .releasing => 3 | .locked => 4

def crashCode (k : CrashKind) : Nat :=
  match k with
  | .front => 0 | .rear => 1 | .side => 2 | .unspecified => 3

def restoreCode (r : RestoreOutcome) : Nat :=
  match r with
  | .none => 0 | .complete => 1 | .partlyDone => 2 | .timeout => 3 | .bySwitch => 4

/-- 12.1.4: the grade, or the crash kind in LOCKED. -/
def gradeOrKind (x : Brace) : Nat :=
  match x.mode with
  | .locked => (x.crash.map crashCode).getD 0
  | _ => x.grade

/-- R140: BRACE_STATE, with a restore outcome for the move from RELEASING to IDLE. -/
def postBrace (s : Seat) (restore : RestoreOutcome) : Seat :=
  post s .braceState .none (pairWord (modeCode s.brace.mode) (restoreCode restore * 16 + gradeOrKind s.brace))

/-! ### Contacts and store window (R61, R58) -/

/-- R61: every ACTIVE contact becomes HELD_OFF; the lumbar repetition stops. -/
def holdOffAll (s : Seat) : Seat :=
  let s1 := contactOrder.foldl holdOff s
  { s1 with scanner := { s1.scanner with waiting := [] } }

def closeWindow (s : Seat) : Seat := { s with scanner := { s.scanner with window := none } }

/-! ### Judgement (R142) -/

def inWindow (cf : AxisSettings) (p : Nat) : Bool := cf.windowLow ≤ p && p ≤ cf.windowHigh

/-- R142: the action of an axis. -/
def judgeBrace (cf : AxisSettings) (x : AxisState) : AxisAction :=
  if !cf.braceEnable then .none
  else if x.drive = .fault then .fault
  else if x.confidence = .unlearned then .unlearned
  else if inWindow cf x.position then .inWindow
  else .running

/-- R142: the bound that an axis out of its window is sent to. -/
def windowEdge (cf : AxisSettings) (x : AxisState) : Nat := if x.position < cf.windowLow then cf.windowLow else cf.windowHigh

/-- R142: the actions of a grade-2 judgement; an absent axis is passed over. -/
def judgeAll (b : Base) (s : Seat) : PerAxis AxisAction :=
  tabulate (fun a => if present b.fit a then judgeBrace (b.cfg.axis.get a) (axisOf s a) else .none)

/-- The axes to be driven, in order. -/
def toDrive (actions : PerAxis AxisAction) : List Axis := braceOrder.filter (fun a => actions.get a = .running)

/-- R142: the moves of a judgement. -/
def moveTasks (b : Base) (s : Seat) (actions : PerAxis AxisAction) : List Task :=
  (toDrive actions).map (fun a => .braceMove a (windowEdge (b.cfg.axis.get a) (axisOf s a)))

/-- R142: a brace move is handed; the axis joins the driven set. -/
def braceMove (b : Base) (s : Seat) (a : Axis) (target : Nat) : Did :=
  takeMove b (withBrace s { s.brace with driven := s.brace.driven.set a true }) a .brace
    (toTargetMove (b.cfg.axis.get a) (axisOf s a) target)

/-- R143: a brace fill is asked. -/
def braceFill (b : Base) (s : Seat) (x : Bolster) : Did :=
  if s.gallery.state = .fault then
    (withBrace s { s.brace with bolster := s.brace.bolster.set x .notTaken }, [.braceCheck])
  else askBrace b s (mkOp x.bladder .fill bracePressure .brace)

def fillTasks : List Task := bolsterOrder.map .braceFill

/-! ### Ends of actions (R144) -/

def axisActionRuns (x : Brace) : Bool := axisOrder.any (fun a => x.axisAction.get a = .running)
def bolsterRuns (x : Brace) : Bool := bolsterOrder.any (fun i => x.bolster.get i = .running)
def ventRuns (x : Brace) : Bool := bolsterOrder.any (fun i => x.vents.get i = .running)

/-- R144, R147: BRACING becomes BRACED when every action has ended, but never in CUTOFF (notes/assumptions/51.md). The hold
timer runs once the entry is done. -/
def braceCheck (b : Base) (s : Seat) : Did :=
  let x := s.brace
  if x.mode = .bracing ∧ x.holdLeft.isSome ∧ ¬ axisActionRuns x ∧ ¬ bolsterRuns x ∧ b.monitor.state ≠ .cutoff then
    (postBrace (withBrace s { x with mode := .braced }) .none, [.pass])
  else done s

/-- R141 step 10: the hold timer starts, BRACE_STATE is posted, and the actions are looked at. -/
def braceEntered (b : Base) (s : Seat) : Did :=
  (postBrace (withBrace s { s.brace with holdLeft := some (b.cfg.holdLimit * 1000) }) .none, [.braceCheck])

/-- R145. -/
def restartHold (b : Base) (s : Seat) : Seat := withBrace s { s.brace with holdLeft := some (b.cfg.holdLimit * 1000) }

/-! ### Entry (R141), upgrade (R146) -/

/-- R141 step 4: a MANUAL, LINK or LEARN move on an axis that is not driven. -/
def endForBrace (b : Base) (drive : List Axis) (a : Axis) (s : Seat) : Did :=
  if drive.contains a then done s
  else
    match ownerMet .bracing (axisOf s a) with
    | .manual => endMove b s a .aborted false
    | .link => endMove b s a .aborted false
    | .learn => endMove b s a .aborted false
    | _ => done s

/-- R141: the fields of the controller at entry from IDLE. The actions to be asked are marked RUNNING. -/
def enteredBrace (grade : Nat) (actions : PerAxis AxisAction) : Brace :=
  { mode := .bracing, grade := grade, holdLeft := none, driven := .all false, axisAction := actions, bolster := .all .running,
    vents := .all .none, crash := none, restore := .none }

def actionsOf (b : Base) (s : Seat) (grade : Nat) : PerAxis AxisAction := if grade = 2 then judgeAll b s else .all .none

/-- R141: entry to BRACING from IDLE. The passes that the releases of steps 3 and 4 call for come after step 6
(notes/assumptions/78.md). -/
def enterBracing (b : Base) (s : Seat) (grade : Nat) : Did :=
  let actions := actionsOf b s grade
  let s1 := withBrace (putProfile s .brace (captureBrace b.fit s)) (enteredBrace grade actions)
  let y := andThen (abortRecall b s1 .preempted)
    (fun t => forEach (presentIn b.fit axisOrder) (endForBrace b (toDrive actions)) t)
  (closeWindow (holdOffAll (engineEnd y.1 .brace)),
   y.2 ++ [.pass] ++ fillTasks ++ moveTasks b s actions ++ [.braceEntered])

/-- R146: a higher grade in BRACING or BRACED. -/
def upgradeBrace (b : Base) (s : Seat) (grade : Nat) : Did :=
  let actions := judgeAll b s
  let x := { s.brace with grade := grade, axisAction := actions, holdLeft := none }
  if x.mode = .braced ∧ (toDrive actions).isEmpty then
    done (postBrace (restartHold b (withBrace s x)) .none)
  else
    (withBrace s { x with mode := .bracing },
     (if x.mode = .braced then [.pass] else []) ++ moveTasks b s actions ++ [.braceEntered])

/-- R152: a re-brace; its passes as at an entry (notes/assumptions/78.md). -/
def reBrace (b : Base) (s : Seat) (grade : Nat) : Did :=
  let actions := actionsOf b s grade
  let x := { s.brace with mode := .bracing, grade := grade, holdLeft := none, bolster := .all .running, axisAction := actions }
  let y := abortRecall b (withBrace s x) .preempted
  (closeWindow (holdOffAll (engineEnd y.1 .brace)),
   y.2 ++ [.pass] ++ fillTasks ++ moveTasks b s actions ++ [.braceEntered])

/-- R140: a BRACE of a grade, by the brace state. -/
def takeBrace (b : Base) (s : Seat) (grade : Nat) : Did :=
  match s.brace.mode with
  | .idle => enterBracing b s grade
  | .bracing => if s.brace.grade < grade then upgradeBrace b s grade else done (restartHold b s)
  | .braced => if s.brace.grade < grade then upgradeBrace b s grade else done (restartHold b s)
  | .releasing => reBrace b s grade
  | .locked => done s

/-- R145: HOLD. -/
def takeHold (b : Base) (s : Seat) : Seat :=
  match s.brace.mode with
  | .bracing => restartHold b s
  | .braced => restartHold b s
  | _ => s

/-! ### Stand-down (R148 to R151) -/

/-- R148 step 2, R153 step 2: a brace action still running is recorded ABORTED. -/
def abortedAction (v : AxisAction) : AxisAction :=
  match v with
  | .running => .ended .aborted
  | v => v

/-- R150: the target of a stand-down vent. -/
def ventTarget (s : Seat) (x : Bolster) : Nat :=
  match (profileOf s .brace).support.get x.bladder, (bladderOf s.gallery x.bladder).comfort with
  | some p, _ => p
  | none, some t => t
  | none, none => 0

/-- R150: a stand-down vent is asked. -/
def standDownVent (b : Base) (s : Seat) (x : Bolster) : Did :=
  if s.gallery.state = .fault then
    (withBrace s { s.brace with vents := s.brace.vents.set x .notTaken }, [.releasingCheck])
  else askBrace b s (mkOp x.bladder .vent (ventTarget s x) .brace)

/-- R150: the massage stop is handed when cells are held and the gallery is not in FAULT. Its end reason is BRACE, also where an
earlier ending of another reason left the cells held (notes/assumptions/72.md). -/
def massageStop (s : Seat) : Did :=
  if s.engine.state = .off ∧ s.engine.held ≠ 0 ∧ s.gallery.state ≠ .fault then stopHeld s .brace else done s

/-- R148: entry to RELEASING. The hold timer reads on inside the step until every part of the entry is done. -/
def standDown (b : Base) (s : Seat) : Did :=
  let x := s.brace
  let moving := braceOrder.filter (fun a => x.axisAction.get a = .running)
  let s1 := withBrace s
    { x with mode := .releasing, holdLeft := some 0, axisAction := x.axisAction.map abortedAction, vents := .all .running,
             restore := .none }
  let y := forEach moving (fun a t => endMove b t a .aborted false) s1
  let restore : List Task := if axisOrder.any (fun a => x.driven.get a) then [.recallStart .brace .standDown none] else []
  (y.1, y.2 ++ [.pass] ++ restore ++ bolsterOrder.map .standDownVent ++ [.massageStop, .releasingEntered])

/-- R148: STAND_DOWN, taken in BRACING and BRACED. -/
def takeStandDown (b : Base) (s : Seat) : Did :=
  match s.brace.mode with
  | .bracing => standDown b s
  | .braced => standDown b s
  | _ => done s

/-- R148: BRACE_STATE is posted, and the end of RELEASING is looked at. -/
def releasingEntered (s : Seat) : Did :=
  if s.brace.mode = .releasing then (postBrace (withBrace s { s.brace with holdLeft := none }) .none, [.releasingCheck]) else done s

/-- R151: the brace state becomes IDLE from RELEASING. -/
def braceToIdle (s : Seat) (restore : RestoreOutcome) : Did :=
  (postBrace (withBrace s { s.brace with mode := .idle, grade := 0, holdLeft := none, driven := .all false, restore := restore })
    restore, [.pass])

/-- R151: RELEASING ends when the restore and every vent have ended. -/
def releasingCheck (s : Seat) : Did :=
  let x := s.brace
  if x.mode = .releasing ∧ x.holdLeft.isNone ∧ s.recallCtx.isNone ∧ ¬ ventRuns x then braceToIdle s x.restore else done s

/-- R151: a press that would act ends RELEASING. -/
def pressEndsRestore (b : Base) (s : Seat) : Did :=
  andThen (abortRecall b s .bySwitch) (fun t => braceToIdle t .bySwitch)

/-! ### Results handed to the controller -/

def bolsterOf (x : Bladder) : Option Bolster :=
  match x with
  | .bbl => some .bbl
  | .bbr => some .bbr
  | .cbl => some .cbl
  | .cbr => some .cbr
  | _ => none

/-- R143, R150: a result of a brace operation: a fill's is the bolster action, a vent's the stand-down vent. -/
def braceResult (s : Seat) (op : Op) (r : OpResult) : Did :=
  match bolsterOf op.bladder, op.kind with
  | some i, .fill => (withBrace s { s.brace with bolster := s.brace.bolster.set i (.ended r) }, [.braceCheck])
  | some i, .vent => (withBrace s { s.brace with vents := s.brace.vents.set i (.ended r) }, [.releasingCheck])
  | _, _ => done s

/-- R142, R76: a brace move or a restore move has ended. -/
def braceMoveEnded (s : Seat) (a : Axis) (r : MoveResult) : Did :=
  match s.brace.mode, s.recallCtx with
  | .releasing, some ctx =>
    if ctx.result.get a = .running then
      ({ s with recallCtx := some (setRecallResult ctx a (.ended r)) }, [.recallCheck])
    else done s
  | .bracing, _ =>
    if s.brace.axisAction.get a = .running then
      (withBrace s { s.brace with axisAction := s.brace.axisAction.set a (.ended r) }, [.braceCheck])
    else done s
  | _, _ => done s

/-! ### Crash (R153), unlock (R155), readiness (R156) -/

/-- R153: the fields of the controller in LOCKED; the action fields are kept, a running one records ABORTED. -/
def lockedBrace (x : Brace) (k : CrashKind) : Brace :=
  { x with mode := .locked, grade := 0, crash := some k, holdLeft := none, driven := .all false,
           axisAction := x.axisAction.map abortedAction, restore := .none }

/-- R153: a crash is taken in every brace state but LOCKED. Every claim is released before any pass is made, so no claim is shed
(notes/assumptions/78.md). -/
def takeCrash (b : Base) (s : Seat) (k : CrashKind) : Did :=
  if s.brace.mode = .locked then done s
  else
    let s1 := withBrace s (lockedBrace s.brace k)
    let y := andThen (andThen (andThen (andThen (abortRecall b s1 .preempted)
        (fun t => forEach (presentIn b.fit axisOrder) (fun a u => crashAxis b u a) t))
        (fun t => crashGallery (engineEnd t .crash)))
        (fun t => climateOff b t))
        releaseFans
    let s2 := closeWindow (holdOffAll y.1)
    (postBrace (queueWrite (putProfile s2 .brace Reset.profile) (.crashLock (some k))) .none, y.2 ++ [.pass])

/-- R155: the controller leaves LOCKED. -/
def unlockedBrace (x : Brace) : Brace := { x with mode := .idle, grade := 0, crash := none }

/-- R155: an accepted UNLOCK BRACE. A fan at level 0 that the crash left without its claim holds it again (R40,
notes/assumptions/18.md), zone C first (notes/assumptions/76.md). -/
def unlock (b : Base) (s : Seat) : Did :=
  andThen (postBrace (queueWrite (withBrace s (unlockedBrace s.brace)) (.crashLock none)) .none, [.pass])
    (forEach zoneOrder (fun z t => levelZeroClaim b t z))

/-- R156: the five conditions of readiness, in order. -/
structure Readiness where
  recline : Bool
  supply : Bool
  gallery : Bool
  unlocked : Bool
  line : Bool
  deriving DecidableEq, Repr

def readiness (b : Base) (s : Seat) : Readiness :=
  { recline := s.axes.recline.confidence ≠ .unlearned && s.axes.recline.drive ≠ .fault
    supply := b.monitor.state ≠ .cutoff
    gallery := s.gallery.state ≠ .fault
    unlocked := s.brace.mode ≠ .locked
    line := !b.line.stuck }

def Readiness.ready (r : Readiness) : Bool := r.recline && r.supply && r.gallery && r.unlocked && r.line

end Sys2Proof.Machine
end

