-- ==== Sys2Proof/Machine/ScannerOps.lean ====
section
/-! DEFINITION. The switch scanner: axis contacts, keys, lumbar contacts, stuck contacts (03_the_seat_switch_pack.md R52 to
R62). -/
namespace Sys2Proof.Machine

def withContact (s : Seat) (c : Contact) (x : ContactState) : Seat := { s with scanner := putContact s.scanner c x }

/-- R53, R54: a press is accepted; its stuck timer starts. -/
def acceptPress (b : Base) (s : Seat) (c : Contact) (k : Condition) : Seat :=
  withContact s c { closed := true, pressed := true, cond := some k, debounce := none,
                    stuckLeft := some (b.cfg.stuckLimit * 1000) }

/-- R53: a release is accepted. -/
def acceptRelease (s : Seat) (c : Contact) : Seat := withContact s c Reset.contact

/-- Pressed and not STUCK (R54, R55). -/
def holdsPress (x : ContactState) : Bool := x.pressed && x.cond ≠ some .stuck

/-! ### Axis contacts (R55, R56) -/

/-- R56: the release or the STUCK expiry of an ACTIVE axis contact ends its move with result REACHED. -/
def endManual (b : Base) (s : Seat) (a : Axis) : Did :=
  if ownerMet s.brace.mode (axisOf s a) = .manual then endMove b s a .reached false else done s

/-- R55: both contacts of a pair become HELD_OFF; a manual move of the partner ends. -/
def pairHeldOff (b : Base) (s : Seat) (a : Axis) (d : Dir) : Did :=
  let p := Contact.axis a (partner d)
  let y := if isActive s p then endManual b s a else done s
  (holdOff (acceptPress b y.1 (.axis a d) .heldOff) p, y.2)

/-- R61: the press of an axis contact would act in IDLE (no partner holds it off). A press on an axis that drives or coasts
always would (notes/assumptions/52.md). -/
def axisPressActs (b : Base) (s : Seat) (a : Axis) (d : Dir) : Bool :=
  let x := axisOf s a
  match x.drive with
  | .fault => false
  | .idle => !atSoftLimit (b.cfg.axis.get a) x d
  | .waitGrant => !atSoftLimit (b.cfg.axis.get a) x d
  | _ => true

/-- R56: a press that acts. An axis in FAULT or of a brace ignores it. -/
def axisPress (b : Base) (s : Seat) (a : Axis) (d : Dir) : Did :=
  let x := axisOf s a
  if x.drive = .fault ∨ ownerMet s.brace.mode x = .brace then done s
  else takeMove b (setCondition s (.axis a d) .active) a .manual { kind := .jog, dir := d, expiry := none }

/-- R55, R56, R61, R79: the accepted press of an axis contact. It is HELD_OFF until it acts. A press on any axis aborts a
running recall, an easy exit too (notes/assumptions/64.md). -/
def pressAxis (b : Base) (s : Seat) (a : Axis) (d : Dir) : Did :=
  let c := Contact.axis a d
  if holdsPress (contactOf s.scanner (.axis a (partner d))) then pairHeldOff b s a d
  else
    let s1 := acceptPress b s c .heldOff
    match s.brace.mode with
    | .idle => let y := abortRecall b s1 .bySwitch; (y.1, y.2 ++ [.axisPress a d])
    | .releasing =>
      if axisPressActs b s a d then let y := pressEndsRestore b s1; (y.1, y.2 ++ [.axisPress a d]) else done s1
    | _ => done s1

/-! ### Keys (R57 to R59) -/

/-- R59: the profile of a MEM key. -/
def keySlot (k : Key) : Option Retained4 :=
  match k with
  | .mem1 => some .p1
  | .mem2 => some .p2
  | .mem3 => some .p3
  | .set => none

def keyCode (k : Key) : Nat :=
  match k with
  | .mem1 => 0 | .mem2 => 1 | .mem3 => 2 | .set => 3

/-- 12.1.1. -/
def resultCode (r : Result) : Nat :=
  match r with
  | .accepted => 0 | .busy => 1 | .range => 2 | .state => 3 | .restricted => 4 | .unknown => 5 | .length => 6
  | .empty => 7 | .full => 8 | .invalid => 9

/-- R59: KEY_REFUSED. -/
def refuseKey (s : Seat) (k : Key) (r : Result) : Seat :=
  post s .keyRefused .none (pairWord (keyCode k) (resultCode r))

/-- R66: an axis is in WAIT_GRANT, DRIVING or COASTING. -/
def axisMoves (x : AxisState) : Bool :=
  match x.drive with
  | .waitGrant => true
  | .driving => true
  | .coasting => true
  | _ => false

def anyAxisMoves (f : Fitment) (s : Seat) : Bool := (presentIn f axisOrder).any (fun a => axisMoves (axisOf s a))

/-- R66, R67: the refusal of a store, and its effect. -/
def storeRefusal (f : Fitment) (s : Seat) (p : Retained4) : Option Result :=
  if anyAxisMoves f s then some .busy
  else if refusesLinkWrite s.store (.profile p Reset.profile) then some .busy
  else none

/-- R59: a MEM key acts. -/
def memAct (b : Base) (s : Seat) (k : Key) (p : Retained4) : Did :=
  if s.scanner.window.isSome then
    let s1 := closeWindow s
    match storeRefusal b.fit s1 p with
    | some r => done (refuseKey s1 k r)
    | none => done (storeSlot s1 p (captureStore b.fit s1))
  else
    match recallRefusal b.fit s p.slot with
    | some r => done (refuseKey s k r)
    | none => supersede b s p.slot .key (if b.link.vehicle = .moving then some k else none)

/-- R57, R58: a key acts: it is ACTIVE and no longer armed. -/
def keyAct (b : Base) (s : Seat) (k : Key) : Did :=
  let s1 := setCondition s (.key k) .active
  let s2 := { s1 with scanner := { s1.scanner with armed := s1.scanner.armed.put k false } }
  match keySlot k with
  | some p => memAct b s2 k p
  | none => done { s2 with scanner := { s2.scanner with window := some storeWindowTime } }

/-- R57: a press of the key would act: it is armed, and 50 ms have passed since its release (notes/assumptions/42.md). -/
def keyReady (sc : Scanner) (k : Key) : Bool := sc.armed.get k && (sc.rearm.get k).isNone

/-- R57, R61: the accepted press of a key. One that does not act stops the re-arm timer. -/
def pressKey (b : Base) (s : Seat) (k : Key) : Did :=
  let s1 := acceptPress b s (.key k) .heldOff
  if !keyReady s.scanner k then done { s1 with scanner := { s1.scanner with rearm := s1.scanner.rearm.put k none } }
  else
    match s.brace.mode with
    | .idle => (s1, [.keyAct k])
    | .releasing => let y := pressEndsRestore b s1; (y.1, y.2 ++ [.keyAct k])
    | _ => done s1

/-- R80: the release or the STUCK expiry of the dead-man key of the running recall. -/
def deadManEnds (b : Base) (s : Seat) (k : Key) : Did :=
  match s.recallCtx with
  | some r => if r.deadMan = some k then abortRecall b s .keyReleased else done s
  | none => done s

/-! ### Lumbar contacts (R60) -/

def activeLumbar (s : Seat) : Option LumbarStep := lumbarOrder.find? (fun l => isActive s (.lumbar l))

/-- R60: the ACTIVE contact hands a step. A step not taken, or one that queues nothing, ends the repetition. -/
def lumbarNext (b : Base) (s : Seat) : Did :=
  match activeLumbar s with
  | none => done s
  | some l =>
    if lumbarVerdict b s.gallery l ≠ .taken then done (holdOff s (.lumbar l))
    else
      let asks := (lumbarAsks s.gallery l).map Prod.fst
      let n := s.scanner.stepNo + 1
      let s1 := { s with scanner := { s.scanner with stepNo := n, waiting := asks } }
      let y := lumbarStep s1 l (some n)
      if asks.isEmpty then (holdOff y.1 (.lumbar l), y.2) else y

/-- R60: an operation that the last step queued has ended; with the last of them the next step is handed. -/
def lumbarResult (s : Seat) (x : Bladder) (n : Nat) : Did :=
  if n ≠ s.scanner.stepNo ∨ ¬ s.scanner.waiting.contains x then done s
  else
    let left := s.scanner.waiting.filter (fun y => y ≠ x)
    ({ s with scanner := { s.scanner with waiting := left } }, if left.isEmpty then [.lumbarNext] else [])

/-- R60: a lumbar press acts; another ACTIVE lumbar contact becomes HELD_OFF. -/
def lumbarAct (b : Base) (s : Seat) (l : LumbarStep) : Did :=
  let s1 := lumbarOrder.foldl (fun t k => holdOff t (.lumbar k)) s
  lumbarNext b (setCondition s1 (.lumbar l) .active)

/-- R60, R61: the accepted press of a lumbar contact. -/
def pressLumbar (b : Base) (s : Seat) (l : LumbarStep) : Did :=
  let s1 := acceptPress b s (.lumbar l) .heldOff
  match s.brace.mode with
  | .idle => (s1, [.lumbarAct l])
  | .releasing => let y := pressEndsRestore b s1; (y.1, y.2 ++ [.lumbarAct l])
  | _ => done s1

/-- R60: the repetition stops. -/
def stopLumbar (s : Seat) : Seat := { s with scanner := { s.scanner with waiting := [] } }

/-! ### Release and stuck (R53, R54) -/

/-- R53, R54: what the release, or the STUCK expiry, of an ACTIVE contact hands on. -/
def handRelease (b : Base) (s : Seat) (c : Contact) : Did :=
  match c with
  | .axis a _ => endManual b s a
  | .key k => deadManEnds b s k
  | .lumbar _ => done (stopLumbar s)

/-- R53: an accepted release. -/
def release (b : Base) (s : Seat) (c : Contact) : Did :=
  let s1 := acceptRelease s c
  if isActive s c then handRelease b s1 c else done s1

/-- R57: at a key's release its re-arm timer starts. -/
def startRearm (s : Seat) (k : Key) : Seat :=
  { s with scanner := { s.scanner with rearm := s.scanner.rearm.put k (some rearmTime) } }

/-- The code of a contact (12.1.2): its place in the order of contacts. -/
def contactCode (c : Contact) : Nat := contactOrder.findIdx (fun x => x = c)

def contactSubject (c : Contact) : Subject :=
  match c with
  | .axis a _ => .axis a
  | _ => .none

/-- R54: a contact becomes STUCK. -/
def stuckContact (b : Base) (s : Seat) (c : Contact) : Did :=
  let s1 := withContact s c { contactOf s.scanner c with cond := some .stuck, stuckLeft := none }
  let s2 := post s1 .switchStuck (contactSubject c) (toWord (contactCode c))
  if isActive s c then handRelease b s2 c else done s2

/-! ### Levels, park and wake (R52, R53, R62) -/

/-- R52: the wetting pull-ups: on in RUN, in PARKED at the wake-interval instants alone (notes/assumptions/56.md). -/
def wettingPullUp (p : Power) (atInstant : Bool) : Bool :=
  match p with
  | .run => true
  | .parking => true
  | .parked => atInstant
  | _ => false

/-- R52: the level of a contact is read where its pull-up is on, unless the contact is absent. -/
def contactWatched (b : Base) (atInstant : Bool) (c : Contact) : Bool :=
  contactPresent b.fit c && wettingPullUp b.power atInstant

def watchedContacts (b : Base) (atInstant : Bool) : List Contact := contactOrder.filter (contactWatched b atInstant)

/-- R53: a change of raw level starts or breaks the debounce measurement. -/
def levelChange (b : Base) (s : Seat) (c : Contact) (closed : Bool) : Seat :=
  let x := contactOf s.scanner c
  withContact s c { x with closed := closed, debounce := if closed = x.pressed then none else some b.cfg.debounce }

/-- R62: on entering PARKED every contact is RELEASED or STUCK, and its debounce measurement stops. That a contact which is not STUCK
counts as open from here to its first reading is the model's choice (notes/assumptions/73.md). -/
def parkContact (s : Seat) (c : Contact) : Seat :=
  let x := contactOf s.scanner c
  if x.cond = some .stuck then withContact s c { x with debounce := none } else withContact s c Reset.contact

/-- R62: a contact read at a wake-interval instant: a STUCK contact read open is RELEASED and re-armed. -/
def instantContact (closed : List Contact) (s : Seat) (c : Contact) : Seat :=
  let x := contactOf s.scanner c
  let shut := closed.contains c
  if x.cond = some .stuck ∧ ¬ shut then
    let s1 := withContact s c Reset.contact
    match c with
    | .key k => { s1 with scanner := { s1.scanner with armed := s1.scanner.armed.put k true, rearm := s1.scanner.rearm.put k none } }
    | _ => s1
  else withContact s c { x with closed := shut }

/-- R181: a contact, not STUCK, read closed wakes the part. -/
def wakesPart (s : Seat) (closed : List Contact) (c : Contact) : Bool :=
  closed.contains c && (contactOf s.scanner c).cond ≠ some .stuck

/-- R62: at a wake a contact read closed is measured anew from the wake. -/
def measureFromWake (b : Base) (s : Seat) (c : Contact) : Seat :=
  let x := contactOf s.scanner c
  if x.closed ∧ x.cond ≠ some .stuck then withContact s c { x with debounce := some b.cfg.debounce } else s

/-- R62, R181: every contact known to be closed is measured from the wake (notes/assumptions/57.md). -/
def measureContacts (b : Base) (s : Seat) : Seat := (watchedContacts b false).foldl (measureFromWake b) s

/-- R181: a contact read closed at an instant that finds RUN, another source having woken the part, is measured from that wake
(notes/assumptions/57.md). -/
def measureSecond (b : Base) (closed : List Contact) (s : Seat) (c : Contact) : Seat :=
  let x := contactOf s.scanner c
  if closed.contains c ∧ ¬ x.pressed ∧ ¬ x.closed then levelChange b s c true else s

end Sys2Proof.Machine
end

