-- ==== Sys2Proof/Machine/Flags.lean ====
section
/-! DEFINITION. The computed flags: restricted, attention, the status header (R169), the restricted mode (R170), the fields of
a safety-line reply (R164), and the conditions that hold off PARK (R180). -/
namespace Sys2Proof.Machine

/-! ### Status header (R169, 12.1.1) -/

/-- R169: restricted while the brace state is other than IDLE. -/
def restricted (s : Seat) : Bool := s.brace.mode ≠ .idle

/-- R175: the attention output. -/
def attention (s : Seat) : Bool := !s.notices.queue.isEmpty

/-- 12.1.1: the two header bytes, the first in the high byte. -/
def statusHeader (b : Base) (s : Seat) : Word16 :=
  pairWord
    (modeCode s.brace.mode * 32 + monitorCode b.monitor.state * 8 + (if b.power = .parking then 4 else 0)
      + (if restricted s then 2 else 0) + (attention s).toNat)
    (s.notices.lost.toNat * 128 + resultCode b.link.lastResult)

/-! ### Restricted mode (R170) -/

/-- How a command passes the restricted mode. -/
inductive CommandClass where
  /-- Reads: always taken. -/
  | read
  /-- Motion, recall, door and lumbar commands: IDLE only. -/
  | motion
  /-- CLEAR AXIS FAULT: IDLE and LOCKED. -/
  | clearFault
  /-- UNLOCK BRACE and PARK: IDLE, RELEASING and LOCKED. -/
  | lockTaken
  /-- Every other command: IDLE and RELEASING. -/
  | plain
  deriving DecidableEq, Repr

/-- R170. -/
def passes (m : BraceMode) (k : CommandClass) : Bool :=
  match k, m with
  | .read, _ => true
  | _, .idle => true
  | .clearFault, .locked => true
  | .lockTaken, .locked => true
  | .lockTaken, .releasing => true
  | .plain, .releasing => true
  | _, _ => false

/-! ### Reply of the safety line (R164) -/

/-- R164: BRACED reports the grade attained. -/
def attainedGrade (x : Brace) : Nat :=
  let okAxis (v : AxisAction) : Bool := v = .none || v = .inWindow || v = .ended .reached
  if bolsterOrder.any (fun i => x.bolster.get i ≠ .ended .done) then 0
  else if x.grade = 1 then 1
  else if axisOrder.any (fun a => !okAxis (x.axisAction.get a)) then 1
  else 2

/-- R164: the grade field. -/
def replyGrade (x : Brace) : Nat :=
  match x.mode with
  | .idle => 0
  | .bracing => x.grade
  | .releasing => x.grade
  | .braced => attainedGrade x
  | .locked => (x.crash.map crashCode).getD 0

/-- The `n` symbols of a field, most significant first. -/
def fieldSymbols : Nat → Nat → List Bool
  | 0, _ => []
  | n + 1, v => (v / 2 ^ n % 2 = 1) :: fieldSymbols n v

/-- R164: the eight symbols of the reply. -/
def replySymbols (b : Base) (s : Seat) : List Bool :=
  fieldSymbols 3 (modeCode s.brace.mode) ++ fieldSymbols 2 (replyGrade s.brace) ++ [(readiness b s).ready]
    ++ fieldSymbols 2 (monitorCode b.monitor.state)

/-- The W of a reply. A whole-frame row brings no calibration of its own: it is answered with the W that the receiver holds, or
with the nominal 200 µs when it holds none (notes/assumptions/62.md). -/
def replyW (l : SafetyLine) : Nat := l.w.getD 200

/-- R164: the low that the part pulls for the symbol at the reply index: W/4 for a 0 and W/2 for a 1, in whole µs. -/
def replyLow (l : SafetyLine) : Nat := if l.replyFields.getD l.replyIndex false then replyW l / 2 else replyW l / 4

/-! ### PARK (R180) -/

/-- A contact is pressed with condition ACTIVE or HELD_OFF. -/
def contactHolds (s : Seat) (c : Contact) : Bool :=
  let x := contactOf s.scanner c
  x.pressed && (x.cond = some .active || x.cond = some .heldOff)

/-- R158: a part parks in IDLE or LOCKED. -/
def braceParks (m : BraceMode) : Bool :=
  match m with
  | .idle => true
  | .locked => true
  | _ => false

/-- R167: the safety line is low, pulled by the other end or by the part. -/
def lineIsLow (l : SafetyLine) : Bool := l.low || l.driving.isSome

/-- R180: the conditions that give BUSY. -/
def parkBusy (b : Base) (s : Seat) : Bool :=
  (presentIn b.fit axisOrder).any (fun a => (axisOf s a).drive ≠ .idle)
    || s.recallCtx.isSome
    || s.gallery.state ≠ .idle || !s.gallery.queue.isEmpty
    || s.engine.state ≠ .off
    || !braceParks s.brace.mode
    || (contactOrder.filter (contactPresent b.fit)).any (contactHolds s)
    || lineIsLow b.line

/-- R177, R180: no write waits and none is in flight. -/
def storeEmpty (q : StoreQueue) : Bool := q.queue.isEmpty && q.inFlight.isNone

end Sys2Proof.Machine
end

