-- ==== Sys2Proof/Machine/Settle.lean ====
section
/-! DEFINITION. What each hand-over does, and how the hand-overs of a step are carried out, in order, until none is left
(notes/assumptions/5.md, notes/assumptions/6.md). -/
namespace Sys2Proof.Machine

/-- R32: a grant is handed to its consumer. -/
def handGrant (b : Base) (s : Seat) (c : Consumer) : Did :=
  match c with
  | .axis a => axisGranted b s a
  | .compressor => done (compressorGranted s)
  | .fan _ => done s

/-- R56, R76, R142: the owner of a move learns of its end. -/
def moveEnded (s : Seat) (a : Axis) (o : Owner) (r : MoveResult) : Did :=
  match o, s.recallCtx with
  | .manual, _ => done (holdOff (holdOff s (.axis a .up)) (.axis a .down))
  | .recall, some ctx =>
    if ctx.result.get a = .running then
      ({ s with recallCtx := some (setRecallResult ctx a (.ended r)) }, [.recallCheck])
    else done s
  | .brace, _ => braceMoveEnded s a r
  | _, _ => done s

/-- R96: the party of an operation's origin takes its result. -/
def handResult (b : Base) (s : Seat) (op : Op) (r : OpResult) : Did :=
  if op.seed then done s
  else
    match op.origin, op.step with
    | .support, some n => lumbarResult s op.bladder n
    | .support, none => done s
    | .massage, _ => massageResult b s op.bladder r
    | .brace, _ => braceResult s op r

/-- A recall starts from a slot; a stand-down restore starts from the BRACE slot and the driven set. -/
def startFrom (b : Base) (s : Seat) (slot : Slot) (source : Source) (key : Option Key) : Did :=
  match source with
  | .standDown => restoreStart b s
  | _ => recallStart b s slot source key

/-- One hand-over. -/
def runTask (t : Task) (b : Base) (s : Seat) : Did :=
  match t with
  | .pass => allocationPass b s
  | .shed => shed b s
  | .walk => walk b s
  | .granted c => handGrant b s c
  | .axisShed a => axisShed b s a
  | .compressorShed => done (compressorShed s)
  | .share c0 b0 => done (share s c0 b0)
  | .coastEnd a => endCoast b s a
  | .moveEnded a o r => moveEnded s a o r
  | .recallHand a => recallHand b s a
  | .recallCheck => recallCheck s
  | .recallStart slot source key => startFrom b s slot source key
  | .applySupport x t => applySupport b s x t
  | .applyHeat z level => setHeat s z level
  | .applyFan z level => setFan b s z level
  | .serve => serve b s
  | .galleryIdle => galleryIdle s
  | .opResult op r => handResult b s op r
  | .sensorNotice code => done (sensorNotice s code)
  | .engineBegin => engineBegin b s
  | .engineAsk => engineAsk b s
  | .engineCheck => engineCheck s
  | .engineRetry => engineRetry s
  | .lumbarNext => lumbarNext b s
  | .axisPress a d => axisPress b s a d
  | .keyAct k => keyAct b s k
  | .lumbarAct l => lumbarAct b s l
  | .braceFill x => braceFill b s x
  | .braceMove a target => braceMove b s a target
  | .braceEntered => braceEntered b s
  | .braceCheck => braceCheck b s
  | .standDownVent x => standDownVent b s x
  | .massageStop => massageStop s
  | .releasingEntered => releasingEntered s
  | .releasingCheck => releasingCheck s
  | .loopEnd z => done (loopEnd s z)

def isShare (t : Task) : Bool :=
  match t with
  | .share _ _ => true
  | _ => false

/-- A pass is in progress: its heater share is still to come. -/
def passInProgress (l : List Task) : Bool := l.any isShare

/-- R32: a pass called for inside a pass is made after it, behind its heater share. -/
def deferPass : List Task → List Task
  | [] => [.pass]
  | t :: rest => if isShare t then t :: .pass :: rest else t :: deferPass rest

/-- Carry out hand-overs, those that a block calls for before those that wait, until none is left. The first argument
bounds how many are carried out (notes/assumptions/6.md). -/
def settle : Nat → List Task → Base → Seat → Seat
  | 0, _, _, s => s
  | _ + 1, [], _, s => s
  | n + 1, t :: rest, b, s =>
    if t = .pass ∧ passInProgress rest then settle n (deferPass rest) b s
    else
      match runTask t b s with
      | (s1, new) => settle n (new ++ rest) b s1

/-- More hand-overs than any step can call for (notes/assumptions/6.md). -/
def fuel : Nat := 1000000000000

/-- Carry out what a block answered. -/
def settled (b : Base) (y : Did) : Seat := settle fuel y.2 b y.1

end Sys2Proof.Machine
end

