-- ==== Sys2Proof/Machine/StoreOps.lean ====
section
/-! DEFINITION. The retained store: copies, completed writes, and the loading of records (11_parking_start_up_and_retained_records.md
R176 to R178, R182; R26, R86, R122, R158). -/
namespace Sys2Proof.Machine

/-! ### Copies (R176) -/

/-- R176: a write goes to the copy with the older sequence number, and gives it the next number. -/
def writeCopy {α : Type} (c : Copies α) (x : α) : Copies α :=
  let w : Copy α := { seq := max c.one.seq c.two.seq + 1, good := true, contents := x }
  if c.one.seq ≤ c.two.seq then { c with one := w } else { c with two := w }

/-- R176: a write cut short leaves its copy with a check that fails. -/
def cutCopy {α : Type} (c : Copies α) : Copies α :=
  if c.one.seq ≤ c.two.seq then { c with one := { c.one with good := false } } else { c with two := { c.two with good := false } }

/-- R176: the record as it is read; nothing when it is bad. -/
def readCopies {α : Type} (c : Copies α) : Option α :=
  if c.one.good ∧ (¬ c.two.good ∨ c.two.seq ≤ c.one.seq) then some c.one.contents
  else if c.two.good then some c.two.contents
  else none

/-- R176: a completed write. -/
def writeRecord (r : Records) (w : RecordWrite) : Records :=
  match w with
  | .axis a x => { r with axis := r.axis.set a (writeCopy (r.axis.get a) x) }
  | .profile p x => { r with profile := r.profile.set p (writeCopy (r.profile.get p) x) }
  | .pattern p x => { r with pattern := r.pattern.set p (writeCopy (r.pattern.get p) x) }
  | .configuration x => { r with configuration := writeCopy r.configuration x }
  | .crashLock k => { r with crashLock := writeCopy r.crashLock k }

/-- R176: a write cut short by a power loss. -/
def cutRecord (r : Records) (w : RecordWrite) : Records :=
  match w with
  | .axis a _ => { r with axis := r.axis.set a (cutCopy (r.axis.get a)) }
  | .profile p _ => { r with profile := r.profile.set p (cutCopy (r.profile.get p)) }
  | .pattern p _ => { r with pattern := r.pattern.set p (cutCopy (r.pattern.get p)) }
  | .configuration _ => { r with configuration := cutCopy r.configuration }
  | .crashLock _ => { r with crashLock := cutCopy r.crashLock }

/-- R177: the write in flight is made and the next one begins. -/
def nextWrite (q : StoreQueue) : StoreQueue := startWrite { q with inFlight := none }

/-- R183: every write that remains is made, the one in flight first. -/
def drainAll (r : Records) (q : StoreQueue) : Records := (q.inFlight.toList ++ q.queue).foldl writeRecord r

/-! ### Completion told to the owner (R8, R177) -/

/-- R8: the dirty mark becomes MARKED. -/
def markWritten (s : Seat) (a : Axis) : Seat := putAxis s a { axisOf s a with dirty := .marked }

/-- R8: a move that waited for its dirty mark raises its claim. -/
def raiseDeferred (b : Base) (s : Seat) (a : Axis) : Did :=
  if (axisOf s a).drive = .waitGrant then raiseAxis b s a else done s

/-- R8, R177: the owner of a completed write is told. -/
def writeTold (b : Base) (s : Seat) (w : RecordWrite) : Did :=
  match w with
  | .axis a r =>
    if r.clean = false ∧ (axisOf s a).dirty = .queued then raiseDeferred b (markWritten s a) a else done s
  | _ => done s

/-! ### Loading (R182) -/

def defaulted (n : Notices) (sub : Subject) (code : Nat) : Notices := postTo n .recordDefaulted sub (toWord code)

/-- R182: the axis that its record gives. -/
def loadedAxis (r : AxisRecord) : AxisState :=
  let conf : Confidence := if r.clean ∨ r.confidence = .unlearned then r.confidence else .suspect
  Reset.axis r.position (if r.confidence = .unlearned then none else r.highStop) conf r.leadUp r.leadDown

/-- R182, R26: an axis whose record is bad, or that is absent. -/
def freshAxis (cfg : Settings) (a : Axis) : AxisState :=
  let lead := (cfg.axis.get a).initialLead
  Reset.axis defaultPosition none .unlearned lead lead

def loadAxis (cfg : Settings) (f : Fitment) (r : Records) (a : Axis) : AxisState :=
  if present f a then
    match readCopies (r.axis.get a) with
    | some x => loadedAxis x
    | none => freshAxis cfg a
  else freshAxis cfg a

/-- R182: the notice of a bad axis record. -/
def axisDefaulted (r : Records) (n : Notices) (a : Axis) : Notices :=
  match readCopies (r.axis.get a) with
  | some _ => n
  | none => defaulted n (.axis a) 2

def profileCode (p : Retained4) : Nat :=
  match p with
  | .p1 => 3 | .p2 => 4 | .p3 => 5 | .p4 => 6

def profileDefaulted (r : Records) (n : Notices) (p : Retained4) : Notices :=
  match readCopies (r.profile.get p) with
  | some _ => n
  | none => defaulted n .none (profileCode p)

def loadProfile (r : Records) (p : Retained4) : Profile := (readCopies (r.profile.get p)).getD Reset.profile

/-- R122: a pattern record is placed after those before it; a bad one, or one that does not fit, leaves the pattern absent
and is noted. -/
def loadPattern (r : Records) (x : Patterns × Notices) (k : PatternNo) : Patterns × Notices :=
  match readCopies (r.pattern.get k) with
  | some (some steps) =>
    if steps.length + x.1.steps.length ≤ stepStoreSize then (placePattern x.1 k steps, x.2)
    else (x.1, defaulted x.2 (.pattern k) 7)
  | some none => x
  | none => (x.1, defaulted x.2 (.pattern k) 7)

/-- What the retained store gives at a reset. -/
structure Loaded where
  cfg : Settings
  lock : Option CrashKind
  axes : PerAxis AxisState
  profiles : PerSlot Profile
  patterns : Patterns
  notices : Notices
  deriving DecidableEq, Repr

def emptyPatterns : Patterns := { directory := .all none, steps := [], staging := none }

/-- R182: the records are loaded in order: configuration, crash lock, axes, profiles, patterns. -/
def loadRecords (f : Fitment) (r : Records) : Loaded :=
  let cfg := (readCopies r.configuration).getD defaultSettings
  let n0 := if (readCopies r.configuration).isNone then defaulted Reset.notices .none 0 else Reset.notices
  let n1 := if (readCopies r.crashLock).isNone then defaulted n0 .none 1 else n0
  let n2 := (presentIn f axisOrder).foldl (axisDefaulted r) n1
  let n3 := [Retained4.p1, .p2, .p3, .p4].foldl (profileDefaulted r) n2
  let p := patternOrder.foldl (loadPattern r) (emptyPatterns, n3)
  { cfg := cfg
    lock := (readCopies r.crashLock).getD none
    axes := tabulate (loadAxis cfg f r)
    profiles := { p1 := loadProfile r .p1, p2 := loadProfile r .p2, p3 := loadProfile r .p3, p4 := loadProfile r .p4,
                  ret := Reset.profile, brace := Reset.profile }
    patterns := p.1
    notices := p.2 }

/-! ### Reset values -/

def resetZones (cfg : Settings) : PerZone ZoneState :=
  { c := Reset.zone cfg.zone.c.heatPeriod, b := Reset.zone cfg.zone.b.heatPeriod }

def resetHall (cfg : Settings) : PerAxis Hall := tabulate (fun a => Reset.hall (cfg.axis.get a).hallInterval)

/-- The part after a reset, before the gallery serves its seeding. -/
def resetBase (f : Fitment) (lineHigh : Bool) (r : Records) (l : Loaded) : Base :=
  { power := .run, wakeLeft := none, fit := f, cfg := l.cfg, hall := resetHall l.cfg,
    monitor := Reset.monitor l.cfg.monitorInterval, patterns := l.patterns, line := Reset.line lineHigh, link := Reset.link,
    records := r }

def resetSeat (l : Loaded) : Seat :=
  { axes := l.axes, alloc := Reset.alloc, scanner := Reset.scanner, profiles := l.profiles, recallCtx := none,
    lastRecall := none, gallery := Reset.gallery Reset.seeding, engine := Reset.engine, zones := resetZones l.cfg,
    brace := Reset.brace l.lock, notices := l.notices, store := { queue := [], inFlight := none } }

/-- R40, R106: what a reset calls for: the level-0 fan claims, zone C first (notes/assumptions/76.md), and the service of the
seeding. -/
def afterReset (b : Base) (s : Seat) : Did :=
  andThen (forEach zoneOrder (fun z t => levelZeroClaim b t z) s) (fun t => (t, [.serve]))

/-- R182: load the records and take the reset values. -/
def resetPart (s : State) (f : Fitment) (lineHigh : Bool) (r : Records) : State :=
  let l := loadRecords f r
  let b := resetBase f lineHigh r l
  { s with base := b, seat := settled b (afterReset b (resetSeat l)) }

/-! ### Warm reset and power loss (R183, R176) -/

/-- A seat that does nothing, as it stands while the store queue drains; the store queue is kept (R183). -/
def idleSeat (q : StoreQueue) : Seat :=
  { axes := .all (Reset.axis defaultPosition none .unlearned 6 6), alloc := Reset.alloc, scanner := Reset.scanner,
    profiles := .all Reset.profile, recallCtx := none, lastRecall := none, gallery := Reset.gallery [],
    engine := Reset.engine, zones := .all { Reset.zone 0 with sampleLeft := none }, brace := Reset.brace none,
    notices := Reset.notices, store := q }

/-- What the part keeps outside its seat while it drains or has no supply. The safety line holds its reset values, but its receiver is in
WAIT_HIGH whatever the level of the line (notes/assumptions/79.md). -/
def idleBase (b : Base) (p : Power) (r : Records) : Base :=
  { b with power := p, wakeLeft := none, hall := b.hall.map hallUnknown,
           monitor := { Reset.monitor 0 with sampleLeft := none }, patterns := emptyPatterns,
           line := { Reset.line (!b.line.low) with receiver := .waitHigh }, link := Reset.link, records := r }

/-- R183: a warm reset begins; the store queue drains. -/
def beginDrain (s : State) : State :=
  { s with base := idleBase s.base .draining s.base.records, seat := idleSeat s.seat.store }

/-- R176: the supply is lost: the write in flight is cut short, and nothing else is kept. -/
def lose (s : State) : State :=
  let r := match s.seat.store.inFlight with
    | some w => cutRecord s.base.records w
    | none => s.base.records
  { s with base := idleBase s.base .off r, seat := idleSeat { queue := [], inFlight := none } }

end Sys2Proof.Machine
end

