-- ==== Sys2Proof/Machine/PowerOps.lean ====
section
/-! DEFINITION. Park control: acceptance of PARK, entering PARKED, the wake (11_parking_start_up_and_retained_records.md R180,
R181), and the shared shapes of a command's effect on the whole state. -/
namespace Sys2Proof.Machine

/-! ### Acting on the seat -/

/-- What a block answered is carried out; everything outside the seat stays. -/
def actOn (s : State) (y : Did) : State := { s with seat := settled s.base y }

/-- Replace what lies outside the seat. -/
def withBase (s : State) (b : Base) : State := { s with base := b }

def withSeat (s : State) (t : Seat) : State := { s with seat := t }

/-! ### PARK (R180) -/

/-- R180 step 5: every present axis record is queued clean, and its dirty mark is NOT_MARKED. -/
def queueClean (s : Seat) (a : Axis) : Seat :=
  let t := queueAxisRecord s a true
  putAxis t a { axisOf t a with dirty := .notMarked }

/-- R42: C_set is replaced by the Park ceiling. -/
def setCeiling (s : Seat) (n : Nat) : Did := ({ s with alloc := { s.alloc with cSet := n } }, [.pass])

/-- R180: what an accepted PARK does, in order. -/
def acceptPark (s : State) : State :=
  let s1 := withBase s { s.base with link := { s.base.link with vehicle := .parked } }
  let s2 := actOn s1 (climateOff s1.base s1.seat)
  let s3 := actOn s2 (setCeiling s2.seat s2.base.cfg.parkCeiling)
  let s4 := withSeat s3 ((presentIn s3.base.fit axisOrder).foldl queueClean (closeWindow s3.seat))
  withBase s4 { s4.base with power := .parking }

/-! ### Entering PARKED (R181, R62, R136) -/

/-- R62, R136: the blocks stop: contacts, sample timers, the stagger window. -/
def stopBlocks (s : Seat) : Seat :=
  let t := contactOrder.foldl parkContact (closeWindow s)
  { t with alloc := { t.alloc with stagger := none }
           zones := { c := { t.zones.c with sampleLeft := none }, b := { t.zones.b with sampleLeft := none } } }

/-- R181: the part enters PARKED; every load is off. A safety frame or a reply in progress is left to be abandoned at the wake
(notes/assumptions/70.md). -/
def enterParked (s : State) : State :=
  let s1 := actOn s (andThen (climateOff s.base s.seat) releaseFans)
  let s2 := withSeat s1 (stopBlocks s1.seat)
  withBase s2
    { s2.base with power := .parked, wakeLeft := some s2.base.cfg.wakeInterval, hall := s2.base.hall.map hallUnknown,
                   monitor := { s2.base.monitor with sampleLeft := none, settleLeft := none },
                   link := { s2.base.link with begun := false, captured := none } }

/-- R180: with no write left, PARKING ends in PARKED, or is abandoned when a condition of BUSY holds. -/
def tryPark (s : State) : State :=
  if s.base.power = .parking ∧ storeEmpty s.seat.store then
    if parkBusy s.base s.seat then withBase s { s.base with power := .run } else enterParked s
  else s

/-! ### Wake (R181) -/

/-- R181, R127, R26: the seat at a wake: the sample timers start and the dirty marks are NOT_MARKED. -/
def wakeSeat (cfg : Settings) (s : Seat) : Seat :=
  { s with
    axes := s.axes.map (fun x => { x with dirty := .notMarked })
    zones := { c := { s.zones.c with sampleLeft := some cfg.zone.c.heatPeriod },
               b := { s.zones.b with sampleLeft := some cfg.zone.b.heatPeriod } } }

/-- R160, R181: the receiver takes up RUN (notes/assumptions/27.md); a frame or a reply that the park cut off is abandoned without
notice (notes/assumptions/70.md). -/
def wakeLine (l : SafetyLine) : SafetyLine :=
  { l with receiver := if l.stuck then .stuck else .waitLead, symbols := [], replyIndex := 0, driving := none }

/-- R181: the power state becomes RUN, the wake timer stops, and hall levels are UNKNOWN. -/
def wakeBase (b : Base) : Base :=
  { b with power := .run, wakeLeft := none, hall := b.hall.map hallUnknown,
           monitor := { b.monitor with sampleLeft := some b.cfg.monitorInterval }, line := wakeLine b.line }

/-- R181: the part wakes: level-0 fans claim again (R50), zone C first (notes/assumptions/76.md), and the contacts read closed are measured from the wake (R62). -/
def wake (s : State) : State :=
  let b := wakeBase s.base
  let s1 := actOn (withBase s b) (forEach zoneOrder (fun z t => levelZeroClaim b t z) (wakeSeat b.cfg s.seat))
  withSeat s1 (measureContacts b s1.seat)

end Sys2Proof.Machine
end

