-- ==== Sys2Proof/Machine/LineOps.lean ====
section
/-! DEFINITION. The safety line receiver: lead-in, calibration, symbols, check, commands, reply, collision, stuck
(09_the_safety_line.md R159 to R167). -/
namespace Sys2Proof.Machine

def withLine (s : State) (l : SafetyLine) : State := withBase s { s.base with line := l }

/-! ### Drops and refusals (R166) -/

/-- 12.1.4: the code of a reason; TAKEN has none. -/
def reasonNumber (o : FrameOutcome) : Nat :=
  match o with
  | .lead => 0 | .gap => 1 | .calRange => 2 | .symbol => 3 | .timeout => 4 | .check => 5 | .unknown => 6 | .argument => 7
  | .wake => 8 | .taken => 0

def postFrame (s : Seat) (o : FrameOutcome) : Seat := post s .safetyFrame .link (toWord (reasonNumber o))

/-- R166: a frame is dropped: its notice is posted, its reason recorded, and the receiver goes on in a state. That the symbols and
the reply index return to 0 here is the model's choice (notes/assumptions/74.md). -/
def dropFrame (s : State) (o : FrameOutcome) (fields : Option (Nat × Nat)) (next : Receiver) : State :=
  withLine (withSeat s (postFrame s.seat o))
    { s.base.line with
      receiver := next, symbols := [], replyIndex := 0, driving := none,
      record := some { command := fields.map Prod.fst, argument := fields.map Prod.snd, outcome := o, reply := .none } }

/-! ### Commands (R163) -/

/-- What the receiver hands to the brace controller. -/
inductive SafetyCommand where
  | statusQuery
  | brace (g : Grade)
  | hold
  | standDown
  | crash (k : CrashKind)
  deriving DecidableEq, Repr

/-- R163: the judgement of a command and its argument. -/
inductive FrameJudgement where
  | take (c : SafetyCommand)
  | unknown
  | argument
  deriving DecidableEq, Repr

def crashOfCode (n : Nat) : Option CrashKind := [CrashKind.front, .rear, .side, .unspecified][n]?

/-- R163, the table of commands. -/
def judgeFrame (command argument : Nat) : FrameJudgement :=
  match command with
  | 1 => if argument = 0 then .take .statusQuery else .argument
  | 5 => if argument = 1 then .take (.brace .one) else if argument = 2 then .take (.brace .two) else .argument
  | 6 => if argument = 0 then .take .hold else .argument
  | 9 => if argument = 0 then .take .standDown else .argument
  | 12 => ((crashOfCode argument).map (fun k => FrameJudgement.take (.crash k))).getD .argument
  | _ => .unknown

def gradeNumber (g : Grade) : Nat :=
  match g with
  | .one => 1
  | .two => 2

/-- The command and argument of a safety command (R163). -/
def commandFields (c : SafetyCommand) : Nat × Nat :=
  match c with
  | .statusQuery => (1, 0)
  | .brace g => (5, gradeNumber g)
  | .hold => (6, 0)
  | .standDown => (9, 0)
  | .crash k => (12, crashCode k)

/-- R140: what a safety command does to the seat. -/
def braceCommand (c : SafetyCommand) (b : Base) (s : Seat) : Did :=
  match c with
  | .statusQuery => done s
  | .brace g => takeBrace b s (gradeNumber g)
  | .hold => done (takeHold b s)
  | .standDown => takeStandDown b s
  | .crash k => takeCrash b s k

/-- R163: the expected check. -/
def expectedCheck (command argument : Nat) : Nat := 15 - (command + argument / 16 + argument % 16) % 16

/-- The sixteen symbols of a frame with its matching check. -/
def frameSymbols (command argument : Nat) : List Bool :=
  fieldSymbols 4 command ++ fieldSymbols 8 argument ++ fieldSymbols 4 (expectedCheck command argument)

/-- R164: a frame that passed its check is recorded and answered, from the state as it now stands. -/
def answerFrame (s : State) (command argument : Nat) (o : FrameOutcome) : State :=
  withLine s
    { s.base.line with
      receiver := .turnaround, symbols := frameSymbols command argument, replyFields := replySymbols s.base s.seat,
      replyIndex := 0, driving := none, low := false,
      record := some { command := some command, argument := some argument, outcome := o, reply := .none } }

/-- R163: a frame is taken: the brace controller acts, then the reply is captured. -/
def takeFrame (s : State) (c : SafetyCommand) : State :=
  answerFrame (actOn s (braceCommand c s.base s.seat)) (commandFields c).1 (commandFields c).2 .taken

/-- R163, R166: a refused frame is not handed on; it posts its reason and is answered. -/
def refuseFrame (s : State) (command argument : Nat) (o : FrameOutcome) : State :=
  answerFrame (withSeat s (postFrame s.seat o)) command argument o

/-- R163: a frame with a matching check. -/
def checkedFrame (s : State) (command argument : Nat) : State :=
  match judgeFrame command argument with
  | .take c => takeFrame s c
  | .unknown => refuseFrame s command argument .unknown
  | .argument => refuseFrame s command argument .argument

/-- The value of symbols, most significant first. -/
def symbolValue (l : List Bool) : Nat := l.foldl (fun n x => 2 * n + x.toNat) 0

/-- R162, R163: the sixteenth symbol ends the frame's data. -/
def endOfData (s : State) (symbols : List Bool) : State :=
  let command := symbolValue (symbols.take 4)
  let argument := symbolValue ((symbols.drop 4).take 8)
  if symbolValue (symbols.drop 12) = expectedCheck command argument then checkedFrame s command argument
  else dropFrame s .check (some (command, argument)) .waitLead

/-! ### Reply and collision (R164, R165) -/

def recordReply (l : SafetyLine) (r : ReplyOutcome) : Option FrameRecord := l.record.map (fun x => { x with reply := r })

/-- R165: a collision; the reply index so far is the detail, 0 in the turnaround. The other end holds the line low. The symbols and
the reply index stay (notes/assumptions/74.md). -/
def collide (s : State) : State :=
  let l := s.base.line
  let n := if l.receiver = .turnaround then 0 else l.replyIndex
  withLine (withSeat s (post s.seat .safetyCollision .link (toWord n)))
    { l with receiver := .waitHigh, driving := none, low := true, record := recordReply l .collision }

/-- R164: the reply has been sent. The symbols and the reply index stay (notes/assumptions/74.md). -/
def replySent (s : State) : State :=
  let l := s.base.line
  withLine s { l with receiver := .waitLead, driving := none, record := recordReply l .sent }

/-- R164: the part pulls the line low for the symbol at the reply index. -/
def beginLow (l : SafetyLine) : SafetyLine := { l with driving := some (replyLow l) }

/-- R164: a driven low ends, or the next one begins. -/
def replySymbol (l : SafetyLine) : SafetyLine :=
  if l.driving.isSome then { l with driving := none, replyIndex := l.replyIndex + 1 }
  else if l.replyIndex < 8 then beginLow l else l

/-! ### Stuck (R160) -/

/-- R160: a low has reached 10000 µs. That the symbols and the reply index return to 0 here is the model's choice
(notes/assumptions/74.md). -/
def enterStuck (s : State) : State :=
  withLine (withSeat s (post s.seat .stuck .link 1))
    { s.base.line with receiver := .stuck, stuck := true, low := true, driving := none, symbols := [], replyIndex := 0 }

/-- R160: the line has been high for 1000 µs. -/
def clearStuck (s : State) : State :=
  withLine (withSeat s (post s.seat .stuck .link 0))
    { s.base.line with receiver := .waitLead, stuck := false, low := false, driving := none }

/-! ### Wake (R167) -/

/-- R167: a falling edge wakes the part; the frame is dropped, whatever its length. -/
def lineWake (s : State) : State :=
  let s1 := wake s
  withLine (dropFrame s1 .wake none .waitHigh)
    { (dropFrame s1 .wake none .waitHigh).base.line with low := true }

/-! ### Edges (R160 to R162) -/

/-- The line is now low, or high. -/
def lineLow (l : SafetyLine) : SafetyLine := { l with low := true }
def lineHigh (l : SafetyLine) : SafetyLine := { l with low := false }

/-- A falling edge that starts a lead-in. -/
def startLead (s : State) : State := withLine s { s.base.line with receiver := .leadIn, low := true }

/-- R161: the falling edge that ends a gap of this length. -/
def endGap (s : State) (micros : Nat) : State :=
  if micros < 20 then
    let s1 := dropFrame s .gap none .waitLead
    withLine s1 (lineLow s1.base.line)
  else if micros ≤ 200 then withLine s { s.base.line with receiver := .cal, low := true }
  else startLead (dropFrame s .gap none .waitLead)

/-- R162: a high inside a frame lasted more than 3W/4. -/
def highTooLong (l : SafetyLine) (micros : Nat) : Bool := 3 * l.w.getD 0 < 4 * micros

/-- A falling edge after a high of this length. -/
def fallingEdge (s : State) (micros : Nat) : State :=
  let l := s.base.line
  match l.receiver with
  | .waitLead => startLead s
  | .gap => endGap s micros
  | .symbols =>
    if highTooLong l micros then startLead (dropFrame s .timeout none .waitLead) else withLine s (lineLow l)
  | .turnaround => collide s
  | .stuck => if micros < 1000 then withLine s (lineLow l) else startLead (clearStuck s)
  | _ => withLine s (lineLow l)

/-- R160: the lead-in low ended after this length. -/
def endLead (s : State) (micros : Nat) : State :=
  if micros < 800 then withLine s { s.base.line with receiver := .waitLead }
  else if micros ≤ 4000 then withLine s { s.base.line with receiver := .gap }
  else dropFrame s .lead none .waitLead

/-- R161: the calibration low ended after this length. -/
def endCal (s : State) (micros : Nat) : State :=
  if 100 ≤ micros ∧ micros ≤ 400 then
    withLine s { s.base.line with receiver := .symbols, w := some micros, symbols := [] }
  else dropFrame s .calRange none .waitLead

/-- R162: a symbol low ended after this length. -/
def endSymbol (s : State) (micros : Nat) : State :=
  let l := s.base.line
  let w := l.w.getD 0
  if 8 * micros < w then dropFrame s .symbol none .waitHigh
  else if 11 * w < 16 * micros then dropFrame s .symbol none .waitLead
  else
    let symbols := l.symbols ++ [decide (3 * w ≤ 8 * micros)]
    if symbols.length < 16 then withLine s { l with symbols := symbols }
    else endOfData (withLine s { l with symbols := symbols }) symbols

/-- R162: a symbol low has lasted more than 11W/16. -/
def symbolTooLong (l : SafetyLine) (micros : Nat) : Bool := l.receiver = .symbols && 11 * l.w.getD 0 < 16 * micros

/-- R162, R160: a low of 10000 µs passed 11W/16 of a symbol before it made the line stuck. -/
def stuckByLow (s : State) (micros : Nat) : State :=
  enterStuck (if symbolTooLong s.base.line micros then dropFrame s .symbol none .waitHigh else s)

/-- A rising edge after a low of this length; a low of 10000 µs has made the line stuck before it. -/
def risingEdge (s : State) (micros : Nat) : State :=
  let s0 := if 10000 ≤ micros ∧ s.base.line.receiver ≠ .stuck then stuckByLow s micros else s
  let s1 := withLine s0 (lineHigh s0.base.line)
  match s1.base.line.receiver with
  | .leadIn => endLead s1 micros
  | .cal => endCal s1 micros
  | .symbols => endSymbol s1 micros
  | .waitHigh => withLine s1 { s1.base.line with receiver := .waitLead }
  | _ => s1

/-- An edge of the line: an edge to the level that the line already has cannot come. -/
def lineEdge (s : State) (rising : Bool) (micros : Nat) : State :=
  if rising = s.base.line.low then if rising then risingEdge s micros else fallingEdge s micros
  else s

end Sys2Proof.Machine
end

