-- ==== Sys2Proof/Machine/Operands.lean ====
section
/-! DEFINITION. The operands of the comfort link: selectors (12.1.2), and the configuration items that WRITE CONFIG and READ
CONFIG name, with their ranges (R2, R43, R51, R63, R89, R108, R124, R139, R179). -/
namespace Sys2Proof.Machine

/-! ### Selectors (12.1.2) -/

def axisOfCode (n : Nat) : Option Axis := axisOrder[n]?

/-- R1: an axis selector that is unknown or names an absent axis selects nothing. -/
def presentAxis (f : Fitment) (n : Nat) : Option Axis := (axisOfCode n).filter (present f)

def dirOfCode (n : Nat) : Option Dir :=
  match n with
  | 0 => some .down
  | 1 => some .up
  | _ => none

def bladderOrder : List Bladder := supportOrder ++ cellOrder

def bladderOfCode (n : Nat) : Option Bladder := bladderOrder[n]?

/-- R102: the six support bladders. -/
def supportOfCode (n : Nat) : Option Bladder := supportOrder[n]?

def slotOrder : List Slot := [.p1, .p2, .p3, .p4, .return, .brace]

def slotOfCode (n : Nat) : Option Slot := slotOrder[n]?

/-- R64: P1 to P4. -/
def retainedOrder : List Retained4 := [.p1, .p2, .p3, .p4]

def retainedOfCode (n : Nat) : Option Retained4 := retainedOrder[n]?

def zoneOfCode (n : Nat) : Option Zone :=
  match n with
  | 0 => some .c
  | 1 => some .b
  | _ => none

def lumbarOfCode (n : Nat) : Option LumbarStep := [LumbarStep.stepIn, .stepOut, .stepUp, .stepDown][n]?

/-- Patterns are numbered 1 to 8. -/
def patternOfCode (n : Nat) : Option PatternNo :=
  match n with
  | 1 => some .n1 | 2 => some .n2 | 3 => some .n3 | 4 => some .n4
  | 5 => some .n5 | 6 => some .n6 | 7 => some .n7 | 8 => some .n8
  | _ => none

def vehicleOfCode (n : Nat) : Option Vehicle :=
  match n with
  | 0 => some .parked
  | 1 => some .moving
  | _ => none

/-! ### Ranges -/

/-- A value in a range, both ends included. -/
def within (lo hi v : Nat) : Bool := lo ≤ v && v ≤ hi

/-- A value in a range and on a step. -/
def onStep (lo hi step v : Nat) : Bool := within lo hi v && v % step = 0

/-! ### Axis items (table of 1.2) -/

def clearingOfCode (n : Nat) : Option Clearing :=
  match n with
  | 0 => some .down
  | 1 => some .up
  | 2 => some .none
  | _ => none

/-- An item of one axis, written with its value and second value; nothing outside the item's range. -/
def writeAxisItem (item v w : Nat) (x : AxisSettings) : Option AxisSettings :=
  match item with
  | 0x01 => if within 10 200 v then some { x with claim := v } else none
  | 0x02 => if v = 0 then some { x with stopMode := .brake } else if v = 1 then some { x with stopMode := .free } else none
  | 0x03 => if onStep 0 250 10 v then some { x with coastWindow := v } else none
  | 0x04 => if onStep 40 500 10 v then some { x with stallTimeout := v } else none
  | 0x05 => if onStep 0 250 10 v then some { x with startAllowance := v } else none
  | 0x06 => if within 0 255 v then some { x with softMargin := v } else none
  | 0x07 => if within 0 127 v then some { x with endWindow := v } else none
  | 0x08 => if within 0 2000 v then some { x with suspectWindow := v } else none
  | 0x09 => if within 200 8000 v then some { x with minTravel := v } else none
  | 0x0A => if within 0 15 v then some { x with onTarget := v } else none
  | 0x0B => if within 0 63 v then some { x with initialLead := v } else none
  | 0x0C => if within 0 255 v then some { x with disturbanceLimit := v } else none
  | 0x0D => if v = 16 ∨ v = 32 ∨ v = 64 ∨ v = 128 then some { x with hallInterval := v } else none
  | 0x0E => if within 50 1000 v then some { x with minLowWidth := v } else none
  | 0x0F => (clearingOfCode v).map (fun c => { x with clearing := c })
  | 0x10 => if v ≤ w ∧ w ≤ maxPosition then some { x with windowLow := v, windowHigh := w } else none
  | 0x11 => if v ≤ 1 then some { x with braceEnable := v = 1 } else none
  | _ => none

def stopModeCode (m : StopMode) : Nat :=
  match m with
  | .brake => 0
  | .free => 1

def clearingCode (c : Clearing) : Nat :=
  match c with
  | .down => 0
  | .up => 1
  | .none => 2

/-- The value and second value that READ CONFIG returns. -/
abbrev ItemValue := Word16 × Word16

def one (n : Nat) : ItemValue := (toWord n, 0)

def readAxisItem (item : Nat) (x : AxisSettings) : Option ItemValue :=
  match item with
  | 0x01 => some (one x.claim)
  | 0x02 => some (one (stopModeCode x.stopMode))
  | 0x03 => some (one x.coastWindow)
  | 0x04 => some (one x.stallTimeout)
  | 0x05 => some (one x.startAllowance)
  | 0x06 => some (one x.softMargin)
  | 0x07 => some (one x.endWindow)
  | 0x08 => some (one x.suspectWindow)
  | 0x09 => some (one x.minTravel)
  | 0x0A => some (one x.onTarget)
  | 0x0B => some (one x.initialLead)
  | 0x0C => some (one x.disturbanceLimit)
  | 0x0D => some (one x.hallInterval)
  | 0x0E => some (one x.minLowWidth)
  | 0x0F => some (one (clearingCode x.clearing))
  | 0x10 => some (toWord x.windowLow, toWord x.windowHigh)
  | 0x11 => some (one x.braceEnable.toNat)
  | _ => none

/-! ### Zone items (table of 7.1) -/

def setZoneCfg (c : Settings) (z : Zone) (x : ZoneSettings) : Settings := { c with zone := c.zone.set z x }

def writeZoneItem (item v : Nat) (x : ZoneSettings) : Option ZoneSettings :=
  match item with
  | 0x50 => if within 1000 10000 v then some { x with matResistance := v } else none
  | 0x51 => if within 20 118 v then some { x with target1 := v } else none
  | 0x52 => if within 20 118 v then some { x with target2 := v } else none
  | 0x53 => if within 20 118 v then some { x with target3 := v } else none
  | 0x54 => if within 0 15 v then some { x with kp := v } else none
  | 0x55 => if within 0 15 v then some { x with ki := v } else none
  | 0x56 => if onStep 100 1000 10 v then some { x with heatPeriod := v } else none
  | 0x57 => if within 0 60 v then some { x with stepDown := v } else none
  | _ => none

def readZoneItem (item : Nat) (x : ZoneSettings) : Option ItemValue :=
  match item with
  | 0x50 => some (one x.matResistance)
  | 0x51 => some (one x.target1)
  | 0x52 => some (one x.target2)
  | 0x53 => some (one x.target3)
  | 0x54 => some (one x.kp)
  | 0x55 => some (one x.ki)
  | 0x56 => some (one x.heatPeriod)
  | 0x57 => some (one x.stepDown)
  | _ => none

/-! ### Breakpoints (R124) -/

/-- R124: strictly below the breakpoint before it in code, and not below it in temperature. -/
def orderedPair (p q : Breakpoint) : Bool := q.code < p.code && decide (p.temp ≤ q.temp)

/-- R124: in order with the neighbour before, when there is one. -/
def fitsBefore (t : List Breakpoint) (i : Nat) (x : Breakpoint) : Bool :=
  if i = 0 then true
  else
    match t[i - 1]? with
    | some p => orderedPair p x
    | none => true

def fitsAfter (t : List Breakpoint) (i : Nat) (x : Breakpoint) : Bool :=
  match t[i + 1]? with
  | some q => orderedPair x q
  | none => true

/-- R124: breakpoint 1 to 9 is written as one pair. -/
def writeBreakpoint (t : List Breakpoint) (index v w : Nat) : Option (List Breakpoint) :=
  let x : Breakpoint := { code := v, temp := readSigned w }
  let i := index - 1
  if within 1 9 index ∧ within 16 4079 v ∧ -80 ≤ x.temp ∧ x.temp ≤ 250 ∧ fitsBefore t i x ∧ fitsAfter t i x
  then some (t.set i x) else none

/-! ### Items of the part -/

/-- The items that have no axis and no zone: an index is a level where the item has levels, and ignored elsewhere. -/
def writePlainItem (item index v w : Nat) (c : Settings) : Option Settings :=
  match item with
  | 0x20 => if within 0 400 v then some { c with parkCeiling := v } else none
  | 0x21 => if within 1 8 v then some { c with lowShare := v } else none
  | 0x22 => if within 0 400 v then some { c with braceAllowance := v } else none
  | 0x23 => if onStep 0 250 10 v then some { c with stagger := v } else none
  | 0x24 => if onStep 0 250 10 v then some { c with braceStagger := v } else none
  | 0x25 => if index ≤ 3 ∧ within 0 40 v then some { c with fanClaim := c.fanClaim.set index v } else none
  | 0x26 => if within 10 100 v then some { c with compressorClaim := v } else none
  | 0x27 => if v = 1 ∨ v = 2 ∨ v = 4 ∨ v = 8 then some { c with monitorInterval := v } else none
  | 0x30 => if within 5 40 v then some { c with debounce := v } else none
  | 0x31 => if within 10 60 v then some { c with stuckLimit := v } else none
  | 0x38 => if within 5 30 v then some { c with recallLimit := v } else none
  | 0x39 => if within 0 4000 v then some { c with exitOffset := v } else none
  | 0x40 => if within 0 31 v then some { c with tolerance := v } else none
  | 0x41 => if onStep 100 1000 50 v then some { c with burstTime := v } else none
  | 0x42 => if onStep 50 500 10 v then some { c with settleTime := v } else none
  | 0x43 => if within 1 30 v then some { c with burstLimit := v } else none
  | 0x44 => if within 4 16 v then some { c with queueLimit := v } else none
  | 0x48 => if within 100 900 v then some { c with fullScale := v } else none
  | 0x49 => if within 5 30 v then some { c with sessionLimit := v } else none
  | 0x58 => if index ≤ 3 ∧ within 0 255 v then some { c with fanDuty := c.fanDuty.set index v } else none
  | 0x59 => (writeBreakpoint c.ntc index v w).map (fun t => { c with ntc := t })
  | 0x60 => if within 1 10 v then some { c with holdLimit := v } else none
  | 0x68 => if v = 10 ∨ v = 20 ∨ v = 40 ∨ v = 80 then some { c with wakeInterval := v } else none
  | _ => none

/-- A breakpoint is returned as its pair. -/
def readBreakpoint (t : List Breakpoint) (index : Nat) : Option ItemValue :=
  if index = 0 then none else (t[index - 1]?).map (fun x => (toWord x.code, signedWord x.temp))

def readPlainItem (item index : Nat) (c : Settings) : Option ItemValue :=
  match item with
  | 0x20 => some (one c.parkCeiling)
  | 0x21 => some (one c.lowShare)
  | 0x22 => some (one c.braceAllowance)
  | 0x23 => some (one c.stagger)
  | 0x24 => some (one c.braceStagger)
  | 0x25 => if index ≤ 3 then some (one (c.fanClaim.get index)) else none
  | 0x26 => some (one c.compressorClaim)
  | 0x27 => some (one c.monitorInterval)
  | 0x30 => some (one c.debounce)
  | 0x31 => some (one c.stuckLimit)
  | 0x38 => some (one c.recallLimit)
  | 0x39 => some (one c.exitOffset)
  | 0x40 => some (one c.tolerance)
  | 0x41 => some (one c.burstTime)
  | 0x42 => some (one c.settleTime)
  | 0x43 => some (one c.burstLimit)
  | 0x44 => some (one c.queueLimit)
  | 0x48 => some (one c.fullScale)
  | 0x49 => some (one c.sessionLimit)
  | 0x58 => if index ≤ 3 then some (one (c.fanDuty.get index)) else none
  | 0x59 => readBreakpoint c.ntc index
  | 0x60 => some (one c.holdLimit)
  | 0x68 => some (one c.wakeInterval)
  | _ => none

/-- Items 01h to 11h name an axis, 50h to 57h a zone. -/
def isAxisItem (item : Nat) : Bool := within 0x01 0x11 item
def isZoneItem (item : Nat) : Bool := within 0x50 0x57 item

/-- R172: WRITE CONFIG of an item: the settings with the value in it, or nothing for an unknown selector, an absent axis, or
a value that the item's own rule refuses. -/
def writeItem (f : Fitment) (c : Settings) (item index v w : Nat) : Option Settings :=
  if isAxisItem item then
    (presentAxis f index).bind (fun a => (writeAxisItem item v w (c.axis.get a)).map (fun x => { c with axis := c.axis.set a x }))
  else if isZoneItem item then
    (zoneOfCode index).bind (fun z => (writeZoneItem item v (c.zone.get z)).map (setZoneCfg c z))
  else writePlainItem item index v w c

/-- R172: READ CONFIG of an item. -/
def readItem (f : Fitment) (c : Settings) (item index : Nat) : Option ItemValue :=
  if isAxisItem item then (presentAxis f index).bind (fun a => readAxisItem item (c.axis.get a))
  else if isZoneItem item then (zoneOfCode index).bind (fun z => readZoneItem item (c.zone.get z))
  else readPlainItem item index c

end Sys2Proof.Machine
end

