-- ==== Sys2Proof/Machine/Replies.lean ====
section
/-! DEFINITION. The reply of every read command (12_formats_pins_and_ratings.md R184, R185; R49, R64, R69, R105, R121, R137,
R157, R172, R174). What R184 leaves to be read from the rules is in notes/assumptions/28.md. -/
namespace Sys2Proof.Machine

/-! ### Fields (R184) -/

def b1 (n : Nat) : List Byte := [toByte n]
def b2 (n : Nat) : List Byte := [toByte (n / 256), toByte n]
def bword (w : Word16) : List Byte := b2 w.toNat
def bsigned (i : Int) : List Byte := bword (signedWord i)
/-- A field that is yes or no, set or clear: 0 for no and 1 for yes (notes/assumptions/71.md). -/
def bflag (x : Bool) : List Byte := b1 x.toNat
/-- A value of a named set; FFh when absent. -/
def bname (x : Option Nat) : List Byte := b1 (x.getD 255)
/-- An optional number: a presence byte, then the number in its width. -/
def bopt1 (x : Option Nat) : List Byte := bflag x.isSome ++ b1 (x.getD 0)
def bopt2 (x : Option Nat) : List Byte := bflag x.isSome ++ b2 (x.getD 0)
def boptSigned (x : Option Int) : List Byte := bflag x.isSome ++ bsigned (x.getD 0)
/-- A time in ms, 0 when its timer does not run. -/
def btime (x : Option Nat) : List Byte := b2 (x.getD 0)
/-- A one-byte mask, bit 0 the first member. -/
def bmask (l : List Bool) : List Byte := b1 (l.foldr (fun x n => 2 * n + x.toNat) 0)
/-- Fill up to a length with 0. -/
def padTo (n : Nat) (l : List Byte) : List Byte := (l ++ List.replicate (n - l.length) 0).take n

/-! ### Codes, in the order of the lists that define them -/

def driveCode (d : Drive) : Nat :=
  match d with
  | .idle => 0 | .waitGrant => 1 | .driving => 2 | .coasting => 3 | .fault => 4

def confidenceCode (c : Confidence) : Nat :=
  match c with
  | .unlearned => 0 | .learned => 1 | .suspect => 2

def ownerCode (o : Owner) : Nat :=
  match o with
  | .none => 0 | .manual => 1 | .link => 2 | .recall => 3 | .learn => 4 | .brace => 5

def moveResultCode (r : MoveResult) : Nat :=
  match r with
  | .reached => 0 | .missed => 1 | .obstacle => 2 | .endStop => 3 | .shedAbort => 4 | .fault => 5 | .aborted => 6

def causeCode (c : Cause) : Nat :=
  match c with
  | .lead => 0 | .limit => 1 | .stall => 2 | .request => 3 | .shed => 4

def dirtyCode (d : DirtyMark) : Nat :=
  match d with
  | .notMarked => 0 | .queued => 1 | .marked => 2

def learnCode (p : LearnPhase) : Nat :=
  match p with
  | .none => 0 | .low => 1 | .high => 2 | .settle => 3

def dirCode (d : Dir) : Nat :=
  match d with
  | .down => 0
  | .up => 1

def conditionCode (c : Condition) : Nat :=
  match c with
  | .active => 0 | .heldOff => 1 | .stuck => 2

def powerCode (p : Power) : Nat :=
  match p with
  | .run => 0 | .parking => 1 | .parked => 2 | .draining => 3 | .off => 4

def vehicleCode (v : Vehicle) : Nat :=
  match v with
  | .parked => 0
  | .moving => 1

def fitCode (f : Fitment) : Nat :=
  match f with
  | .full => 0
  | .basic => 1

def frameCode (o : FrameOutcome) : Nat :=
  match o with
  | .taken => 0
  | o => reasonNumber o + 1

def replyCode (r : ReplyOutcome) : Nat :=
  match r with
  | .sent => 0 | .collision => 1 | .none => 2

def galleryCode (g : GalleryState) : Nat :=
  match g with
  | .idle => 0 | .filling => 1 | .venting => 2 | .settling => 3 | .measuring => 4 | .fault => 5

def kindCode (k : OpKind) : Nat :=
  match k with
  | .fill => 0 | .vent => 1 | .measure => 2

def originCode (o : Origin) : Nat :=
  match o with
  | .support => 0 | .massage => 1 | .brace => 2

def opResultCode (r : OpResult) : Nat :=
  match r with
  | .done => 0 | .limit => 1 | .starved => 2 | .preempted => 3 | .cancelled => 4 | .sensor => 5

def bladderCode (x : Bladder) : Nat := bladderOrder.findIdx (fun y => y = x)

def engineCode (e : EngineState) : Nat :=
  match e with
  | .off => 0 | .running => 1 | .paused => 2 | .stopping => 3

def patternCode (n : PatternNo) : Nat := patternOrder.findIdx (fun k => k = n) + 1

def zoneModeCode (m : ZoneMode) : Nat :=
  match m with
  | .off => 0 | .regulating => 1 | .overheat => 2 | .sensorFault => 3

/-- R139, R184: the axis action. FAULT found at the judgement and FAULT with which a brace move ended are two members of the
set, since the list names the move results behind its own (notes/assumptions/58.md). -/
def actionCode (v : AxisAction) : Nat :=
  match v with
  | .none => 0 | .fault => 1 | .unlearned => 2 | .inWindow => 3 | .running => 4
  | .ended r => 5 + moveResultCode r

def airCode (v : AirAction) : Nat :=
  match v with
  | .none => 0 | .notTaken => 1 | .running => 2
  | .ended r => 3 + opResultCode r

def phaseCode (p : Phase) : Nat :=
  match p with
  | .wave1 => 0 | .wave2 => 1 | .done => 2 | .aborted => 3

def waveCode (w : Wave) : Nat :=
  match w with
  | .one => 1
  | .two => 2

def recallResultCode (v : RecallResult) : Nat :=
  match v with
  | .none => 0 | .waiting => 1 | .running => 2 | .notStarted => 3
  | .ended r => 4 + moveResultCode r
  | .unlearned => 11

/-! ### READ STATUS (R172) -/

/-- Bytes of every axis; an absent one reads what R184 says. -/
def perAxisBytes (f : Fitment) (absent : List Byte) (g : Axis → List Byte) : List Byte :=
  axisOrder.flatMap (fun a => if present f a then g a else absent)

def statusAxis (s : Seat) (a : Axis) : List Byte :=
  let x := axisOf s a
  b1 (driveCode x.drive) ++ b1 (confidenceCode x.confidence) ++ b1 (ownerCode x.owner)

def statusContact (s : Seat) (c : Contact) : List Byte :=
  let x := contactOf s.scanner c
  b1 x.pressed.toNat ++ bname (x.cond.map conditionCode)

def frameRecordBytes (r : Option FrameRecord) : List Byte :=
  bopt1 (r.bind FrameRecord.command) ++ bopt1 (r.bind FrameRecord.argument) ++ bname (r.map (fun x => frameCode x.outcome))
    ++ bname (r.map (fun x => replyCode x.reply))

def statusReply (b : Base) (s : Seat) : List Byte :=
  padTo 96
    (b1 (powerCode b.power) ++ b1 (vehicleCode b.link.vehicle) ++ b1 (fitCode b.fit) ++ b1 (modeCode s.brace.mode)
      ++ b1 (monitorCode b.monitor.state)
      ++ perAxisBytes b.fit [0xFF, 0xFF, 0xFF] (statusAxis s)
      ++ contactOrder.flatMap (statusContact s)
      ++ bflag s.scanner.window.isSome ++ bflag b.line.stuck ++ bopt2 b.line.w ++ frameRecordBytes b.line.record
      ++ b1 s.store.queue.length ++ bflag s.store.inFlight.isSome
      ++ b1 s.notices.queue.length ++ bflag s.notices.lost)

/-! ### READ AXIS (R172) -/

def moveTarget (m : Move) : Nat :=
  match m.kind with
  | .toTarget t => t
  | .jog => 0

def moveKindCode (m : Move) : Nat :=
  match m.kind with
  | .jog => 0
  | .toTarget _ => 1

/-- A move or none: kind and direction FFh when absent, the target and the time left 0 without a presence byte
(notes/assumptions/60.md). -/
def moveBytes (m : Option Move) : List Byte :=
  bname (m.map moveKindCode) ++ bname (m.map (fun x => dirCode x.dir)) ++ b2 ((m.map moveTarget).getD 0)
    ++ btime (m.bind Move.expiry)

def axisReply (b : Base) (s : Seat) (a : Axis) : List Byte :=
  let x := axisOf s a
  let lim := softLimits (b.cfg.axis.get a) x
  padTo 40
    (b2 x.position ++ bopt2 x.lowStop ++ bopt2 x.highStop ++ b1 (confidenceCode x.confidence) ++ b1 (driveCode x.drive)
      ++ b1 (ownerCode x.owner) ++ moveBytes x.move ++ moveBytes (x.pending.map Pending.move)
      ++ bname (x.pending.map (fun p => ownerCode p.owner))
      ++ b1 x.leadUp ++ b1 x.leadDown ++ b1 x.disturbance ++ bname (x.lastResult.map moveResultCode) ++ bsigned x.resync
      ++ b1 (dirtyCode x.dirty) ++ b1 (learnCode x.learn) ++ bname (x.cause.map causeCode)
      ++ bopt2 (lim.map Prod.fst) ++ bopt2 (lim.map Prod.snd))

/-! ### READ ALLOCATION (R49) -/

/-- The claim that a consumer shows: the granted one, else the pending one. -/
def shownClaim (al : Alloc) (c : Consumer) : Option Claim :=
  match grantedClaim al c with
  | some g => some g
  | none => pendingClaim al c

/-- NONE, PENDING, GRANTED, or GRANTED with an upgrade pending. -/
def claimState (al : Alloc) (c : Consumer) : Nat :=
  if isGranted al c then (if isPending al c then 3 else 2) else if isPending al c then 1 else 0

/-- The place in the claim list, from 1; 0 when not there. For a fan that is GRANTED with an upgrade pending it is the place of
the upgrade (notes/assumptions/55.md). -/
def claimPlace (al : Alloc) (c : Consumer) : Nat :=
  if isPending al c then al.pending.findIdx (fun p => p.consumer = c) + 1 else 0

/-- An absent axis reads FFh for its claim state (R184, notes/assumptions/29.md); its numbers read 0. -/
def absentClaim : List Byte := [0xFF, 0, 0, 0]

/-- The class and the amount of no claim read 0 without a presence byte (notes/assumptions/60.md). -/
def claimHead (al : Alloc) (c : Consumer) : List Byte :=
  b1 (claimState al c) ++ b1 (((shownClaim al c).map Claim.cls).getD 0) ++ b1 (((shownClaim al c).map Claim.amount).getD 0)

/-- R49: a claim of an axis or of the compressor; its place carries no presence byte (notes/assumptions/60.md). -/
def claimBytes (al : Alloc) (c : Consumer) : List Byte := claimHead al c ++ b1 (claimPlace al c)

/-- R49, R184: a fan claim, with the amount of its upgrade behind a presence byte; its place carries none
(notes/assumptions/60.md). -/
def fanClaimBytes (al : Alloc) (z : Zone) : List Byte :=
  let c := Consumer.fan z
  let up := if isGranted al c then (pendingClaim al c).map Claim.amount else none
  claimHead al c ++ bopt1 up ++ b1 (claimPlace al c)

/-- The window behind a byte that says whether one runs; its length and time left have none of their own
(notes/assumptions/61.md). -/
def staggerBytes (w : Option Stagger) : List Byte :=
  bflag w.isSome ++ b2 ((w.map Stagger.length).getD 0) ++ b2 ((w.map Stagger.left).getD 0)

def allocationReply (b : Base) (s : Seat) : List Byte :=
  let al := s.alloc
  padTo 64
    (b2 al.cSet ++ b2 al.ceiling ++ b2 (grantedSum al.granted) ++ b2 (heaterRoom s.brace.mode al)
      ++ b1 (monitorCode b.monitor.state) ++ b2 b.monitor.v ++ bflag b.monitor.settleLeft.isSome ++ staggerBytes al.stagger
      ++ perAxisBytes b.fit absentClaim (fun a => claimBytes al (.axis a))
      ++ claimBytes al .compressor ++ fanClaimBytes al .c ++ fanClaimBytes al .b
      ++ b1 s.zones.c.demand ++ b1 s.zones.b.demand ++ b1 s.zones.c.grant ++ b1 s.zones.b.grant)

/-! ### READ GALLERY, READ BLADDER (R105) -/

/-- The time left on whichever of the gallery timers runs. -/
def galleryTime (g : Gallery) : Option Nat :=
  match g.state with
  | .filling => if g.waitLeft.isSome then g.waitLeft else g.burstLeft
  | .venting => g.burstLeft
  | .settling => g.settleLeft
  | _ => none

def compressorState (al : Alloc) : Nat := if isGranted al .compressor then 2 else if isPending al .compressor then 1 else 0

/-- R105: the operation in flight. That there is none is said by its FFh bytes alone (notes/assumptions/29.md,
notes/assumptions/61.md); the target of a MEASURE, and the time left where none runs, read 0 without a presence byte
(notes/assumptions/60.md). -/
def flightBytes (s : Seat) : List Byte :=
  match s.gallery.inFlight with
  | some op =>
    b1 (bladderCode op.bladder) ++ b1 (kindCode op.kind) ++ b2 op.target ++ b1 (originCode op.origin) ++ b1 op.bursts
      ++ b1 (compressorState s.alloc) ++ btime (galleryTime s.gallery)
  | none => [0xFF, 0xFF, 0, 0, 0xFF, 0, 0xFF, 0, 0]

/-- R105: a queued operation; the target of a MEASURE reads 0 without a presence byte (notes/assumptions/60.md). -/
def queuedBytes (op : Op) : List Byte :=
  b1 (bladderCode op.bladder) ++ b1 (kindCode op.kind) ++ b2 op.target ++ b1 (originCode op.origin)

/-- R105, R184: 3 bytes, the 9 of the operation in flight, the count and slots of the queue, and the last reading. -/
def galleryReply (b : Base) (s : Seat) : List Byte :=
  let q := s.gallery.queue
  padTo 96
    (b1 (galleryCode s.gallery.state) ++ b1 b.cfg.queueLimit ++ b1 q.length ++ flightBytes s ++ b1 q.length
      ++ padTo 80 (q.flatMap queuedBytes) ++ bopt2 s.gallery.lastReading)

def bladderReply (s : Seat) (x : Bladder) : List Byte :=
  let r := bladderOf s.gallery x
  padTo 12
    (bopt2 r.measured ++ bopt2 (if isCell x then none else r.comfort) ++ b2 r.lastTarget ++ bflag (connected s.gallery x)
      ++ bname (r.lastResult.map opResultCode))

/-! ### READ MASSAGE (R121) -/

/-- R121, R184: the repeat stack, newest entry first (notes/assumptions/59.md). -/
def stackBytes (l : List Repeat) : List Byte := b1 l.length ++ padTo 4 (l.flatMap (fun r => b1 r.index ++ b1 r.remaining))

def entryBytes (e : Option PatternEntry) : List Byte :=
  match e with
  | some x => b1 x.start ++ b1 x.length ++ b1 (cellCount x.cells)
  | none => [0, 0, 0]

def directoryBytes (p : Patterns) : List Byte :=
  b1 (patternOrder.filter (fun n => (p.directory.get n).isSome)).length
    ++ patternOrder.flatMap (fun n => entryBytes (p.directory.get n))

/-- R121: the staging area behind its open flag; its pattern and its counts have no presence byte of their own
(notes/assumptions/61.md). -/
def stagingBytes (st : Option Staging) : List Byte :=
  match st with
  | some x => [1] ++ b1 (patternCode x.pattern) ++ b1 x.declared ++ b1 x.steps.length
  | none => [0, 0, 0, 0]

def massageReply (b : Base) (s : Seat) : List Byte :=
  let e := s.engine
  padTo 96
    (b1 (engineCode e.state) ++ bopt1 (e.pattern.map patternCode) ++ b1 e.index ++ stackBytes e.stack ++ b1 e.intensity
      ++ b1 e.speed ++ bopt1 e.pendingIntensity ++ bopt1 e.pendingSpeed ++ b2 (e.sessionLeft / 1000)
      ++ [e.outstanding, e.stillToAsk, e.failed, e.held] ++ bname (e.endReason.map reasonCode)
      ++ directoryBytes b.patterns ++ b1 (freePlaces b.patterns) ++ stagingBytes b.patterns.staging)

/-! ### READ CLIMATE (R137) -/

def zoneBytes (s : Seat) (z : Zone) : List Byte :=
  let x := zoneOf s z
  b1 x.heat ++ b1 x.fan ++ b1 (runningLevel s.alloc z) ++ b1 (zoneModeCode x.mode) ++ bopt2 x.ntc ++ boptSigned x.temp
    ++ b2 x.i16.toNat ++ bflag x.capped ++ b1 x.current ++ b1 x.demand ++ b1 x.grant ++ b1 x.loopDuty ++ b1 x.dutyOut
    ++ b2 (x.level3 / 1000)

def climateReply (s : Seat) : List Byte :=
  padTo 64 (zoneBytes s .c ++ zoneBytes s .b ++ b2 s.zones.c.vUsed ++ b2 s.zones.b.vUsed)

/-! ### READ BRACE (R157) -/

def readinessList (r : Readiness) : List Bool := [r.recline, r.supply, r.gallery, r.unlocked, r.line]

def braceReply (b : Base) (s : Seat) : List Byte :=
  let x := s.brace
  let r := readiness b s
  padTo 32
    (b1 (modeCode x.mode) ++ b1 x.grade ++ bname (x.crash.map crashCode) ++ bopt2 x.holdLeft ++ bflag r.ready
      ++ bmask (readinessList r) ++ bmask (axisOrder.map (fun a => x.driven.get a))
      ++ perAxisBytes b.fit [0xFF] (fun a => b1 (actionCode (x.axisAction.get a)))
      ++ bolsterOrder.flatMap (fun i => b1 (airCode (x.bolster.get i)) ++ b1 (airCode (x.vents.get i)))
      ++ bflag (profileOf s .brace).valid ++ bflag (writeOutstanding s.store (.crashLock none)))

/-! ### READ PROFILE (R64) -/

def retainedOfSlot (k : Slot) : Option Retained4 :=
  match k with
  | .p1 => some .p1 | .p2 => some .p2 | .p3 => some .p3 | .p4 => some .p4
  | _ => none

/-- R64: an invalid slot reads with every entry absent; entries of absent axes are not reported (4.1). -/
def shownProfile (f : Fitment) (p : Profile) : Profile :=
  if p.valid then { p with axes := tabulate (fun a => if present f a then p.axes.get a else none) } else Reset.profile

def profileReply (b : Base) (s : Seat) (k : Slot) : List Byte :=
  let p := shownProfile b.fit (profileOf s k)
  let c := p.climate
  let queued := (retainedOfSlot k).map (fun r => writeOutstanding s.store (.profile r Reset.profile))
  padTo 48
    (bflag p.valid ++ axisOrder.flatMap (fun a => bopt2 (p.axes.get a))
      ++ supportOrder.flatMap (fun x => bopt2 (p.support.get x))
      ++ bopt1 (c.map (fun z => z.c.heat)) ++ bopt1 (c.map (fun z => z.c.fan)) ++ bopt1 (c.map (fun z => z.b.heat))
      ++ bopt1 (c.map (fun z => z.b.fan)) ++ bflag (queued.getD false))

/-! ### READ RECALL (R69) -/

def recallHead (r : Recall) : List Byte :=
  b1 (slotCode r.slot) ++ b1 (sourceCode r.source) ++ bflag r.deadMan.isSome

/-- The slot and the source of no context read FFh, and its dead-man flag 0 (R184). -/
def absentHead : List Byte := [0xFF, 0xFF, 0]

/-- The running context behind a byte that says whether one runs (notes/assumptions/61.md). The wave of an axis that was placed
in none is absent (R184). -/
def contextBytes (f : Fitment) (r : Option Recall) : List Byte :=
  match r with
  | some x =>
    [1] ++ recallHead x ++ bname (x.deadMan.map keyCode) ++ b1 (phaseCode x.phase) ++ bname (x.outcome.map outcomeCode)
      ++ perAxisBytes f [0, 0, 0, 0, 0, 0xFF] (fun a =>
        bopt2 (x.target.get a) ++ bopt1 ((x.wave.get a).map waveCode) ++ b1 (recallResultCode (x.result.get a)))
      ++ b2 x.left
  | none => [0] ++ absentHead ++ [0xFF, 0xFF, 0xFF] ++ axisOrder.flatMap (fun _ => [0, 0, 0, 0, 0, 0xFF]) ++ [0, 0]

/-- The last-recall record behind a byte that says whether it is filled; its dead-man flag stands without the key
(notes/assumptions/61.md). -/
def lastRecallBytes (f : Fitment) (r : Option Recall) : List Byte :=
  match r with
  | some x =>
    [1] ++ recallHead x ++ b1 (phaseCode x.phase) ++ bname (x.outcome.map outcomeCode)
      ++ perAxisBytes f [0, 0, 0, 0xFF] (fun a => bopt2 (x.target.get a) ++ b1 (recallResultCode (x.result.get a)))
      ++ b2 x.left
  | none => [0] ++ absentHead ++ [0xFF, 0xFF] ++ axisOrder.flatMap (fun _ => [0, 0, 0, 0xFF]) ++ [0, 0]

def recallReply (b : Base) (s : Seat) : List Byte :=
  padTo 80 (contextBytes b.fit s.recallCtx ++ lastRecallBytes b.fit s.lastRecall)

/-! ### READ CONFIG, READ NOTICE, LOAD PATTERN END -/

def configReply (v : ItemValue) : List Byte := bword v.1 ++ bword v.2

/-- 12.1.4: the code of a subject. -/
def subjectCode (x : Subject) : Nat :=
  match x with
  | .none => 0
  | .axis a => 1 + axisCode a
  | .bladder y => 0x10 + bladderCode y
  | .zone .c => 0x20
  | .zone .b => 0x21
  | .pattern n => 0x30 + patternCode n
  | .link => 0x40

/-- 12.1.4: the code of a kind. -/
def noticeCode (k : NoticeKind) : Nat :=
  match k with
  | .axisSuspect => 0x01 | .axisResync => 0x02 | .axisObstacle => 0x03 | .axisFault => 0x04 | .axisLearned => 0x05
  | .learnFailed => 0x06 | .shed => 0x10 | .supplyState => 0x11 | .switchStuck => 0x20 | .keyRefused => 0x21
  | .recallDone => 0x30 | .galleryFault => 0x40 | .massageStopped => 0x41 | .sensorFault => 0x50 | .heatOverheat => 0x51
  | .heatStepdown => 0x52 | .braceState => 0x60 | .stuck => 0x70 | .safetyCollision => 0x71 | .safetyFrame => 0x72
  | .recordDefaulted => 0x7F

/-- R174: the oldest notice, and how many remain after it. -/
def noticeReply (s : Seat) : List Byte :=
  match s.notices.queue with
  | n :: rest => b1 (noticeCode n.kind) ++ b1 (subjectCode n.subject) ++ bword n.detail ++ b1 n.count ++ b1 rest.length
  | [] => [0xFF, 0, 0, 0, 0, 0]

/-- R185. -/
def patternEndReply (b : Base) (n : Nat) : List Byte :=
  match patternOfCode n with
  | some k => let j := judgeStaged b.patterns k; b1 j.check ++ b1 j.index
  | none => [0, 0]

/-- The length of a reply (12.1.2). -/
def replyLength (f : ReadFrame) : Nat :=
  match f with
  | .status => 96 | .axis _ => 40 | .allocation => 64 | .gallery => 96 | .bladder _ => 12 | .massage => 96 | .climate => 64
  | .brace => 32 | .profile _ => 48 | .recall => 80 | .config _ _ => 4 | .notice => 6 | .patternEnd _ => 2

/-- R168, R184: the reply of a frame from the state as it stands; nothing for a selector that is refused with RANGE. -/
def replyOf (f : ReadFrame) (b : Base) (s : Seat) : Option (List Byte) :=
  match f with
  | .status => some (statusReply b s)
  | .axis n => (presentAxis b.fit n).map (axisReply b s)
  | .allocation => some (allocationReply b s)
  | .gallery => some (galleryReply b s)
  | .bladder n => (bladderOfCode n).map (bladderReply s)
  | .massage => some (massageReply b s)
  | .climate => some (climateReply s)
  | .brace => some (braceReply b s)
  | .profile n => (slotOfCode n).map (profileReply b s)
  | .recall => some (recallReply b s)
  | .config i x => (readItem b.fit b.cfg i x).map configReply
  | .notice => some (noticeReply s)
  | .patternEnd n => some (patternEndReply b n)

/-- R169: a read refused for its selector shifts out 0 throughout. -/
def replyBytes (f : ReadFrame) (b : Base) (s : Seat) : List Byte :=
  (replyOf f b s).getD (List.replicate (replyLength f) 0)

end Sys2Proof.Machine
end

