-- ==== Sys2Proof/Machine/Link.lean ====
section
/-! DEFINITION. The comfort link: the frame around every command (R168 to R170), reads and their captures (R174), and the shared
shapes of events (notes/assumptions/2.md, notes/assumptions/3.md). -/
namespace Sys2Proof.Machine

/-- What exec answers. -/
abbrev Out := Host.Outcome State Fault Refusal

def withLink (s : State) (l : Link) : State := withBase s { s.base with link := l }

/-! ### Frames (R168, R169) -/

/-- R169: the header is captured at the falling edge of chip-select, unless the frame has already begun. -/
def openFrame (s : State) : State :=
  if s.base.link.begun then s
  else withLink s { s.base.link with begun := true, header := statusHeader s.base s.seat, captured := none }

/-- R169: the end of a frame that the part answers. -/
def closeFrame (s : State) (r : Result) (reply : List Byte) : State :=
  withSeat (withLink s { s.base.link with lastResult := r, begun := false, captured := none, reply := reply })
    { s.seat with notices := { s.seat.notices with captured := none } }

/-- R168: chip-select falls in PARKED: the part wakes, and the frame is neither decoded nor taken. -/
def chipWake (s : State) : State := withLink (wake s) { (wake s).base.link with begun := false, captured := none }

/-- A frame reaches the link: RUN and PARKING decode it, PARKED wakes, a part that drains or has no supply is silent. -/
def frame (s : State) (f : State → State) : Out :=
  match s.base.power with
  | .run => .next (f s)
  | .parking => .next (f s)
  | .parked => .next (chipWake s)
  | _ => .next s

/-- R170: a command that passes the restricted mode acts; another is refused with RESTRICTED. -/
def guarded (k : CommandClass) (act : State → Result × State) (s : State) : Result × State :=
  if passes s.seat.brace.mode k then act s else (.restricted, s)

/-- A whole comfort frame of a command without a reply. -/
def comfort (k : CommandClass) (act : State → Result × State) (s : State) : Out :=
  frame s (fun t =>
    let y := guarded k act (openFrame t)
    closeFrame y.2 y.1 [])

/-- A command that acts on the seat alone. -/
def onSeat (f : Base → Seat → Result × Did) (s : State) : Result × State :=
  let y := f s.base s.seat
  (y.1, actOn s y.2)

/-- A command that is refused changes nothing. -/
def refuse (r : Result) (s : Seat) : Result × Did := (r, done s)

/-- A command that is taken. -/
def accept (y : Did) : Result × Did := (.accepted, y)

/-! ### Reads (R168, R174) -/

/-- R174: the oldest entry is captured. -/
def captureNotice (n : Notices) : Notices :=
  { n with captured := n.queue.head?.map (fun x => { kind := x.kind, subject := x.subject, count := x.count, coalesced := false }) }

/-- R174: the captured entry leaves the queue; one that a notice coalesced into stays, with the rest of its count. -/
def dropCaptured (c : NoticeCapture) (x : Notice) : Option Notice :=
  if sameNotice c.kind c.subject x then
    if c.coalesced then some { x with count := max 1 (x.count - c.count) } else none
  else some x

/-- R173: notices-lost is cleared when the queue becomes empty. -/
def removeCaptured (n : Notices) : Notices :=
  match n.captured with
  | some c =>
    let q := n.queue.filterMap (dropCaptured c)
    { queue := q, lost := if q.isEmpty then false else n.lost, captured := none }
  | none => n

/-- R168: the last argument byte of a reading frame is received: its reply is captured. -/
def captureReply (f : ReadFrame) (s : State) : State :=
  let s1 := withLink s { s.base.link with captured := some (f, replyBytes f s.base s.seat) }
  if f = .notice then withSeat s1 { s1.seat with notices := captureNotice s1.seat.notices } else s1

/-- The capture of a frame that has none of its own yet. -/
def ensureCaptured (f : ReadFrame) (s : State) : State :=
  match s.base.link.captured with
  | some (g, _) => if g = f then s else captureReply f s
  | none => captureReply f s

/-- The read data of the frame. -/
def capturedBytes (s : State) : List Byte := (s.base.link.captured.map Prod.snd).getD []

/-- R169: the result of a read. -/
def readResult (f : ReadFrame) (s : State) : Result := if (replyOf f s.base s.seat).isSome then .accepted else .range

/-- A whole frame of a read command. -/
def readFrame (f : ReadFrame) (s : State) : Out :=
  frame s (fun t =>
    let t1 := ensureCaptured f (openFrame t)
    closeFrame t1 (readResult f t1) (capturedBytes t1))

/-- R174: a whole frame of READ NOTICE; when it is complete the captured entry is removed. -/
def readNoticeFrame (s : State) : Out :=
  frame s (fun t =>
    let t1 := ensureCaptured .notice (openFrame t)
    let t2 := withSeat t1 { t1.seat with notices := removeCaptured t1.seat.notices }
    closeFrame t2 .accepted (capturedBytes t1))

/-! ### Events -/

/-- An event of RUN: the part works in RUN and PARKING alone (R180, R181). -/
def event (s : State) (f : Base → Seat → Did) : Out :=
  if running s.base.power then .next (actOn s (f s.base s.seat)) else .next s

/-- An event of RUN that can come only when a condition holds; otherwise nothing changes. -/
def eventIf (s : State) (c : Bool) (f : Base → Seat → Did) : Out :=
  if c then event s f else .next s

/-- An event of RUN that acts on the whole state. -/
def wholeEvent (s : State) (f : State → State) : Out := if running s.base.power then .next (f s) else .next s

end Sys2Proof.Machine
end

