-- ==== Sys2Proof/Machine/BlockEvents.lean ====
section
/-! DEFINITION. The meanings of the events of the recall, the gallery, the massage engine, the zones and the brace hold timer
(R82, R92 to R97, R116, R119, R127, R133, R145). -/
namespace Sys2Proof.Machine

/-- R82: the time left of the running recall has reached 0. -/
def recallTimeUp (s : Seat) : Seat := { s with recallCtx := s.recallCtx.map (fun r => { r with left := 0 }) }

/-- RECALL_TIMEOUT (R82). -/
def execRecallTimeout (s : State) : Out := event s (fun b t => abortRecall b (recallTimeUp t) .timeout)

/-! ### Gallery -/

/-- R92, R93: a burst runs: a vent burst, or a fill burst while the compressor claim is granted. -/
def burstRuns (s : Seat) : Bool :=
  s.gallery.burstLeft.isSome && (s.gallery.state = .venting || compressorOn s)

/-- BURST_END (R92, R93). -/
def execBurstEnd (s : State) : Out := eventIf s (burstRuns s.seat) (fun b t => done (beginSettle b t))

/-- R94: a conversion starts. -/
def beginMeasuring (s : Seat) : Seat := withGallery s { s.gallery with state := .measuring, settleLeft := none }

/-- SETTLE_END (R94). -/
def execSettleEnd (s : State) : Out :=
  eventIf s (s.seat.gallery.state = .settling) (fun _ t => done (beginMeasuring t))

/-- PRESSURE_READING (R94, R97). -/
def execPressureReading (code : Nat) (s : State) : Out :=
  eventIf s (s.seat.gallery.state = .measuring) (fun b t => reading b t code)

/-- COMPRESSOR_WAIT_EXPIRY (R92). -/
def execCompressorWaitExpiry (s : State) : Out :=
  eventIf s (s.seat.gallery.state = .filling && s.seat.gallery.waitLeft.isSome) (fun _ t => endFlight t .starved)

/-! ### Massage engine -/

/-- R116: the wait of a HOLD step ends. -/
def endHold (s : Seat) : Did :=
  (withEngine s { s.engine with holdLeft := none, index := s.engine.index + 1 }, [.engineBegin])

/-- MASSAGE_HOLD_END (R116). -/
def execMassageHoldEnd (s : State) : Out :=
  eventIf s (s.seat.engine.state = .running && s.seat.engine.holdLeft.isSome) (fun _ t => endHold t)

/-- R116: the cycle rest ends. -/
def endRest (s : Seat) : Did :=
  (withEngine s { s.engine with restLeft := none, stack := [], index := 0 }, [.engineBegin])

/-- CYCLE_REST_END (R116). -/
def execCycleRestEnd (s : State) : Out :=
  eventIf s (s.seat.engine.state = .running && s.seat.engine.restLeft.isSome) (fun _ t => endRest t)

/-- R119: the session timer runs. -/
def sessionRuns (e : Engine) : Bool := e.state = .running || e.state = .paused

/-- R119: the session time left has reached 0. -/
def sessionTimeUp (s : Seat) : Seat := withEngine s { s.engine with sessionLeft := 0 }

/-- SESSION_EXPIRY (R119). -/
def execSessionExpiry (s : State) : Out :=
  eventIf s (sessionRuns s.seat.engine) (fun _ t => engineStop (sessionTimeUp t) .session)

/-! ### Zones -/

/-- HEAT_SAMPLE (R127). -/
def execHeatSample (z : Zone) (code : Nat) (s : State) : Out := event s (fun b t => heatSample b t z code)

/-- R133: the zone is at level 3 and its Step-down time is not 0. -/
def stepsDown (cfg : Settings) (s : Seat) (z : Zone) : Bool := (zoneOf s z).heat = 3 && (cfg.zone.get z).stepDown ≠ 0

/-- HEAT_STEPDOWN (R133). -/
def execHeatStepdown (z : Zone) (s : State) : Out :=
  eventIf s (stepsDown s.base.cfg s.seat z) (fun _ t => stepDown t z)

/-! ### Brace -/

/-- HOLD_TIMER_EXPIRY (R145): as though STAND_DOWN had been taken. -/
def execHoldTimerExpiry (s : State) : Out := event s (fun b t => takeStandDown b t)

end Sys2Proof.Machine
end

