-- ==== Sys2Proof/Machine/Clock.lean ====
section
/-! DEFINITION. What one millisecond does when no command waits: every running timer has one millisecond less left, and the time
at level 3 has one more. An expiry is a row of its own: a timer that has reached 0 stays there until its row comes
(notes/assumptions/1.md). -/
namespace Sys2Proof.Machine

/-- A running timer one millisecond later. -/
def tickDown (t : Option Nat) : Option Nat := t.map (fun n => n - 1)

/-- A timer that runs only in some conditions. -/
def tickIf (c : Bool) (t : Option Nat) : Option Nat := if c then tickDown t else t

def tickMove (m : Move) : Move := { m with expiry := tickDown m.expiry }

/-- The timers of an axis: stall, coast, blanking, overcurrent, and the expiry of a link jog (R11, R13, R19, R21). -/
def tickAxis (x : AxisState) : AxisState :=
  { x with stallLeft := tickDown x.stallLeft, coastLeft := tickDown x.coastLeft, blankLeft := tickDown x.blankLeft,
           overcurrentLeft := tickDown x.overcurrentLeft, move := x.move.map tickMove,
           pending := x.pending.map (fun p => { p with move := tickMove p.move }) }

/-- The stagger window (R38). -/
def tickStagger (w : Stagger) : Stagger := { w with left := w.left - 1 }

def tickAlloc (al : Alloc) : Alloc := { al with stagger := al.stagger.map tickStagger }

/-- Debounce and stuck timers (R53, R54). -/
def tickContact (x : ContactState) : ContactState :=
  { x with debounce := tickDown x.debounce, stuckLeft := tickDown x.stuckLeft }

/-- The re-arm timers of the keys (R57). -/
def tickRearm (t : PerKey (Option Nat)) : PerKey (Option Nat) :=
  { mem1 := tickDown t.mem1, mem2 := tickDown t.mem2, mem3 := tickDown t.mem3, set4 := tickDown t.set4 }

/-- R62: in PARKED only the re-arm timers run. -/
def tickKeys (sc : Scanner) : Scanner := { sc with rearm := tickRearm sc.rearm }

def tickContacts (sc : Scanner) : Scanner :=
  contactOrder.foldl (fun t c => putContact t c (tickContact (contactOf t c))) sc

/-- The scanner in RUN: contacts, keys, the store window (R58). -/
def tickScanner (sc : Scanner) : Scanner := { tickContacts (tickKeys sc) with window := tickDown sc.window }

/-- The recall time limit (R82). -/
def tickRecall (r : Recall) : Recall := { r with left := r.left - 1 }

/-- The gallery: a fill burst runs while its claim is granted, and the wait while it is pending (R92). -/
def tickGallery (s : Seat) : Gallery :=
  { s.gallery with
    burstLeft := tickIf (burstRuns s) s.gallery.burstLeft
    waitLeft := tickIf (s.gallery.state = .filling && !isGranted s.alloc .compressor) s.gallery.waitLeft
    settleLeft := tickDown s.gallery.settleLeft }

/-- The engine: its hold, its rest, and the session in RUNNING and PAUSED (R116, R119). -/
def tickEngine (e : Engine) : Engine :=
  { e with holdLeft := tickDown e.holdLeft, restLeft := tickDown e.restLeft,
           sessionLeft := if sessionRuns e then e.sessionLeft - 1 else e.sessionLeft }

/-- The longest time at level 3 that a zone keeps, in ms (R123). -/
def level3Limit : Nat := 3600000

/-- A zone: its sample timer, and the time at level 3 within its 0 to 60 min (R123, R127, R133). -/
def tickZone (z : ZoneState) : ZoneState :=
  { z with sampleLeft := tickDown z.sampleLeft, level3 := if z.heat = 3 then min level3Limit (z.level3 + 1) else z.level3 }

/-- One millisecond of the seat in RUN. -/
def tickSeat (s : Seat) : Seat :=
  { s with
    axes := s.axes.map tickAxis
    alloc := tickAlloc s.alloc
    scanner := tickScanner s.scanner
    recallCtx := s.recallCtx.map tickRecall
    gallery := tickGallery s
    engine := tickEngine s.engine
    zones := { c := tickZone s.zones.c, b := tickZone s.zones.b }
    brace := { s.brace with holdLeft := tickDown s.brace.holdLeft } }

/-- The monitor: its threshold settle and its sample timer (R44, R46). -/
def tickMonitor (m : Monitor) : Monitor :=
  { m with settleLeft := tickDown m.settleLeft, sampleLeft := tickDown m.sampleLeft }

/-- One millisecond: RUN and PARKING run every timer, PARKED the wake interval and the re-arm timers (R62, R181); a part that
drains or has no supply runs none. -/
def tick (s : State) : State :=
  match s.base.power with
  | .run => withSeat (withBase s { s.base with monitor := tickMonitor s.base.monitor }) (tickSeat s.seat)
  | .parking => withSeat (withBase s { s.base with monitor := tickMonitor s.base.monitor }) (tickSeat s.seat)
  | .parked =>
    withSeat (withBase s { s.base with wakeLeft := tickDown s.base.wakeLeft })
      { s.seat with scanner := tickKeys s.seat.scanner }
  | _ => s

end Sys2Proof.Machine
end

