-- ==== Sys2Proof/Machine/AirCommands.lean ====
section
/-! DEFINITION. The meanings of the pneumatic and massage commands (R98, R102, R104, R109 to R114, R118). -/
namespace Sys2Proof.Machine

/-! ### Pneumatic commands -/

/-- R90, R99: the code of a verdict that is not taken. -/
def verdictCode (v : Verdict) : Option Result :=
  match v with
  | .taken => none
  | .fault => some .state
  | .busy => some .busy
  | .full => some .full

/-- R102: SET SUPPORT. -/
def setSupport (bladder target : Nat) (b : Base) (s : Seat) : Result × Did :=
  match supportOfCode bladder with
  | none => refuse .range s
  | some x =>
    match verdictCode (verdict b s.gallery x) with
    | some r => refuse r s
    | none => accept (askSupport s x target)

def execSetSupport (bladder target : Nat) (s : State) : Out := comfort .plain (onSeat (setSupport bladder target)) s

/-- R104: LUMBAR ADJUST. -/
def lumbarAdjust (step : Nat) (b : Base) (s : Seat) : Result × Did :=
  match lumbarOfCode step with
  | none => refuse .range s
  | some l =>
    match verdictCode (lumbarVerdict b s.gallery l) with
    | some r => refuse r s
    | none => accept (lumbarStep s l none)

def execLumbarAdjust (step : Nat) (s : State) : Out := comfort .motion (onSeat (lumbarAdjust step)) s

/-- R98: CLEAR GALLERY FAULT. -/
def clearGalleryFault (_ : Base) (s : Seat) : Result × Did :=
  if s.gallery.state = .fault then accept (done (withGallery s { s.gallery with state := .idle })) else refuse .state s

def execClearGalleryFault (s : State) : Out := comfort .plain (onSeat clearGalleryFault) s

/-! ### Loading a pattern -/

def withPatterns (s : State) (p : Patterns) : State := withBase s { s.base with patterns := p }

/-- R109, R111: the engine is RUNNING or PAUSED on a pattern. -/
def walksPattern (s : Seat) (n : PatternNo) : Bool :=
  (s.engine.state = .running || s.engine.state = .paused) && s.engine.pattern = some n

/-- R109: LOAD PATTERN BEGIN. -/
def loadBegin (pattern count : Nat) (s : State) : Result × State :=
  match patternOfCode pattern with
  | none => (.range, s)
  | some n =>
    if ¬ within 1 48 count then (.range, s)
    else if walksPattern s.seat n then (.busy, s)
    else (.accepted, withPatterns s { s.base.patterns with staging := some { pattern := n, declared := count, steps := [] } })

def execLoadPatternBegin (pattern count : Nat) (s : State) : Out := comfort .plain (loadBegin pattern count) s

/-- R110: LOAD PATTERN STEPS. -/
def loadSteps (count : Nat) (steps : List StepRec) (s : State) : Result × State :=
  if ¬ within 1 8 count then (.range, s)
  else
    match s.base.patterns.staging with
    | none => (.state, s)
    | some st =>
      if st.declared < st.steps.length + count then (.length, s)
      else
        (.accepted, withPatterns s { s.base.patterns with staging := some { st with steps := st.steps ++ steps.take count } })

def execLoadPatternSteps (count : Nat) (steps : List StepRec) (s : State) : Out := comfort .plain (loadSteps count steps) s

/-- R112: room, store queue, repacking, retained write. -/
def commitPattern (s : State) (n : PatternNo) (st : Staging) : Result × State :=
  if roomFor s.base.patterns n < st.declared then (.full, s)
  else if refusesLinkWrite s.seat.store (.pattern n none) then (.busy, s)
  else
    (.accepted,
      withSeat (withPatterns s (repack s.base.patterns n st.steps)) (queueWrite s.seat (.pattern n (some st.steps))))

/-- R111: checks 5 to 7 on the staged pattern; INVALID closes the staging area. -/
def endStaged (s : State) (n : PatternNo) (st : Staging) : Result × State :=
  if (judgeSteps st.declared st.steps).check = 0 then commitPattern s n st
  else (.invalid, withPatterns s { s.base.patterns with staging := none })

/-- R111: LOAD PATTERN END. -/
def loadEnd (pattern : Nat) (s : State) : Result × State :=
  match patternOfCode pattern with
  | none => (.range, s)
  | some n =>
    match s.base.patterns.staging with
    | none => (.state, s)
    | some st =>
      if st.pattern ≠ n then (.state, s)
      else if walksPattern s.seat n then (.busy, s)
      else endStaged s n st

/-- LOAD PATTERN END with its reply (R185), captured before it is taken. -/
def execLoadPatternEnd (pattern : Nat) (s : State) : Out :=
  frame s (fun t =>
    let t1 := ensureCaptured (.patternEnd pattern) (openFrame t)
    let y := guarded .plain (loadEnd pattern) t1
    closeFrame y.2 y.1 (capturedBytes t1))

/-! ### Massage commands -/

/-- R113, R114, R118: refused while the brace state is not IDLE. -/
def whenIdle (s : Seat) (f : Result × Did) : Result × Did := if s.brace.mode = .idle then f else refuse .restricted s

/-- R113: START MASSAGE. -/
def startMassage (pattern intensity speed : Nat) (b : Base) (s : Seat) : Result × Did :=
  whenIdle s
    (match patternOfCode pattern with
     | none => refuse .range s
     | some n =>
       if ¬ (within 1 5 intensity ∧ within 1 5 speed) then refuse .range s
       else if (b.patterns.directory.get n).isNone then refuse .empty s
       else if s.gallery.state = .fault then refuse .state s
       else if s.engine.state = .stopping then refuse .busy s
       else accept (engineStart b s n intensity speed))

def execStartMassage (pattern intensity speed : Nat) (s : State) : Out :=
  comfort .plain (onSeat (startMassage pattern intensity speed)) s

/-- R114: SET MASSAGE. -/
def setMassage (intensity speed : Nat) (_ : Base) (s : Seat) : Result × Did :=
  whenIdle s
    (if ¬ (within 1 5 intensity ∧ within 1 5 speed) then refuse .range s
     else if s.engine.state = .off ∨ s.engine.state = .stopping then refuse .state s
     else accept (done (withEngine s { s.engine with pendingIntensity := some intensity, pendingSpeed := some speed })))

def execSetMassage (intensity speed : Nat) (s : State) : Out := comfort .plain (onSeat (setMassage intensity speed)) s

/-- R118: STOP MASSAGE. -/
def stopMassage (_ : Base) (s : Seat) : Result × Did :=
  whenIdle s
    (match s.engine.state with
     | .running => accept (engineStop s .stop)
     | .paused => accept (engineStop s .stop)
     | .stopping => accept (done s)
     | .off =>
       if s.engine.held = 0 then accept (done s)
       else if s.gallery.state = .fault then refuse .state s
       else accept (stopHeld s .stop))

def execStopMassage (s : State) : Out := comfort .plain (onSeat stopMassage) s

end Sys2Proof.Machine
end

