-- ==== Sys2Proof/Machine/AxisEvents.lean ====
section
/-! DEFINITION. The meanings of the events of the axes and of the supply: hall samples, pulses, stalls, coasts, overcurrent,
jog expiry, the stagger window and the supply samples (R3 to R21, R38, R44 to R46). An event that cannot come in the state
found changes nothing (notes/assumptions/2.md). -/
namespace Sys2Proof.Machine

/-- An event of an axis: it comes to a present axis alone (R1). -/
def axisEvent (s : State) (a : Axis) (can : AxisState → Bool) (f : Base → Seat → Did) : Out :=
  eventIf s (present s.base.fit a && can (axisOf s.seat a)) f

def isDriving (x : AxisState) : Bool := x.drive = .driving

/-! ### Hall front end (R3 to R6) -/

/-- ACCEPTED_PULSE (R5). -/
def execAcceptedPulse (a : Axis) (s : State) : Out := axisEvent s a (fun _ => true) (fun b t => pulse b t a)

/-- REJECTED_LOW (R4, R6). -/
def execRejectedLow (a : Axis) (s : State) : Out := axisEvent s a (fun _ => true) (fun b t => done (disturb b t a))

/-- What a sample hands to the axis. -/
def hallHands (e : HallEvent) (a : Axis) (b : Base) (s : Seat) : Did :=
  match e with
  | .nothing => done s
  | .pulse => pulse b s a
  | .rejected => done (disturb b s a)

/-- One sample of the hall input of a present axis (R3, R4). -/
def hallSample (a : Axis) (high : Bool) (s : State) : State :=
  let cf := s.base.cfg.axis.get a
  let y := hallStep cf.hallInterval cf.minLowWidth (s.base.hall.get a) high
  let s1 := withBase s { s.base with hall := s.base.hall.set a y.1 }
  actOn s1 (hallHands y.2 a s1.base s1.seat)

/-- HALL_SAMPLE (R3). -/
def execHallSample (a : Axis) (high : Bool) (s : State) : Out :=
  if present s.base.fit a then wholeEvent s (hallSample a high) else .next s

/-! ### Drive cycle (R11, R13, R19, R21) -/

/-- STALL (R11): the stall timer of a driving axis expires. -/
def execStall (a : Axis) (s : State) : Out :=
  axisEvent s a (fun x => isDriving x && x.stallLeft.isSome) (fun b t => stalled b t a)

/-- COAST_WINDOW_END (R13). -/
def execCoastWindowEnd (a : Axis) (s : State) : Out :=
  axisEvent s a (fun x => x.drive = .coasting) (fun b t => endCoast b t a)

/-- R19: from the end of the blanking a comparator that is asserted is measured. -/
def endBlanking (s : Seat) (a : Axis) : Seat :=
  let x := axisOf s a
  putAxis s a { x with blankLeft := none, overcurrentLeft := if x.comparator then some overcurrentTime else none }

/-- OVERCURRENT_BLANKING_END (R19). -/
def execOvercurrentBlankingEnd (a : Axis) (s : State) : Out :=
  axisEvent s a (fun x => isDriving x && x.blankLeft.isSome) (fun _ t => done (endBlanking t a))

/-- OVERCURRENT (R19): a driving axis after its blanking. -/
def execOvercurrent (a : Axis) (s : State) : Out :=
  axisEvent s a (fun x => isDriving x && x.blankLeft.isNone) (fun _ t => overcurrent t a)

/-- R19: the comparator is asserted, or its assertion breaks. It is watched in DRIVING, after the blanking. -/
def setComparator (s : Seat) (a : Axis) (asserted : Bool) : Seat :=
  let x := axisOf s a
  putAxis s a
    { x with comparator := asserted
             overcurrentLeft := if isDriving x && x.blankLeft.isNone && asserted then some overcurrentTime else none }

/-- COMPARATOR_ASSERTION_CHANGE (R19). -/
def execComparatorAssertionChange (a : Axis) (asserted : Bool) (s : State) : Out :=
  axisEvent s a (fun x => x.comparator ≠ asserted) (fun _ t => done (setComparator t a asserted))

/-- R21: the axis holds a link jog whose expiry runs: its pending move, or else its move. -/
def jogRuns (x : AxisState) : Bool :=
  match x.pending with
  | some p => p.owner = .link && p.move.expiry.isSome
  | none => x.owner = .link && (x.move.bind Move.expiry).isSome

/-- JOG_EXPIRY (R21, R17). -/
def execJogExpiry (a : Axis) (s : State) : Out := axisEvent s a jogRuns (fun b t => endMove b t a .reached false)

/-! ### Stagger window (R38) -/

/-- STAGGER_WINDOW_END (R38). -/
def execStaggerWindowEnd (s : State) : Out :=
  eventIf s s.seat.alloc.stagger.isSome (fun _ t => ({ t with alloc := { t.alloc with stagger := none } }, [.pass]))

/-- R38: the brace point lies inside a longer window, and has not passed. -/
def bracePointAhead (w : Option Stagger) : Bool := w.any (fun x => !x.bracePassed && x.braceLength < x.length)

def passBracePoint (w : Stagger) : Stagger := { w with bracePassed := true }

/-- BRACE_POINT (R38). -/
def execBracePoint (s : State) : Out :=
  eventIf s (bracePointAhead s.seat.alloc.stagger)
    (fun _ t => ({ t with alloc := { t.alloc with stagger := t.alloc.stagger.map passBracePoint } }, [.pass]))

/-! ### Supply monitor (R44 to R46) -/

/-- R44, R45: one sample, in RUN and at a wake-interval instant alike; `next` is the time to the sample after it. -/
def supplySample (s : State) (mv : Nat) (next : Option Nat) : State :=
  let m := takeSample s.base.monitor mv
  let s1 := withBase s { s.base with monitor := { m with sampleLeft := next } }
  actOn s1 (supplyChange s.base.monitor.state m.state s1.seat)

/-- MONITOR_SAMPLE (R44). -/
def execMonitorSample (mv : Nat) (s : State) : Out :=
  wholeEvent s (fun t => supplySample t mv (some t.base.cfg.monitorInterval))

/-- THRESHOLD_SETTLE_END (R46). -/
def execThresholdSettleEnd (s : State) : Out :=
  wholeEvent s (fun t => withBase t { t.base with monitor := { t.base.monitor with settleLeft := none } })

end Sys2Proof.Machine
end

