-- ==== Sys2Proof/Machine/ContactEvents.lean ====
section
/-! DEFINITION. The meanings of the events of the switch pack (R52 to R62). A press comes to a contact that is RELEASED, a
release to one that is PRESSED, whatever its debounce measurement has left (notes/assumptions/2.md). -/
namespace Sys2Proof.Machine

/-- A press is accepted of a present contact that is RELEASED (R52, R53). -/
def pressEvent (s : State) (c : Contact) (f : Base → Seat → Did) : Out :=
  eventIf s (contactPresent s.base.fit c && !(contactOf s.seat.scanner c).pressed) f

/-- A release is accepted of a contact that is PRESSED (R53). -/
def releaseEvent (s : State) (c : Contact) (f : Base → Seat → Did) : Out :=
  eventIf s (contactPresent s.base.fit c && (contactOf s.seat.scanner c).pressed) f

/-- AXIS_CONTACT_PRESS (R55, R56, R61). -/
def execAxisContactPress (a : Axis) (d : Dir) (s : State) : Out :=
  pressEvent s (.axis a d) (fun b t => pressAxis b t a d)

/-- AXIS_CONTACT_RELEASE (R53, R56). -/
def execAxisContactRelease (a : Axis) (d : Dir) (s : State) : Out :=
  releaseEvent s (.axis a d) (fun b t => release b t (.axis a d))

/-- KEY_PRESS (R57 to R59, R61). -/
def execKeyPress (k : Key) (s : State) : Out := pressEvent s (.key k) (fun b t => pressKey b t k)

/-- KEY_RELEASE (R57, R59). -/
def execKeyRelease (k : Key) (s : State) : Out :=
  releaseEvent s (.key k) (fun b t => release b (startRearm t k) (.key k))

/-- R57: the key is armed. -/
def armKey (s : Seat) (k : Key) : Seat :=
  { s with scanner := { s.scanner with armed := s.scanner.armed.put k true, rearm := s.scanner.rearm.put k none } }

/-- KEY_REARM (R57); a re-arm timer runs on in PARKED (R62). -/
def execKeyRearm (k : Key) (s : State) : Out :=
  if (running s.base.power || s.base.power = .parked) && (s.seat.scanner.rearm.get k).isSome then
    .next (withSeat s (armKey s.seat k))
  else .next s

/-- STORE_WINDOW_END (R58). -/
def execStoreWindowEnd (s : State) : Out := event s (fun _ t => done (closeWindow t))

/-- LUMBAR_CONTACT_PRESS (R60, R61). -/
def execLumbarContactPress (l : LumbarStep) (s : State) : Out :=
  pressEvent s (.lumbar l) (fun b t => pressLumbar b t l)

/-- LUMBAR_CONTACT_RELEASE (R60). -/
def execLumbarContactRelease (l : LumbarStep) (s : State) : Out :=
  releaseEvent s (.lumbar l) (fun b t => release b t (.lumbar l))

/-- SWITCH_STUCK (R54): the stuck timer of a contact expires. -/
def execSwitchStuck (c : Contact) (s : State) : Out :=
  eventIf s (contactPresent s.base.fit c && (contactOf s.seat.scanner c).stuckLeft.isSome) (fun b t => stuckContact b t c)

/-- CONTACT_LEVEL_CHANGE (R53). -/
def execContactLevelChange (c : Contact) (closed : Bool) (s : State) : Out :=
  eventIf s (contactWatched s.base false c && (contactOf s.seat.scanner c).closed ≠ closed)
    (fun b t => done (levelChange b t c closed))

end Sys2Proof.Machine
end

