-- ==== Sys2Proof/Machine/LineCommands.lean ====
section
/-! DEFINITION. The meanings of the safety-line rows (09_the_safety_line.md R159 to R167). A row of a whole frame stands for the
moment at which the frame is judged (notes/assumptions/4.md). -/
namespace Sys2Proof.Machine

/-! ### Whole frames -/

/-- The line is high and the receiver waits for a lead-in. -/
def restLine (s : State) : State := withLine s { s.base.line with receiver := .waitLead, low := false }

/-- A whole frame: RUN and PARKING judge it unless the line is stuck (R160), PARKED wakes and drops it (R167). -/
def safetyFrame (s : State) (f : State → State) : Out :=
  match s.base.power with
  | .run => if s.base.line.receiver = .stuck then .next s else .next (f s)
  | .parking => if s.base.line.receiver = .stuck then .next s else .next (f s)
  | .parked => .next (restLine (lineWake s))
  | _ => .next s

/-- STATUS_QUERY (R163). -/
def execStatusQuery (s : State) : Out := safetyFrame s (fun t => takeFrame t .statusQuery)
/-- BRACE (R140, R141, R146, R152). -/
def execBrace (grade : Grade) (s : State) : Out := safetyFrame s (fun t => takeFrame t (.brace grade))
/-- HOLD (R145). -/
def execHold (s : State) : Out := safetyFrame s (fun t => takeFrame t .hold)
/-- STAND_DOWN (R148). -/
def execStandDown (s : State) : Out := safetyFrame s (fun t => takeFrame t .standDown)
/-- CRASH (R153). -/
def execCrash (kind : CrashKind) (s : State) : Out := safetyFrame s (fun t => takeFrame t (.crash kind))
/-- SAFETY_FRAME_REFUSED (R163): a code and an argument with a matching check. A pair of the table is that frame. -/
def execSafetyFrameRefused (command argument : Nat) (s : State) : Out :=
  safetyFrame s (fun t => checkedFrame t command argument)

/-- R160 to R163: the drop at an edge, and the level and the state that it leaves. -/
def dropAtEdge (cause : DropCause) (s : State) : State :=
  match cause with
  | .lead => restLine (dropFrame s .lead none .waitLead)
  | .gap => withLine (dropFrame s .gap none .waitLead) (lineLow (dropFrame s .gap none .waitLead).base.line)
  | .calRange => restLine (dropFrame s .calRange none .waitLead)
  | .shortSymbol => withLine (dropFrame s .symbol none .waitHigh) (lineHigh (dropFrame s .symbol none .waitHigh).base.line)
  | .check command argument => restLine (dropFrame s .check (some (command, argument)) .waitLead)

/-- SAFETY_FRAME_DROP (R166). -/
def execSafetyFrameDrop (cause : DropCause) (s : State) : Out := safetyFrame s (dropAtEdge cause)

/-! ### Time inside a frame -/

/-- A moment that comes in one receiver state, at one level of the line. -/
def lineMoment (s : State) (at_ : SafetyLine → Bool) (f : State → State) : Out :=
  if running s.base.power ∧ at_ s.base.line then .next (f s) else .next s

/-- SAFETY_GAP_TIMEOUT (R161). -/
def execSafetyGapTimeout (s : State) : Out :=
  lineMoment s (fun l => l.receiver = .gap) (fun t => dropFrame t .gap none .waitLead)

/-- SAFETY_SYMBOL_TIMEOUT (R162): a high inside the frame. -/
def execSafetySymbolTimeout (s : State) : Out :=
  lineMoment s (fun l => l.receiver = .symbols && !l.low) (fun t => dropFrame t .timeout none .waitLead)

/-- SAFETY_SYMBOL_TOO_LONG (R162): a symbol low. -/
def execSafetySymbolTooLong (s : State) : Out :=
  lineMoment s (fun l => l.receiver = .symbols && l.low) (fun t => dropFrame t .symbol none .waitHigh)

/-! ### The reply (R164, R165) -/

/-- SAFETY_REPLY_START (R164): the part pulls the line low for symbol 1. -/
def execSafetyReplyStart (s : State) : Out :=
  lineMoment s (fun l => l.receiver = .turnaround)
    (fun t => withLine t (beginLow { t.base.line with receiver := .reply, replyIndex := 0 }))

/-- REPLY_SYMBOL_END (R164). -/
def execReplySymbolEnd (s : State) : Out :=
  lineMoment s (fun l => l.receiver = .reply) (fun t => withLine t (replySymbol t.base.line))

/-- SAFETY_REPLY_SENT (R164): all eight symbols are sent. -/
def execSafetyReplySent (s : State) : Out :=
  lineMoment s (fun l => l.receiver = .reply) (fun t => replySent (withLine t { t.base.line with replyIndex := 8 }))

/-- R165: a collision is seen at a release, which ends the low that was driven. -/
def releaseLine (l : SafetyLine) : SafetyLine := if l.driving.isSome then replySymbol l else l

/-- SAFETY_COLLISION (R165). -/
def execSafetyCollision (s : State) : Out :=
  lineMoment s (fun l => l.receiver = .turnaround || l.receiver = .reply)
    (fun t => collide (withLine t (releaseLine t.base.line)))

/-! ### Stuck, wake and edges -/

/-- LINE_STUCK (R160). The part's own lows are not watched for stuck (R164). The row brings the low with it, whatever the level
before it (notes/assumptions/69.md). -/
def execLineStuck (s : State) : Out := lineMoment s (fun l => l.receiver ≠ .stuck && l.driving.isNone) enterStuck

/-- LINE_STUCK_CLEARED (R160): the stuck flag is set; a wake leaves it set in WAIT_HIGH (notes/assumptions/27.md). The
row brings the high with it (notes/assumptions/69.md). -/
def execLineStuckCleared (s : State) : Out := lineMoment s (fun l => l.stuck) clearStuck

/-- A falling edge in RUN whose high before it broke no limit (notes/assumptions/27.md). A line that is low cannot fall. -/
def ordinaryFall (s : State) : State :=
  if s.base.line.low then s
  else
    match s.base.line.receiver with
    | .waitLead => startLead s
    | .gap => withLine s { s.base.line with receiver := .cal, low := true }
    | .turnaround => collide s
    | _ => withLine s (lineLow s.base.line)

/-- SAFETY_LINE_WAKE (R167): in RUN it is an ordinary falling edge (R181). -/
def execSafetyLineWake (s : State) : Out :=
  match s.base.power with
  | .parked => .next (lineWake s)
  | .run => .next (ordinaryFall s)
  | .parking => .next (ordinaryFall s)
  | _ => .next s

/-- In PARKED a falling edge wakes the part (R167); a rising edge only raises the line. -/
def parkedEdge (s : State) (rising : Bool) : State :=
  if rising then withLine s (lineHigh s.base.line) else lineWake s

/-- SAFETY_LINE_EDGE (R160 to R162). -/
def execSafetyLineEdge (rising : Bool) (micros : Nat) (s : State) : Out :=
  match s.base.power with
  | .parked => .next (parkedEdge s rising)
  | .run => .next (lineEdge s rising micros)
  | .parking => .next (lineEdge s rising micros)
  | _ => .next s

end Sys2Proof.Machine
end

