-- ==== Sys2Proof/Machine/MemoryCommands.lean ====
section
/-! DEFINITION. The meanings of the memory commands (R66, R68, R70, R84, R85). -/
namespace Sys2Proof.Machine

/-- R66: STORE PROFILE. -/
def storeProfile (slot : Nat) (b : Base) (s : Seat) : Result × Did :=
  match retainedOfCode slot with
  | none => refuse .range s
  | some p =>
    match storeRefusal b.fit s p with
    | some r => refuse r s
    | none => accept (done (storeSlot s p (captureStore b.fit s)))

def execStoreProfile (slot : Nat) (s : State) : Out := comfort .plain (onSeat (storeProfile slot)) s

/-- R70, R78: RECALL PROFILE. -/
def recallProfile (slot : Nat) (b : Base) (s : Seat) : Result × Did :=
  match retainedOfCode slot with
  | none => refuse .range s
  | some p =>
    if b.link.vehicle = .moving then refuse .state s
    else
      match recallRefusal b.fit s p.slot with
      | some r => refuse r s
      | none => accept (supersede b s p.slot .link none)

def execRecallProfile (slot : Nat) (s : State) : Out := comfort .motion (onSeat (recallProfile slot)) s

/-- R68: ERASE PROFILE. -/
def eraseProfile (slot : Nat) (_ : Base) (s : Seat) : Result × Did :=
  match retainedOfCode slot with
  | none => refuse .range s
  | some p =>
    if refusesLinkWrite s.store (.profile p Reset.profile) then refuse .busy s
    else accept (done (storeSlot s p Reset.profile))

def execEraseProfile (slot : Nat) (s : State) : Out := comfort .plain (onSeat (eraseProfile slot)) s

/-- R84: the checks of DOOR EXIT. -/
def exitRefusal (b : Base) (s : Seat) : Option Result :=
  let x := axisOf s .slide
  if b.link.vehicle = .moving then some .state
  else if s.recallCtx.isSome then some .busy
  else if x.confidence ≠ .learned ∨ x.drive = .fault then some .state
  else if x.drive ≠ .idle then some .busy
  else none

/-- R84: DOOR EXIT. -/
def doorExit (b : Base) (s : Seat) : Result × Did :=
  match exitRefusal b s with
  | some r => refuse r s
  | none => accept (exitStart b s)

def execDoorExit (s : State) : Out := comfort .motion (onSeat doorExit) s

/-- R70, R85: the checks of DOOR ENTRY. -/
def entryRefusal (b : Base) (s : Seat) : Option Result :=
  if b.link.vehicle = .moving then some .state
  else if s.recallCtx.isSome then some .busy
  else recallRefusal b.fit s .return

/-- R85: DOOR ENTRY. -/
def doorEntry (b : Base) (s : Seat) : Result × Did :=
  match entryRefusal b s with
  | some r => refuse r s
  | none => accept (recallStart b s .return .easyEntry none)

def execDoorEntry (s : State) : Out := comfort .motion (onSeat doorEntry) s

end Sys2Proof.Machine
end

