-- ==== Sys2Proof/Machine/MotionCommands.lean ====
section
/-! DEFINITION. The meanings of the motion commands (R20 to R25, R81). The order of their checks is in
notes/assumptions/41.md. -/
namespace Sys2Proof.Machine

/-- R25: the answer to a link move by the owner that it meets. -/
def ownerRefusal (o : Owner) : Option Result :=
  match o with
  | .none => none
  | .link => none
  | .brace => some .restricted
  | _ => some .busy

/-- R20, R25, R71: the checks of a link move on a present axis, after its arguments. -/
def moveRefusal (s : Seat) (a : Axis) : Option Result :=
  if reserved s a then some .busy
  else if (axisOf s a).drive = .fault then some .state
  else ownerRefusal (ownerMet s.brace.mode (axisOf s a))

/-- R21: MOVE AXIS TO. -/
def moveAxisTo (axis target : Nat) (b : Base) (s : Seat) : Result × Did :=
  match presentAxis b.fit axis with
  | none => refuse .range s
  | some a =>
    if reserved s a then refuse .busy s
    else if (axisOf s a).confidence = .unlearned then refuse .range s
    else
      match moveRefusal s a with
      | some r => refuse r s
      | none => accept (takeMove b s a .link (toTargetMove (b.cfg.axis.get a) (axisOf s a) target))

def execMoveAxisTo (axis target : Nat) (s : State) : Out := comfort .motion (onSeat (moveAxisTo axis target)) s

/-- R21: a move that is a LINK JOG in a direction. -/
def isJog (o : Owner) (m : Move) (d : Dir) : Bool := o = .link && m.kind = .jog && m.dir = d

def refreshed (m : Move) (ms : Nat) : Move := { m with expiry := some ms }

/-- R21: the refresh of a LINK JOG in the same direction; nothing when there is none to refresh. A LINK JOG that coasts after
LIMIT or STALL is not refreshed (notes/assumptions/46.md). -/
def refreshJog (x : AxisState) (d : Dir) (ms : Nat) : Option AxisState :=
  match x.pending, x.move with
  | some p, _ => if isJog p.owner p.move d then some { x with pending := some { p with move := refreshed p.move ms } } else none
  | none, some m =>
    if isJog x.owner m d ∧ (x.drive ≠ .coasting ∨ keptMove x) then some { x with move := some (refreshed m ms) } else none
  | none, none => none

/-- R21: a JOG AXIS that is taken. -/
def takeJog (b : Base) (s : Seat) (a : Axis) (d : Dir) (ms : Nat) : Did :=
  match refreshJog (axisOf s a) d ms with
  | some x => done (putAxis s a x)
  | none => takeMove b s a .link { kind := .jog, dir := d, expiry := some ms }

/-- R21: JOG AXIS. -/
def jogAxis (axis direction duration : Nat) (b : Base) (s : Seat) : Result × Did :=
  match presentAxis b.fit axis, dirOfCode direction with
  | some a, some d =>
    if ¬ within 50 500 duration then refuse .range s
    else
      match moveRefusal s a with
      | some r => refuse r s
      | none => accept (takeJog b s a d duration)
  | _, _ => refuse .range s

def execJogAxis (axis direction duration : Nat) (s : State) : Out :=
  comfort .motion (onSeat (jogAxis axis direction duration)) s

/-- R22: owners whose moves the stop commands end. -/
def stoppable (o : Owner) : Bool :=
  match o with
  | .manual => true
  | .link => true
  | .recall => true
  | .learn => true
  | _ => false

/-- R22, R56: the move of one axis is stopped. A contact whose manual move was stopped is HELD_OFF. -/
def stopMove (b : Base) (a : Axis) (s : Seat) : Did :=
  let o := ownerMet s.brace.mode (axisOf s a)
  if stoppable o then
    let s1 := if o = .manual then holdOff (holdOff s (.axis a .up)) (.axis a .down) else s
    endMove b s1 a .aborted (o = .recall)
  else done s

/-- R81: a recall move still WAITING records ABORTED and is not handed. -/
def stopWaiting (s : Seat) (a : Axis) : Did :=
  match s.recallCtx with
  | some r =>
    if r.result.get a = .waiting then
      ({ s with recallCtx := some (setRecallResult r a (.ended .aborted)) }, [.recallCheck])
    else done s
  | none => done s

/-- R22, R81: STOP AXIS. -/
def stopAxis (axis : Nat) (b : Base) (s : Seat) : Result × Did :=
  match presentAxis b.fit axis with
  | none => refuse .range s
  | some a => accept (andThen (stopMove b a s) (fun t => stopWaiting t a))

def execStopAxis (axis : Nat) (s : State) : Out := comfort .motion (onSeat (stopAxis axis)) s

/-- R81: the moves of other owners than the recall, whose own moves its abort has ended. -/
def stopOther (b : Base) (a : Axis) (s : Seat) : Did :=
  if ownerMet s.brace.mode (axisOf s a) = .recall then done s else stopMove b a s

/-- R22, R81: STOP ALL. -/
def stopAll (b : Base) (s : Seat) : Result × Did :=
  accept (andThen (abortRecall b s .stopped) (fun t => forEach (presentIn b.fit axisOrder) (stopOther b) t))

def execStopAll (s : State) : Out := comfort .motion (onSeat stopAll) s

/-- R23: LEARN AXIS. It looks at the owner itself: the exception of R25 for an axis that coasts from a BRACE move is for the requests
of the table of R25 alone. -/
def learnAxis (axis : Nat) (b : Base) (s : Seat) : Result × Did :=
  match presentAxis b.fit axis with
  | none => refuse .range s
  | some a =>
    if b.link.vehicle = .moving then refuse .state s
    else if reserved s a then refuse .busy s
    else if (axisOf s a).drive = .fault then refuse .state s
    else if (axisOf s a).owner ≠ .none then refuse .busy s
    else accept (startLearn b s a)

def execLearnAxis (axis : Nat) (s : State) : Out := comfort .motion (onSeat (learnAxis axis)) s

/-- R20: CLEAR AXIS FAULT. -/
def clearAxisFault (axis : Nat) (b : Base) (s : Seat) : Result × Did :=
  match presentAxis b.fit axis with
  | none => refuse .range s
  | some a => if (axisOf s a).drive = .fault then accept (done (clearFault s a)) else refuse .state s

def execClearAxisFault (axis : Nat) (s : State) : Out := comfort .clearFault (onSeat (clearAxisFault axis)) s

end Sys2Proof.Machine
end

