-- ==== Sys2Proof/Machine/PowerCommands.lean ====
section
/-! DEFINITION. The meanings of the events of the retained store, the power state and the resets
(11_parking_start_up_and_retained_records.md R176 to R183). -/
namespace Sys2Proof.Machine

/-! ### Store queue (R177) -/

/-- R177: a write in flight completes: its record is made, its owner is told, and the next write begins. -/
def completeWrite (s : State) (w : RecordWrite) : State :=
  let s1 := withBase s { s.base with records := writeRecord s.base.records w }
  let s2 := withSeat s1 { s1.seat with store := { s1.seat.store with inFlight := none } }
  let s3 := actOn s2 (writeTold s2.base s2.seat w)
  withSeat s3 { s3.seat with store := startWrite s3.seat.store }

/-- R183: a write of the drain completes; nothing is told. -/
def drainWrite (s : State) (w : RecordWrite) : State :=
  withSeat (withBase s { s.base with records := writeRecord s.base.records w })
    { s.seat with store := nextWrite s.seat.store }

/-- A write completes, by the power state; with the last write PARKING ends (R180). -/
def writeCompletes (s : State) (w : RecordWrite) : State :=
  match s.base.power with
  | .run => completeWrite s w
  | .parking => tryPark (completeWrite s w)
  | .draining => drainWrite s w
  | _ => s

/-- STORE_WRITE_COMPLETE (R177). -/
def execStoreWriteComplete (s : State) : Out :=
  match s.seat.store.inFlight with
  | some w => .next (writeCompletes s w)
  | none => .next s

/-! ### Wake-interval instants (R47, R62, R181) -/

/-- R181: a contact, not STUCK, is read closed. -/
def contactWakes (s : State) (closed : List Contact) : Bool :=
  (watchedContacts s.base true).any (wakesPart s.seat closed)

/-- R181: the contacts are read and one supply sample is taken. -/
def readInstant (s : State) (closed : List Contact) (mv : Nat) : State :=
  supplySample (withSeat s ((watchedContacts s.base true).foldl (instantContact closed) s.seat)) mv none

/-- R181: an instant, which wakes the part or waits for the next one (R179). -/
def wakeInstant (s : State) (closed : List Contact) (mv : Nat) : State :=
  let s1 := readInstant s closed mv
  if contactWakes s closed then wake s1
  else withBase s1 { s1.base with wakeLeft := some s1.base.cfg.wakeInterval }

/-- R181: an instant that finds RUN: its contacts are measured, and no supply sample is taken. -/
def secondInstant (s : State) (closed : List Contact) : State :=
  withSeat s ((watchedContacts s.base false).foldl (measureSecond s.base closed) s.seat)

/-- WAKE_INTERVAL_INSTANT (R181). -/
def execWakeIntervalInstant (closed : List Contact) (mv : Nat) (s : State) : Out :=
  match s.base.power with
  | .parked => .next (wakeInstant s closed mv)
  | .run => .next (secondInstant s closed)
  | .parking => .next (secondInstant s closed)
  | _ => .next s

/-! ### Resets (R176, R182, R183) -/

/-- POWER_ON_RESET (R182). The supply has risen: whatever ran before was lost with it. -/
def execPowerOnReset (fit : Fitment) (lineHigh : Bool) (s : State) : Out :=
  let s0 := if s.base.power = .off then s else lose s
  .next (resetPart s0 fit lineHigh s0.base.records)

/-- RESET_PIN (R183): a pin asserted again during the drain changes nothing. -/
def execResetPin (s : State) : Out :=
  match s.base.power with
  | .run => .next (beginDrain s)
  | .parking => .next (beginDrain s)
  | .parked => .next (beginDrain s)
  | _ => .next s

/-- WARM_RESET_DRAIN_END (R183): the writes that remain are made, and the part takes its reset values with its fitment kept. -/
def execWarmResetDrainEnd (lineHigh : Bool) (s : State) : Out :=
  if s.base.power = .draining then
    .next (resetPart s s.base.fit lineHigh (drainAll s.base.records s.seat.store))
  else .next s

/-- POWER_LOSS (R176). -/
def execPowerLoss (s : State) : Out :=
  if s.base.power = .off then .next s else .next (lose s)

end Sys2Proof.Machine
end

