-- ==== Sys2Proof/Machine/ReadCommands.lean ====
section
/-! DEFINITION. The meanings of the read commands, and of a frame's reply capture, length, unknown code and wake. -/
namespace Sys2Proof.Machine

/-- READ STATUS (R172). -/
def execReadStatus (s : State) : Out := readFrame .status s
/-- READ AXIS (R172). -/
def execReadAxis (axis : Nat) (s : State) : Out := readFrame (.axis axis) s
/-- READ ALLOCATION (R49). -/
def execReadAllocation (s : State) : Out := readFrame .allocation s
/-- READ GALLERY (R105). -/
def execReadGallery (s : State) : Out := readFrame .gallery s
/-- READ BLADDER (R105). -/
def execReadBladder (bladder : Nat) (s : State) : Out := readFrame (.bladder bladder) s
/-- READ MASSAGE (R121). -/
def execReadMassage (s : State) : Out := readFrame .massage s
/-- READ CLIMATE (R137). -/
def execReadClimate (s : State) : Out := readFrame .climate s
/-- READ BRACE (R157). -/
def execReadBrace (s : State) : Out := readFrame .brace s
/-- READ PROFILE (R64). -/
def execReadProfile (slot : Nat) (s : State) : Out := readFrame (.profile slot) s
/-- READ RECALL (R69). -/
def execReadRecall (s : State) : Out := readFrame .recall s
/-- READ CONFIG (R172). -/
def execReadConfig (item index : Nat) (s : State) : Out := readFrame (.config item index) s
/-- READ NOTICE (R174). -/
def execReadNotice (s : State) : Out := readNoticeFrame s

/-- COMFORT_FRAME_LENGTH (R168): the frame is not taken, and its result is LENGTH. -/
def execComfortFrameLength (s : State) : Out := frame s (fun t => closeFrame (openFrame t) .length [])

/-- UNKNOWN_COMMAND (R168): the code is not defined, whatever follows it. -/
def execUnknownCommand (_code : Nat) (s : State) : Out := frame s (fun t => closeFrame (openFrame t) .unknown [])

/-- CHIP_SELECT_WAKE (R168, R181): in PARKED the part wakes; a falling edge of chip-select in RUN begins a frame. -/
def execChipSelectWake (s : State) : Out := frame s openFrame

/-- REPLY_CAPTURE (R168, R174, R185). -/
def execReplyCapture (f : ReadFrame) (s : State) : Out := frame s (fun t => captureReply f (openFrame t))

end Sys2Proof.Machine
end

