-- ==== Sys2Proof/Machine/SettingCommands.lean ====
section
/-! DEFINITION. The meanings of the climate, budget, vehicle, configuration and power commands (R42, R46, R134, R135, R155, R171,
R172, R180). -/
namespace Sys2Proof.Machine

/-! ### Climate -/

/-- R134: SET HEAT. -/
def setHeatCommand (zone level : Nat) (_ : Base) (s : Seat) : Result × Did :=
  match zoneOfCode zone with
  | none => refuse .range s
  | some z => if 3 < level then refuse .range s else accept (setHeat s z level)

def execSetHeat (zone level : Nat) (s : State) : Out := comfort .plain (onSeat (setHeatCommand zone level)) s

/-- R135: SET FAN. -/
def setFanCommand (zone level : Nat) (b : Base) (s : Seat) : Result × Did :=
  match zoneOfCode zone with
  | none => refuse .range s
  | some z => if 3 < level then refuse .range s else accept (setFan b s z level)

def execSetFan (zone level : Nat) (s : State) : Out := comfort .plain (onSeat (setFanCommand zone level)) s

/-! ### Budget and vehicle -/

/-- R42: SET SUPPLY CEILING. -/
def setSupplyCeiling (ceiling : Nat) (_ : Base) (s : Seat) : Result × Did :=
  if 400 < ceiling then refuse .range s else accept (setCeiling s ceiling)

def execSetSupplyCeiling (ceiling : Nat) (s : State) : Out := comfort .plain (onSeat (setSupplyCeiling ceiling)) s

def withMonitor (s : State) (m : Monitor) : State := withBase s { s.base with monitor := m }

/-- R46: SET SUPPLY THRESHOLDS. -/
def setSupplyThresholds (low cutoff : Nat) (s : State) : Result × State :=
  if thresholdsValid low cutoff then (.accepted, withMonitor s (setThresholds s.base.monitor low cutoff)) else (.range, s)

def execSetSupplyThresholds (low cutoff : Nat) (s : State) : Out := comfort .plain (setSupplyThresholds low cutoff) s

/-- R171, R24: a learn run in progress ends ABORTED. -/
def endLearn (b : Base) (a : Axis) (s : Seat) : Did :=
  if (axisOf s a).learn ≠ .none then endMove b s a .aborted false else done s

/-- R171: SET VEHICLE STATE. -/
def setVehicleState (value : Nat) (s : State) : Result × State :=
  match vehicleOfCode value with
  | none => (.range, s)
  | some v =>
    let s1 := withLink s { s.base.link with vehicle := v }
    if v = .moving ∧ s.base.link.vehicle = .parked then
      (.accepted, actOn s1 (forEach (presentIn s.base.fit axisOrder) (endLearn s1.base) s1.seat))
    else (.accepted, s1)

def execSetVehicleState (value : Nat) (s : State) : Out := comfort .plain (setVehicleState value) s

/-- R155: UNLOCK BRACE. -/
def unlockBrace (b : Base) (s : Seat) : Result × Did :=
  if s.brace.mode ≠ .locked then refuse .state s
  else if b.link.vehicle = .moving then refuse .state s
  else accept (unlock b s)

def execUnlockBrace (s : State) : Out := comfort .lockTaken (onSeat unlockBrace) s

/-! ### Configuration (R172) -/

/-- R133: a Step-down time at or below the time counted steps the zone down. -/
def stepDownIfDue (b : Base) (s : Seat) (z : Zone) : Did :=
  if stepDownDue (b.cfg.zone.get z) (zoneOf s z) then stepDown s z else done s

/-- R43: what a Fan claim of a level, as now written, calls for; zone C raises its claim first (notes/assumptions/76.md). -/
def fanClaimWritten (b : Base) (s : Seat) (level : Nat) : Did :=
  let y := changeFanAmount b.cfg s level
  if level = 0 then andThen y (fun t => forEach zoneOrder (fun z u => levelZeroClaim b u z) t) else y

/-- R2, R43, R117, R133: what an accepted value calls for at once. The settings of `b` already hold it. -/
def itemEffect (item index value : Nat) (b : Base) (s : Seat) : Did :=
  match item with
  | 0x01 =>
    match presentAxis b.fit index with
    | some a => changeAmount s (.axis a) value
    | none => done s
  | 0x21 => (s, [.pass])
  | 0x22 => (s, [.pass])
  | 0x25 => fanClaimWritten b s index
  | 0x26 => changeAmount s .compressor value
  | 0x44 => (s, [.engineRetry])
  | 0x57 =>
    match zoneOfCode index with
    | some z => stepDownIfDue b s z
    | none => done s
  | _ => done s

/-- R172: an accepted value takes effect, then the configuration record is queued. -/
def acceptItem (s : State) (c : Settings) (item index value : Nat) : State :=
  let s1 := withBase s { s.base with cfg := c }
  let s2 := actOn s1 (itemEffect item index value s1.base s1.seat)
  withSeat s2 (queueWrite s2.seat (.configuration c))

/-- R172: WRITE CONFIG. -/
def writeConfig (item index value second : Nat) (s : State) : Result × State :=
  match writeItem s.base.fit s.base.cfg item index value second with
  | none => (.range, s)
  | some c =>
    if refusesLinkWrite s.seat.store (.configuration c) then (.busy, s) else (.accepted, acceptItem s c item index value)

def execWriteConfig (item index value second : Nat) (s : State) : Out :=
  comfort .plain (writeConfig item index value second) s

/-! ### Power -/

/-- R180: PARK. In PARKING it is ACCEPTED whatever would give BUSY, RELEASING included (notes/assumptions/68.md), and it changes
nothing, the vehicle state of R171 included (the model's choice, notes/assumptions/75.md). -/
def park (s : State) : Result × State :=
  if parkBusy s.base s.seat ∧ s.base.power ≠ .parking then (.busy, s)
  else if s.base.power = .parking then (.accepted, s)
  else (.accepted, acceptPark s)

def execPark (s : State) : Out := comfort .lockTaken park s

/-- R172, R183: RESET; when it is taken the warm reset begins, after the frame has ended. -/
def execReset (s : State) : Out :=
  frame s (fun t =>
    if passes t.seat.brace.mode .plain then beginDrain (closeFrame (openFrame t) .accepted [])
    else closeFrame (openFrame t) .restricted [])

end Sys2Proof.Machine
end

