-- ==== Sys2Proof/Machine/Dispatch.lean ====
section
/-! DEFINITION. One arm per command: the direct call of its meaning. -/
namespace Sys2Proof.Machine

def exec (i : Instr) (s : State) : Host.Outcome State Fault Refusal :=
  match i with
  | .readStatus => Sys2Proof.Machine.execReadStatus s
  | .readAxis axis => Sys2Proof.Machine.execReadAxis axis s
  | .readAllocation => Sys2Proof.Machine.execReadAllocation s
  | .readGallery => Sys2Proof.Machine.execReadGallery s
  | .readBladder bladder => Sys2Proof.Machine.execReadBladder bladder s
  | .readMassage => Sys2Proof.Machine.execReadMassage s
  | .readClimate => Sys2Proof.Machine.execReadClimate s
  | .readBrace => Sys2Proof.Machine.execReadBrace s
  | .readProfile slot => Sys2Proof.Machine.execReadProfile slot s
  | .readRecall => Sys2Proof.Machine.execReadRecall s
  | .readConfig item index => Sys2Proof.Machine.execReadConfig item index s
  | .readNotice => Sys2Proof.Machine.execReadNotice s
  | .moveAxisTo axis target => Sys2Proof.Machine.execMoveAxisTo axis target s
  | .jogAxis axis direction duration => Sys2Proof.Machine.execJogAxis axis direction duration s
  | .stopAxis axis => Sys2Proof.Machine.execStopAxis axis s
  | .stopAll => Sys2Proof.Machine.execStopAll s
  | .learnAxis axis => Sys2Proof.Machine.execLearnAxis axis s
  | .clearAxisFault axis => Sys2Proof.Machine.execClearAxisFault axis s
  | .storeProfile slot => Sys2Proof.Machine.execStoreProfile slot s
  | .recallProfile slot => Sys2Proof.Machine.execRecallProfile slot s
  | .eraseProfile slot => Sys2Proof.Machine.execEraseProfile slot s
  | .doorExit => Sys2Proof.Machine.execDoorExit s
  | .doorEntry => Sys2Proof.Machine.execDoorEntry s
  | .setSupport bladder target => Sys2Proof.Machine.execSetSupport bladder target s
  | .lumbarAdjust step => Sys2Proof.Machine.execLumbarAdjust step s
  | .clearGalleryFault => Sys2Proof.Machine.execClearGalleryFault s
  | .loadPatternBegin pattern count => Sys2Proof.Machine.execLoadPatternBegin pattern count s
  | .loadPatternSteps count steps => Sys2Proof.Machine.execLoadPatternSteps count steps s
  | .loadPatternEnd pattern => Sys2Proof.Machine.execLoadPatternEnd pattern s
  | .startMassage pattern intensity speed => Sys2Proof.Machine.execStartMassage pattern intensity speed s
  | .setMassage intensity speed => Sys2Proof.Machine.execSetMassage intensity speed s
  | .stopMassage => Sys2Proof.Machine.execStopMassage s
  | .setHeat zone level => Sys2Proof.Machine.execSetHeat zone level s
  | .setFan zone level => Sys2Proof.Machine.execSetFan zone level s
  | .setSupplyCeiling ceiling => Sys2Proof.Machine.execSetSupplyCeiling ceiling s
  | .setSupplyThresholds low cutoff => Sys2Proof.Machine.execSetSupplyThresholds low cutoff s
  | .setVehicleState value => Sys2Proof.Machine.execSetVehicleState value s
  | .unlockBrace => Sys2Proof.Machine.execUnlockBrace s
  | .writeConfig item index value second => Sys2Proof.Machine.execWriteConfig item index value second s
  | .park => Sys2Proof.Machine.execPark s
  | .reset => Sys2Proof.Machine.execReset s
  | .comfortFrameLength => Sys2Proof.Machine.execComfortFrameLength s
  | .unknownCommand code => Sys2Proof.Machine.execUnknownCommand code s
  | .chipSelectWake => Sys2Proof.Machine.execChipSelectWake s
  | .statusQuery => Sys2Proof.Machine.execStatusQuery s
  | .brace grade => Sys2Proof.Machine.execBrace grade s
  | .hold => Sys2Proof.Machine.execHold s
  | .standDown => Sys2Proof.Machine.execStandDown s
  | .crash kind => Sys2Proof.Machine.execCrash kind s
  | .safetyFrameRefused command argument => Sys2Proof.Machine.execSafetyFrameRefused command argument s
  | .safetyFrameDrop cause => Sys2Proof.Machine.execSafetyFrameDrop cause s
  | .safetyGapTimeout => Sys2Proof.Machine.execSafetyGapTimeout s
  | .safetySymbolTimeout => Sys2Proof.Machine.execSafetySymbolTimeout s
  | .safetySymbolTooLong => Sys2Proof.Machine.execSafetySymbolTooLong s
  | .safetyReplyStart => Sys2Proof.Machine.execSafetyReplyStart s
  | .safetyReplySent => Sys2Proof.Machine.execSafetyReplySent s
  | .safetyCollision => Sys2Proof.Machine.execSafetyCollision s
  | .lineStuck => Sys2Proof.Machine.execLineStuck s
  | .lineStuckCleared => Sys2Proof.Machine.execLineStuckCleared s
  | .safetyLineWake => Sys2Proof.Machine.execSafetyLineWake s
  | .acceptedPulse axis => Sys2Proof.Machine.execAcceptedPulse axis s
  | .rejectedLow axis => Sys2Proof.Machine.execRejectedLow axis s
  | .stall axis => Sys2Proof.Machine.execStall axis s
  | .coastWindowEnd axis => Sys2Proof.Machine.execCoastWindowEnd axis s
  | .overcurrentBlankingEnd axis => Sys2Proof.Machine.execOvercurrentBlankingEnd axis s
  | .overcurrent axis => Sys2Proof.Machine.execOvercurrent axis s
  | .jogExpiry axis => Sys2Proof.Machine.execJogExpiry axis s
  | .staggerWindowEnd => Sys2Proof.Machine.execStaggerWindowEnd s
  | .bracePoint => Sys2Proof.Machine.execBracePoint s
  | .monitorSample millivolts => Sys2Proof.Machine.execMonitorSample millivolts s
  | .thresholdSettleEnd => Sys2Proof.Machine.execThresholdSettleEnd s
  | .axisContactPress axis dir => Sys2Proof.Machine.execAxisContactPress axis dir s
  | .axisContactRelease axis dir => Sys2Proof.Machine.execAxisContactRelease axis dir s
  | .keyPress key => Sys2Proof.Machine.execKeyPress key s
  | .keyRelease key => Sys2Proof.Machine.execKeyRelease key s
  | .keyRearm key => Sys2Proof.Machine.execKeyRearm key s
  | .storeWindowEnd => Sys2Proof.Machine.execStoreWindowEnd s
  | .lumbarContactPress contact => Sys2Proof.Machine.execLumbarContactPress contact s
  | .lumbarContactRelease contact => Sys2Proof.Machine.execLumbarContactRelease contact s
  | .switchStuck contact => Sys2Proof.Machine.execSwitchStuck contact s
  | .recallTimeout => Sys2Proof.Machine.execRecallTimeout s
  | .burstEnd => Sys2Proof.Machine.execBurstEnd s
  | .settleEnd => Sys2Proof.Machine.execSettleEnd s
  | .pressureReading code => Sys2Proof.Machine.execPressureReading code s
  | .compressorWaitExpiry => Sys2Proof.Machine.execCompressorWaitExpiry s
  | .massageHoldEnd => Sys2Proof.Machine.execMassageHoldEnd s
  | .cycleRestEnd => Sys2Proof.Machine.execCycleRestEnd s
  | .sessionExpiry => Sys2Proof.Machine.execSessionExpiry s
  | .heatSample zone code => Sys2Proof.Machine.execHeatSample zone code s
  | .heatStepdown zone => Sys2Proof.Machine.execHeatStepdown zone s
  | .holdTimerExpiry => Sys2Proof.Machine.execHoldTimerExpiry s
  | .storeWriteComplete => Sys2Proof.Machine.execStoreWriteComplete s
  | .wakeIntervalInstant closed millivolts => Sys2Proof.Machine.execWakeIntervalInstant closed millivolts s
  | .powerOnReset fit lineHigh => Sys2Proof.Machine.execPowerOnReset fit lineHigh s
  | .resetPin => Sys2Proof.Machine.execResetPin s
  | .warmResetDrainEnd lineHigh => Sys2Proof.Machine.execWarmResetDrainEnd lineHigh s
  | .hallSample axis high => Sys2Proof.Machine.execHallSample axis high s
  | .safetyLineEdge rising micros => Sys2Proof.Machine.execSafetyLineEdge rising micros s
  | .replySymbolEnd => Sys2Proof.Machine.execReplySymbolEnd s
  | .replyCapture frame => Sys2Proof.Machine.execReplyCapture frame s
  | .contactLevelChange contact closed => Sys2Proof.Machine.execContactLevelChange contact closed s
  | .comparatorAssertionChange axis asserted => Sys2Proof.Machine.execComparatorAssertionChange axis asserted s
  | .powerLoss => Sys2Proof.Machine.execPowerLoss s

end Sys2Proof.Machine
end

