-- ==== Sys2Proof/Safety.lean ====
section
/-! DEFINITION. What counts as a lawful state, in the terms the claims use: the notice queue (R173), the store queue (R177), the
claim list (R28), the outputs of the axes (1.5), the supply monitor (R44, R45), the safety line (R159 to R165). -/
namespace Sys2Proof.Machine

/-! ### Notices (R173) -/

/-- Two entries of the queue are for the same kind and subject. -/
def sameKey (x y : Notice) : Prop := x.kind = y.kind ∧ x.subject = y.subject

/-- At most 16 entries, no two of one kind and subject, every count 1 to 255; notices-lost only beside a waiting entry. -/
structure NoticesLawful (n : Notices) : Prop where
  room : n.queue.length ≤ noticeRoom
  distinct : n.queue.Pairwise (fun x y => ¬ sameKey x y)
  counted : ∀ x ∈ n.queue, 1 ≤ x.count ∧ x.count ≤ 255
  lost : n.lost = true → n.queue ≠ []

/-! ### Store queue (R177) -/

/-- At most one entry per record, and none waits while no write is in flight. -/
structure StoreLawful (q : StoreQueue) : Prop where
  distinct : q.queue.Pairwise (fun x y => sameRecord x y = false)
  busy : q.inFlight = none → q.queue = []

/-! ### Claims (R28, R36, R40) -/

def isFan (c : Consumer) : Bool :=
  match c with
  | .fan _ => true
  | _ => false

/-- The claim list stands in the order of R28, holds one claim per consumer, as the granted set does; only a fan has a pending
claim (its upgrade, R40) beside a granted one. -/
structure ClaimsLawful (al : Alloc) : Prop where
  ordered : al.pending.Pairwise (fun x y => ahead x y = true)
  onePending : (al.pending.map Claim.consumer).Nodup
  oneGranted : (al.granted.map (fun g => g.claim.consumer)).Nodup
  notBoth : ∀ c, isFan c = false → isPending al c = true → isGranted al c = false

/-! ### Axis outputs (the table of 1.5, R11, R12, R19) -/

/-- The bridge that the drive state allows: driven in DRIVING alone, in the direction last driven; braked in COASTING alone. -/
def bridgeAllowed (x : AxisState) : Prop :=
  match x.drive with
  | .driving => x.bridge = drivenBridge x.driveDir
  | .coasting => x.bridge = .braked ∨ x.bridge = .released
  | _ => x.bridge = .released

/-- The bridge is as the drive state allows, the stall timer runs in DRIVING alone, and so do blanking and overcurrent. -/
structure AxisLawful (x : AxisState) : Prop where
  bridge : bridgeAllowed x
  stall : x.stallLeft.isSome = true ↔ x.drive = .driving
  blanking : x.blankLeft.isSome = true → x.drive = .driving
  measured : x.overcurrentLeft.isSome = true → x.drive = .driving

def AxesLawful (s : Seat) : Prop := ∀ a, AxisLawful (axisOf s a)

/-! ### Supply monitor (R44, R45) -/

/-- At most 8 samples of at most 20000 mV, an average of them, and run counts of at most 4. -/
structure MonitorLawful (m : Monitor) : Prop where
  window : m.window.length ≤ 8
  samples : ∀ v ∈ m.window, v ≤ 20000
  average : m.v ≤ 20000
  counts : m.belowLow ≤ 4 ∧ m.belowCutoff ≤ 4 ∧ m.clearLow ≤ 4 ∧ m.clearCutoff ≤ 4

/-! ### Safety line (R159 to R165) -/

/-- STUCK only with the flag set; the part pulls the line low only in REPLY, before the eighth symbol is sent, for the time of
its symbol; at most sixteen symbols, fewer while they are received; W in its range. -/
structure LineLawful (l : SafetyLine) : Prop where
  stuck : l.receiver = .stuck → l.stuck = true
  driving : ∀ n ∈ l.driving, l.receiver = .reply ∧ l.replyIndex < 8 ∧ n = replyLow l
  index : l.replyIndex ≤ 8
  symbols : l.symbols.length ≤ 16
  receiving : l.receiver = .symbols → l.symbols.length < 16
  calibration : ∀ w ∈ l.w, 100 ≤ w ∧ w ≤ 400

/-! ### Shapes that the claims name -/

/-- The part works: RUN or PARKING. -/
abbrev Works (s : State) : Prop := running s.base.power = true

/-- The state after a comfort frame that was taken or refused: what the command did is carried out, and the frame ends. -/
def answered (s : State) (r : Result) (y : Did) : State := closeFrame (actOn (openFrame s) y) r []

/-- The state after a comfort frame that changes nothing but the link: its result, and the header it showed. -/
def refused (s : State) (r : Result) : State := closeFrame (openFrame s) r []

/-- The commands that a frame of the comfort link carries, with the way each passes the restricted mode (R170). -/
def commandClass (i : Instr) : Option CommandClass :=
  match i with
  | .moveAxisTo _ _ => some .motion
  | .jogAxis _ _ _ => some .motion
  | .stopAxis _ => some .motion
  | .stopAll => some .motion
  | .learnAxis _ => some .motion
  | .clearAxisFault _ => some .clearFault
  | .storeProfile _ => some .plain
  | .recallProfile _ => some .motion
  | .eraseProfile _ => some .plain
  | .doorExit => some .motion
  | .doorEntry => some .motion
  | .setSupport _ _ => some .plain
  | .lumbarAdjust _ => some .motion
  | .clearGalleryFault => some .plain
  | .loadPatternBegin _ _ => some .plain
  | .loadPatternSteps _ _ => some .plain
  | .startMassage _ _ _ => some .plain
  | .setMassage _ _ => some .plain
  | .stopMassage => some .plain
  | .setHeat _ _ => some .plain
  | .setFan _ _ => some .plain
  | .setSupplyCeiling _ => some .plain
  | .setSupplyThresholds _ _ => some .plain
  | .setVehicleState _ => some .plain
  | .unlockBrace => some .lockTaken
  | .writeConfig _ _ _ _ => some .plain
  | .park => some .lockTaken
  | _ => none

/-- The command whose frame captures a reply (R168, R185). -/
def readCommand (f : ReadFrame) : Instr :=
  match f with
  | .status => .readStatus
  | .axis n => .readAxis n
  | .allocation => .readAllocation
  | .gallery => .readGallery
  | .bladder n => .readBladder n
  | .massage => .readMassage
  | .climate => .readClimate
  | .brace => .readBrace
  | .profile n => .readProfile n
  | .recall => .readRecall
  | .config item index => .readConfig item index
  | .notice => .readNotice
  | .patternEnd n => .loadPatternEnd n

/-- What comes with a period of chip-select: a command that passes the restricted mode or not, a read, RESET, a frame that is
not taken, a reply captured, or the falling edge itself. -/
def isFrame (i : Instr) : Bool :=
  match i with
  | .readStatus => true
  | .readAxis _ => true
  | .readAllocation => true
  | .readGallery => true
  | .readBladder _ => true
  | .readMassage => true
  | .readClimate => true
  | .readBrace => true
  | .readProfile _ => true
  | .readRecall => true
  | .readConfig _ _ => true
  | .readNotice => true
  | .loadPatternEnd _ => true
  | .reset => true
  | .comfortFrameLength => true
  | .unknownCommand _ => true
  | .chipSelectWake => true
  | .replyCapture _ => true
  | i => (commandClass i).isSome

end Sys2Proof.Machine
end

