-- ==== Sys2Proof/Certificates/Slice0/Obligations.lean ====
section
/-! DEFINITION. What is claimed of the part, one proposition per claim, in the order of OBLIGATIONS.json. A refused command is
stated as `refused s r`, a taken one as `answered s r y`, where `y` gives the seat that the command's act leaves and the hand-overs
that follow; an event as `actOn s y`. -/
open Sys2Proof Sys2Proof.Machine

/-! ### The machine -/

/-- A step takes the command at the front of the queue and runs exec on it, with the rest of the queue. -/
def Obligations.StepRunsFrontCommand : Prop :=
  ∀ (c : Instr) (rest : List Instr) (s : State), step (s.withPending (c :: rest)) = exec c (s.withPending rest)

/-- No command stops the part, and none touches the queue: exec answers a next state with the queue it found. -/
def Obligations.EveryCommandAnswersNext : Prop :=
  ∀ (i : Instr) (s : State), ∃ t, exec i s = .next t ∧ t.pending = s.pending

/-- The model's choice (notes/assumptions/1.md): a step on an empty queue is one millisecond, which moves timers alone. In RUN and
PARKING every timer that runs has one millisecond less left, and the time at level 3 has one more, up to its 60 min (R123); in PARKED
the wake timer and the re-arm timers run; a part that drains or has no supply stays as it is. Nothing else changes. -/
def Obligations.IdleStepMovesTimersOnly : Prop :=
  ∀ s : State, s.pending = [] →
    let less (t : Option Nat) : Option Nat := t.map (· - 1)
    let still (m : Move) : Move := { m with expiry := less m.expiry }
    let sc := s.seat.scanner
    let g := s.seat.gallery
    let e := s.seat.engine
    let rearm : PerKey (Option Nat) :=
      { mem1 := less sc.rearm.mem1, mem2 := less sc.rearm.mem2, mem3 := less sc.rearm.mem3, set4 := less sc.rearm.set4 }
    let monitor : Monitor :=
      { s.base.monitor with
        settleLeft := less s.base.monitor.settleLeft, sampleLeft := less s.base.monitor.sampleLeft }
    let bursts := g.state = .venting ∨ (g.state = .filling ∧ isGranted s.seat.alloc .compressor = true)
    let waits := g.state = .filling ∧ isGranted s.seat.alloc .compressor = false
    let brace : Brace := { s.seat.brace with holdLeft := less s.seat.brace.holdLeft }
    let shorter (w : Stagger) : Stagger := { w with left := w.left - 1 }
    let later (r : Recall) : Recall := { r with left := r.left - 1 }
    (Works s → ∃ t : Seat, step s = .next { s with base := { s.base with monitor := monitor }, seat := t } ∧
      (∀ a, let x := axisOf s.seat a
        let pending : Option Pending := x.pending.map (fun p => { p with move := still p.move })
        axisOf t a =
          { x with
            stallLeft := less x.stallLeft, coastLeft := less x.coastLeft, blankLeft := less x.blankLeft,
            overcurrentLeft := less x.overcurrentLeft, move := x.move.map still, pending := pending }) ∧
      (∀ c, let x := contactOf sc c
        contactOf t.scanner c = { x with debounce := less x.debounce, stuckLeft := less x.stuckLeft }) ∧
      (∀ z, let x := zoneOf s.seat z
        zoneOf t z =
          { x with
            sampleLeft := less x.sampleLeft, level3 := if x.heat = 3 then min 3600000 (x.level3 + 1) else x.level3 }) ∧
      t =
        { s.seat with
          axes := t.axes
          zones := t.zones
          alloc := { s.seat.alloc with stagger := s.seat.alloc.stagger.map shorter }
          scanner :=
            { sc with
              axes := t.scanner.axes, lumbar := t.scanner.lumbar, keys := t.scanner.keys, rearm := rearm, window := less sc.window }
          recallCtx := s.seat.recallCtx.map later
          gallery :=
            { g with
              burstLeft := if bursts then less g.burstLeft else g.burstLeft
              waitLeft := if waits then less g.waitLeft else g.waitLeft
              settleLeft := less g.settleLeft }
          engine :=
            { e with
              holdLeft := less e.holdLeft
              restLeft := less e.restLeft
              sessionLeft := if e.state = .running ∨ e.state = .paused then e.sessionLeft - 1 else e.sessionLeft }
          brace := brace }) ∧
    (s.base.power = .parked →
      let base : Base := { s.base with wakeLeft := less s.base.wakeLeft }
      step s = .next { s with base := base, seat := { s.seat with scanner := { sc with rearm := rearm } } }) ∧
    (s.base.power = .draining ∨ s.base.power = .off → step s = .next s)

/-! ### Invariants -/

/-- The state after reset satisfies every invariant below. -/
def Obligations.ResetIsLawful : Prop :=
  NoticesLawful State.reset.seat.notices ∧ StoreLawful State.reset.seat.store ∧ ClaimsLawful State.reset.seat.alloc ∧
    AxesLawful State.reset.seat ∧ MonitorLawful State.reset.base.monitor ∧ LineLawful State.reset.base.line

/-- R173: at most 16 notices, no two of one kind and subject, every count 1 to 255, notices-lost only beside a waiting one. -/
def Obligations.StepKeepsNoticesLawful : Prop :=
  ∀ s t : State, NoticesLawful s.seat.notices → step s = .next t → NoticesLawful t.seat.notices

/-- R177: at most one entry per record, and no entry waits while no write is in flight. -/
def Obligations.StepKeepsStoreLawful : Prop :=
  ∀ s t : State, StoreLawful s.seat.store → step s = .next t → StoreLawful t.seat.store

/-- R28 and the table of 1.5: the claim list stands in order with one claim per consumer, and the bridge, the stall timer
and the overcurrent watch of every axis are those of its drive state. -/
def Obligations.StepKeepsClaimsAndAxesLawful : Prop :=
  ∀ s t : State, ClaimsLawful s.seat.alloc ∧ AxesLawful s.seat → step s = .next t → ClaimsLawful t.seat.alloc ∧ AxesLawful t.seat

/-- R44, R45: the sample window, the averaged voltage and the run counts stay in their ranges. -/
def Obligations.StepKeepsMonitorLawful : Prop :=
  ∀ s t : State, MonitorLawful s.base.monitor → step s = .next t → MonitorLawful t.base.monitor

/-- R159 to R165: STUCK comes with its flag, the part pulls the line only in REPLY and for the low of its symbol, indices and W stay in
their ranges. -/
def Obligations.StepKeepsLineLawful : Prop :=
  ∀ s t : State, LineLawful s.base.line → step s = .next t → LineLawful t.base.line

/-! ### Frames of the comfort link -/

/-- 12.1.1: the fields of the status header, from bit 15 down. -/
def Obligations.StatusHeaderFields : Prop :=
  ∀ (b : Base) (s : Seat), let h := (statusHeader b s).toNat
    h / 8192 = modeCode s.brace.mode ∧ h / 2048 % 4 = monitorCode b.monitor.state ∧
    (h / 1024 % 2 = 1 ↔ b.power = .parking) ∧ (h / 512 % 2 = 1 ↔ s.brace.mode ≠ .idle) ∧
    (h / 256 % 2 = 1 ↔ s.notices.queue ≠ []) ∧ (h / 128 % 2 = 1 ↔ s.notices.lost = true) ∧
    h % 128 = resultCode b.link.lastResult

/-- R168, R169: a frame cut short and a frame of an unknown code give LENGTH and UNKNOWN, and change nothing but the link: the header was
captured when the frame began, and the notice that a cut READ NOTICE captured is let go, not removed.
R168, R181: a falling edge of chip-select begins a frame in RUN. In PARKED it wakes the part: the frame is not decoded, the last result is
kept, the contacts read closed are measured from the wake, and with no claim of a fan at level 0 to raise or release the blocks take up
RUN as they stood. A part that drains or has no supply ignores every frame. That the contacts known to be closed are measured from this
wake is the model's reading (notes/assumptions/57.md); that a part without supply ignores every frame is its choice
(notes/assumptions/10.md), and so is that a safety frame which the park cut off leaves the last frame record as it was
(notes/assumptions/70.md). -/
def Obligations.FramesAreBegunCutAndNotTaken : Prop :=
  (∀ (s : State) (code : Nat), Works s →
      let link (r : Result) : Link :=
        { lastResult := r, vehicle := s.base.link.vehicle,
          header := if s.base.link.begun then s.base.link.header else statusHeader s.base s.seat,
          begun := false, captured := none, reply := [] }
      let ends (r : Result) : State :=
        { s with base := { s.base with link := link r },
                 seat := { s.seat with notices := { s.seat.notices with captured := none } } }
      exec .comfortFrameLength s = .next (ends .length) ∧ exec (.unknownCommand code) s = .next (ends .unknown) ∧
        ∀ r, refused s r = ends r) ∧
  (∀ s : State,
      (Works s → exec .chipSelectWake s = .next (openFrame s)) ∧
      (∀ i, s.base.power = .parked → isFrame i = true →
        ∃ t, exec i s = .next t ∧ t.base.power = .run ∧ t.base.wakeLeft = none ∧
          t.base.link = { s.base.link with begun := false, captured := none } ∧
          t.base.cfg = s.base.cfg ∧ t.base.patterns = s.base.patterns ∧ t.base.records = s.base.records ∧
          (∀ a, (t.base.hall.get a).accepted = .unknown) ∧
          t.base.monitor = { s.base.monitor with sampleLeft := some s.base.cfg.monitorInterval } ∧
          t.base.line.w = s.base.line.w ∧ t.base.line.record = s.base.line.record ∧ t.base.line.stuck = s.base.line.stuck ∧
          (s.base.cfg.fanClaim.l0 = 0 → (∀ z, holdsClaim s.seat.alloc (.fan z) = false) →
            t.seat = { s.seat with
              axes := s.seat.axes.map (fun x => { x with dirty := .notMarked }),
              scanner := t.seat.scanner,
              zones := { c := { s.seat.zones.c with sampleLeft := some s.base.cfg.zone.c.heatPeriod },
                         b := { s.seat.zones.b with sampleLeft := some s.base.cfg.zone.b.heatPeriod } } } ∧
            t.seat.scanner = { s.seat.scanner with
              axes := t.seat.scanner.axes, lumbar := t.seat.scanner.lumbar, keys := t.seat.scanner.keys } ∧
            ∀ c, let x := contactOf s.seat.scanner c
              contactOf t.seat.scanner c =
                if contactPresent s.base.fit c = true ∧ x.closed = true ∧ x.cond ≠ some .stuck then
                  { x with debounce := some s.base.cfg.debounce }
                else x)) ∧
      (∀ i, s.base.power = .draining ∨ s.base.power = .off → isFrame i = true → exec i s = .next s))

/-- R168, R169, R172, R49, R64, R69, R105, R121, R137, R157: a read captures its reply from the state as it stands and
gets ACCEPTED, or RANGE with a reply of zeros for a selector that names nothing; it changes nothing but the link. A reply that the
frame has already captured is the one shifted out. -/
def Obligations.ReadsAnswer : Prop :=
  ∀ (s : State) (f : ReadFrame), Works s → f ≠ .notice → (∀ p, f ≠ .patternEnd p) →
    (s.base.link.begun = false →
      exec (readCommand f) s =
        .next (closeFrame (openFrame s) (if (replyOf f s.base s.seat).isSome then .accepted else .range)
          ((replyOf f s.base s.seat).getD (List.replicate (replyLength f) 0)))) ∧
    (∀ bytes, s.base.link.begun = true → s.base.link.captured = some (f, bytes) →
      exec (readCommand f) s =
        .next (closeFrame s (if (replyOf f s.base s.seat).isSome then .accepted else .range) bytes))

/-- 12.1.2: every reply has the length of its command, and a selector that names nothing gives no reply.
R184 with R172, R49, R105, R121, R137, R157, R64, R69: the first fields of each reply, what it reads with no recall and with no
operation in flight, and the axis actions of a BASIC part's absent axes. Places and codings that R184 leaves to be read from the rules are
the model's reading (notes/assumptions/28.md), as is what absent records and absent axes read (notes/assumptions/29.md), both DEDUCED;
that the numbers among the nine bytes of no operation in flight have no presence byte of their own is a DESIGN CHOICE
(notes/assumptions/60.md), and so are the byte that says whether a recall is there (notes/assumptions/61.md) and a yes read as 1
(notes/assumptions/71.md). -/
def Obligations.RepliesHaveTheirFields : Prop :=
  (∀ (f : ReadFrame) (b : Base) (s : Seat), (replyBytes f b s).length = replyLength f ∧
      (∀ n, 6 ≤ n → replyOf (.axis n) b s = none) ∧ (b.fit = .basic → replyOf (.axis 4) b s = none ∧ replyOf (.axis 5) b s = none) ∧
      (∀ n, 14 ≤ n → replyOf (.bladder n) b s = none) ∧ (∀ n, 6 ≤ n → replyOf (.profile n) b s = none)) ∧
  (∀ (b : Base) (s : Seat) (a : Axis) (x : Bladder) (k : Slot),
      (statusReply b s).take 5 =
        [toByte (powerCode b.power), toByte (vehicleCode b.link.vehicle), toByte (fitCode b.fit),
         toByte (modeCode s.brace.mode), toByte (monitorCode b.monitor.state)] ∧
      (axisReply b s a).take 2 = [toByte ((axisOf s a).position / 256), toByte (axisOf s a).position] ∧
      (allocationReply b s).take 6 =
        [toByte (s.alloc.cSet / 256), toByte s.alloc.cSet, toByte (s.alloc.ceiling / 256), toByte s.alloc.ceiling,
         toByte (grantedSum s.alloc.granted / 256), toByte (grantedSum s.alloc.granted)] ∧
      (galleryReply b s).take 3 =
        [toByte (galleryCode s.gallery.state), toByte b.cfg.queueLimit, toByte s.gallery.queue.length] ∧
      (bladderReply s x).take 3 =
        (match (bladderOf s.gallery x).measured with
         | some p => [1, toByte (p / 256), toByte p]
         | none => [0, 0, 0]) ∧
      (massageReply b s).take 1 = [toByte (engineCode s.engine.state)] ∧
      (climateReply s).take 2 = [toByte s.zones.c.heat, toByte s.zones.c.fan] ∧
      (braceReply b s).take 2 = [toByte (modeCode s.brace.mode), toByte s.brace.grade] ∧
      (profileReply b s k).take 1 = [if (s.profiles.get k).valid then 1 else 0] ∧
      (recallReply b s).take 1 = [if s.recallCtx.isSome then 1 else 0] ∧
      (s.recallCtx = none → (recallReply b s).take 7 = [0, 0xFF, 0xFF, 0, 0xFF, 0xFF, 0xFF]) ∧
      (s.gallery.inFlight = none → ((galleryReply b s).drop 3).take 9 = [0xFF, 0xFF, 0, 0, 0xFF, 0, 0xFF, 0, 0]) ∧
      (b.fit = .basic → ((braceReply b s).drop 13).take 2 = [0xFF, 0xFF]))

/-- 12.1.2, R172: READ CONFIG returns what WRITE CONFIG wrote: the value, and for a pair item the second value.
12.1.2, R2, R43, R51, R63, R89, R108, R124, R139, R172, R179: the ranges of the configuration items, by which WRITE CONFIG takes a
value or refuses it, and that a value taken changes its own item alone. An axis item names a present axis, a zone item a zone, a fan
item a level, and a breakpoint its place, where it stays strictly below the code before it and above the code after it, with
temperatures that do not fall. -/
def Obligations.ConfigurationItemsAreWrittenAndRead : Prop :=
  (∀ (f : Fitment) (c d : Settings) (item index v w : Nat), c.ntc.length = 9 → writeItem f c item index v w = some d →
      readItem f d item index = some (toWord v, if item = 0x10 ∨ item = 0x59 then toWord w else 0)) ∧
  (∀ (f : Fitment) (c : Settings) (item index v w : Nat), c.ntc.length = 9 → v < 65536 → w < 65536 →
      let stepped (lo hi n : Nat) : Prop := lo ≤ v ∧ v ≤ hi ∧ v % n = 0
      let temp : Int := if w < 32768 then (w : Int) else (w : Int) - 65536
      let axisTakes : Prop := match item with
        | 0x01 => 10 ≤ v ∧ v ≤ 200
        | 0x02 => v = 0 ∨ v = 1
        | 0x03 => stepped 0 250 10
        | 0x04 => stepped 40 500 10
        | 0x05 => stepped 0 250 10
        | 0x06 => v ≤ 255
        | 0x07 => v ≤ 127
        | 0x08 => v ≤ 2000
        | 0x09 => 200 ≤ v ∧ v ≤ 8000
        | 0x0A => v ≤ 15
        | 0x0B => v ≤ 63
        | 0x0C => v ≤ 255
        | 0x0D => v = 16 ∨ v = 32 ∨ v = 64 ∨ v = 128
        | 0x0E => 50 ≤ v ∧ v ≤ 1000
        | 0x0F => v = 0 ∨ v = 1 ∨ v = 2
        | 0x10 => v ≤ w ∧ w ≤ 16383
        | 0x11 => v = 0 ∨ v = 1
        | _ => False
      let zoneTakes : Prop := match item with
        | 0x50 => 1000 ≤ v ∧ v ≤ 10000
        | 0x51 | 0x52 | 0x53 => 20 ≤ v ∧ v ≤ 118
        | 0x54 | 0x55 => v ≤ 15
        | 0x56 => stepped 100 1000 10
        | 0x57 => v ≤ 60
        | _ => False
      let partTakes : Prop := match item with
        | 0x20 | 0x22 => v ≤ 400
        | 0x21 => 1 ≤ v ∧ v ≤ 8
        | 0x23 | 0x24 => stepped 0 250 10
        | 0x25 => index ≤ 3 ∧ v ≤ 40
        | 0x26 => 10 ≤ v ∧ v ≤ 100
        | 0x27 => v = 1 ∨ v = 2 ∨ v = 4 ∨ v = 8
        | 0x30 => 5 ≤ v ∧ v ≤ 40
        | 0x31 => 10 ≤ v ∧ v ≤ 60
        | 0x38 | 0x49 => 5 ≤ v ∧ v ≤ 30
        | 0x39 => v ≤ 4000
        | 0x40 => v ≤ 31
        | 0x41 => stepped 100 1000 50
        | 0x42 => stepped 50 500 10
        | 0x43 => 1 ≤ v ∧ v ≤ 30
        | 0x44 => 4 ≤ v ∧ v ≤ 16
        | 0x48 => 100 ≤ v ∧ v ≤ 900
        | 0x58 => index ≤ 3 ∧ v ≤ 255
        | 0x59 =>
          1 ≤ index ∧ index ≤ 9 ∧ 16 ≤ v ∧ v ≤ 4079 ∧ -80 ≤ temp ∧ temp ≤ 250 ∧
            (∀ p, 2 ≤ index → c.ntc[index - 2]? = some p → v < p.code ∧ p.temp ≤ temp) ∧
            ∀ p, c.ntc[index]? = some p → p.code < v ∧ temp ≤ p.temp
        | 0x60 => 1 ≤ v ∧ v ≤ 10
        | 0x68 => v = 10 ∨ v = 20 ∨ v = 40 ∨ v = 80
        | _ => False
      let indexed : Prop := (0x01 ≤ item ∧ item ≤ 0x11) ∨ (0x50 ≤ item ∧ item ≤ 0x59) ∨ item = 0x25
      (writeItem f c item index v w ≠ none ↔
        ((∃ a, present f a = true ∧ index = axisCode a) ∧ axisTakes) ∨ (index ≤ 1 ∧ zoneTakes) ∨ partTakes) ∧
      ∀ d, writeItem f c item index v w = some d →
        (∀ other k, other ≠ item ∨ (indexed ∧ k ≠ index) → readItem f d other k = readItem f c other k) ∧
        (∀ a, ¬ ((0x01 ≤ item ∧ item ≤ 0x11) ∧ index = axisCode a) → d.axis.get a = c.axis.get a) ∧
        (∀ z, ¬ ((0x50 ≤ item ∧ item ≤ 0x57) ∧ ((index = 0 ∧ z = Zone.c) ∨ (index = 1 ∧ z = Zone.b))) → d.zone.get z = c.zone.get z) ∧
        d.ntc.length = c.ntc.length)

/-- R168, R174, R185: at the last argument byte of a reading frame its reply is captured, READ NOTICE capturing the oldest
entry as well. Nothing else changes. -/
def Obligations.ReplyCaptureHoldsTheReply : Prop :=
  ∀ (s : State) (f : ReadFrame), Works s →
    let t := openFrame s
    let entry : Option NoticeCapture :=
      s.seat.notices.queue.head?.map (fun n => { kind := n.kind, subject := n.subject, count := n.count, coalesced := false })
    exec (.replyCapture f) s =
      .next { t with
        base := { t.base with link := { t.base.link with captured := some (f, replyBytes f s.base s.seat) } },
        seat := if f = .notice then { s.seat with notices := { s.seat.notices with captured := entry } } else s.seat }

/-- R173: a notice coalesces with the entry of its kind and subject, enters at the back of a queue with room, or is dropped with
notices-lost set.
R174: READ NOTICE reads the oldest entry and, its frame complete, removes it; an entry that a notice coalesced into
after the capture stays, with the rest of its count, not below 1; an empty queue is answered too. -/
def Obligations.NoticesCoalesceAndAreRead : Prop :=
  (∀ (n : Notices) (k : NoticeKind) (sub : Subject) (d : Word16),
      (∀ before x after, n.queue = before ++ x :: after → x.kind = k → x.subject = sub →
        (∀ y ∈ before ++ after, ¬ (y.kind = k ∧ y.subject = sub)) →
        (postTo n k sub d).queue = before ++ { x with detail := d, count := min 255 (x.count + 1) } :: after ∧
        (postTo n k sub d).lost = n.lost) ∧
      ((∀ y ∈ n.queue, ¬ (y.kind = k ∧ y.subject = sub)) → n.queue.length < 16 →
        postTo n k sub d = { n with queue := n.queue ++ [{ kind := k, subject := sub, detail := d, count := 1 }] }) ∧
      ((∀ y ∈ n.queue, ¬ (y.kind = k ∧ y.subject = sub)) → 16 ≤ n.queue.length →
        postTo n k sub d = { n with lost := true })) ∧
  (∀ s : State, Works s → NoticesLawful s.seat.notices →
      (s.base.link.begun = false → ∀ n rest, s.seat.notices.queue = n :: rest →
        exec .readNotice s =
          .next (closeFrame
            (withSeat (openFrame s)
              { s.seat with notices := { queue := rest, lost := if rest = [] then false else s.seat.notices.lost, captured := none } })
            .accepted
            [toByte (noticeCode n.kind), toByte (subjectCode n.subject), toByte (n.detail.toNat / 256), toByte n.detail.toNat,
             toByte n.count, toByte rest.length])) ∧
      (s.base.link.begun = false → s.seat.notices.queue = [] →
        exec .readNotice s = .next (closeFrame (openFrame s) .accepted [0xFF, 0, 0, 0, 0, 0])) ∧
      (∀ n rest bytes k again, s.seat.notices.queue = n :: rest → s.base.link.begun = true →
        s.base.link.captured = some (.notice, bytes) →
        s.seat.notices.captured = some { kind := n.kind, subject := n.subject, count := k, coalesced := again } →
        exec .readNotice s =
          .next (closeFrame
            (withSeat s { s.seat with notices :=
              { queue := if again then { n with count := max 1 (n.count - k) } :: rest else rest,
                lost := if again = false ∧ rest = [] then false else s.seat.notices.lost, captured := none } })
            .accepted bytes)))

/-- R170: what each brace state refuses with RESTRICTED. A refused command changes nothing but the link; LOAD PATTERN END still
shifts out its judgement (R185), and a refused RESET does nothing. -/
def Obligations.RestrictedModeRefuses : Prop :=
  ∀ (s : State) (i : Instr), Works s →
    (∀ k, commandClass i = some k →
      (s.seat.brace.mode = .bracing ∨ s.seat.brace.mode = .braced → exec i s = .next (refused s .restricted)) ∧
      (s.seat.brace.mode = .locked → k ≠ .clearFault → k ≠ .lockTaken → exec i s = .next (refused s .restricted)) ∧
      (s.seat.brace.mode = .releasing → k = .motion ∨ k = .clearFault → exec i s = .next (refused s .restricted))) ∧
    (s.seat.brace.mode = .bracing ∨ s.seat.brace.mode = .braced ∨ s.seat.brace.mode = .locked →
      exec .reset s = .next (refused s .restricted) ∧
      (∀ p, s.base.link.begun = false →
        exec (.loadPatternEnd p) s = .next (closeFrame (openFrame s) .restricted (patternEndReply s.base p))))

/-! ### Motion -/

/-- R21, R25, R71: MOVE AXIS TO, every answer in the brace state IDLE. The owner met is that of the pending move, else of the move in
progress (notes/assumptions/14.md); the order of the checks on a reserved axis is the model's (notes/assumptions/41.md), and so is the
direction of a move whose target is at or behind the position of an axis that drives, the other one (notes/assumptions/44.md). -/
def Obligations.MoveAxisToAnswers : Prop :=
  ∀ (s : State) (n target : Nat), Works s → s.seat.brace.mode = .idle →
    let i := Instr.moveAxisTo n target
    ((∀ a, present s.base.fit a = true → n ≠ axisCode a) → exec i s = .next (refused s .range)) ∧
    ∀ a, n = axisCode a → present s.base.fit a = true →
      let x := axisOf s.seat a
      let owner := ownerMet .idle x
      (reserved s.seat a = true → exec i s = .next (refused s .busy)) ∧
      (reserved s.seat a = false →
        (x.confidence = .unlearned → exec i s = .next (refused s .range)) ∧
        (x.confidence ≠ .unlearned →
          (x.drive = .fault → exec i s = .next (refused s .state)) ∧
          (x.drive ≠ .fault → owner = .manual ∨ owner = .recall ∨ owner = .learn → exec i s = .next (refused s .busy)) ∧
          (x.drive ≠ .fault → owner = .brace → exec i s = .next (refused s .restricted)) ∧
          (x.drive ≠ .fault → owner = .none ∨ owner = .link →
            exec i s = .next (answered s .accepted
              (takeMove s.base s.seat a .link (toTargetMove (s.base.cfg.axis.get a) x target))))))

/-- R21, R25, R71: JOG AXIS, every answer in the brace state IDLE. A LINK JOG in the same direction takes the new expiry alone, a pending
one too (notes/assumptions/13.md), but not one that coasts from its end (notes/assumptions/46.md); otherwise, on an axis of owner NONE
or LINK, a JOG of owner LINK with that expiry is taken. The owner met in a coast is that of the pending move, else of the move that
coasts (notes/assumptions/14.md), and the order of the checks on a reserved axis is the model's (notes/assumptions/41.md). -/
def Obligations.JogAxisAnswers : Prop :=
  ∀ (s : State) (n direction ms : Nat), Works s → s.seat.brace.mode = .idle →
    let i := Instr.jogAxis n direction ms
    ((∀ a, present s.base.fit a = true → n ≠ axisCode a) ∨ 2 ≤ direction ∨ ms < 50 ∨ 500 < ms →
      exec i s = .next (refused s .range)) ∧
    ∀ a d, n = axisCode a → present s.base.fit a = true → direction = dirCode d → 50 ≤ ms → ms ≤ 500 →
      let x := axisOf s.seat a
      let owner := ownerMet .idle x
      let taken := exec i s = .next (answered s .accepted
        (takeMove s.base s.seat a .link { kind := .jog, dir := d, expiry := some ms }))
      (reserved s.seat a = true → exec i s = .next (refused s .busy)) ∧
      (reserved s.seat a = false →
        (x.drive = .fault → exec i s = .next (refused s .state)) ∧
        (x.drive ≠ .fault →
          (owner = .manual ∨ owner = .recall ∨ owner = .learn → exec i s = .next (refused s .busy)) ∧
          (owner = .brace → exec i s = .next (refused s .restricted)) ∧
          (owner = .none → taken) ∧
          (∀ p, x.pending = some p → p.owner = .link →
            (p.move.kind = .jog ∧ p.move.dir = d →
              let y : AxisState := { x with pending := some { p with move := { p.move with expiry := some ms } } }
              exec i s = .next (answered s .accepted ({ s.seat with axes := s.seat.axes.set a y }, []))) ∧
            (p.move.kind ≠ .jog ∨ p.move.dir ≠ d → taken)) ∧
          (∀ m, x.pending = none → x.owner = .link → x.move = some m →
            (m.kind = .jog ∧ m.dir = d → x.drive ≠ .coasting ∨ x.cause = some .shed →
              let y : AxisState := { x with move := some { m with expiry := some ms } }
              exec i s = .next (answered s .accepted ({ s.seat with axes := s.seat.axes.set a y }, []))) ∧
            (m.kind ≠ .jog ∨ m.dir ≠ d ∨ (x.drive = .coasting ∧ x.cause ≠ some .shed) → taken)) ∧
          (x.pending = none → x.owner = .link → x.move = none → taken)))

/-- R22, R56, R81: STOP AXIS and STOP ALL. A move of MANUAL, LINK, RECALL or LEARN ends ABORTED under R17 (a recall move is reported to
its recall); a contact whose manual move was stopped is HELD_OFF; an axis that its recall has not yet moved records ABORTED. STOP ALL
aborts a running recall with outcome STOPPED, then ends the moves of the other owners, on any number of axes. Both commands get ACCEPTED
when there is nothing to stop. The owner that a stop meets on an axis that coasts, that of the pending move, else of the move that coasts,
is the model's reading (notes/assumptions/14.md), and so are that the contact is HELD_OFF at once and not at the end of the coast
(notes/assumptions/15.md), and that all moves of one STOP ALL are ended before the passes that they call for (notes/assumptions/5.md). -/
def Obligations.StopCommandsEndMoves : Prop :=
  ∀ (s : State) (n : Nat), Works s → s.seat.brace.mode = .idle →
    let ended (t : Seat) (a : Axis) : Did :=
      let owner := ownerMet .idle (axisOf t a)
      if owner = .manual then endMove s.base (holdOff (holdOff t (.axis a .up)) (.axis a .down)) a .aborted false
      else if owner = .link ∨ owner = .learn then endMove s.base t a .aborted false
      else (t, [])
    ((∀ a, present s.base.fit a = true → n ≠ axisCode a) → exec (.stopAxis n) s = .next (refused s .range)) ∧
    (∀ a, n = axisCode a → present s.base.fit a = true →
      let owner := ownerMet .idle (axisOf s.seat a)
      let y := if owner = .recall then endMove s.base s.seat a .aborted true else ended s.seat a
      let waits := ∃ r, s.seat.recallCtx = some r ∧ r.result.get a = .waiting
      (¬ waits → exec (.stopAxis n) s = .next (answered s .accepted y)) ∧
      (∀ r, s.seat.recallCtx = some r → r.result.get a = .waiting →
        let records : Seat := { y.1 with recallCtx := some { r with result := r.result.set a (.ended .aborted) } }
        exec (.stopAxis n) s = .next (answered s .accepted (records, y.2 ++ [.recallCheck]))) ∧
      (¬ waits → owner = .none ∨ owner = .brace → exec (.stopAxis n) s = .next (refused s .accepted))) ∧
    (let stops (y : Did) (a : Axis) : Did := ((ended y.1 a).1, y.2 ++ (ended y.1 a).2)
     exec .stopAll s = .next (answered s .accepted
       ((([Axis.slide, .lift, .tilt, .recline, .headrest, .extend].filter (present s.base.fit)).foldl stops
         (abortRecall s.base s.seat .stopped))))) ∧
    (s.seat.recallCtx = none →
      (∀ a, present s.base.fit a = true → let o := ownerMet .idle (axisOf s.seat a); o = .none ∨ o = .brace) →
      exec .stopAll s = .next (refused s .accepted))

/-- R20, R23: LEARN AXIS and CLEAR AXIS FAULT, every answer outside the restricted mode. An accepted LEARN AXIS leaves the axis UNLEARNED
without stops, both leads at the Initial lead, in LEARN_LOW with a JOG down of owner LEARN; RETURN is lost when the axis is SLIDE (R84).
LEARN AXIS is BUSY on an axis whose owner is not NONE, also while it coasts from an ended BRACE move. The order of the checks on a
reserved axis is the model's choice (notes/assumptions/41.md). -/
def Obligations.LearnAndClearFaultAnswer : Prop :=
  ∀ (s : State) (n : Nat), Works s →
    ((∀ a, present s.base.fit a = true → n ≠ axisCode a) →
      (s.seat.brace.mode = .idle → exec (.learnAxis n) s = .next (refused s .range)) ∧
      (s.seat.brace.mode = .idle ∨ s.seat.brace.mode = .locked → exec (.clearAxisFault n) s = .next (refused s .range))) ∧
    ∀ a, n = axisCode a → present s.base.fit a = true →
      let x := axisOf s.seat a
      let lead := (s.base.cfg.axis.get a).initialLead
      (s.seat.brace.mode = .idle →
        (s.base.link.vehicle = .moving → exec (.learnAxis n) s = .next (refused s .state)) ∧
        (s.base.link.vehicle = .parked → reserved s.seat a = true → exec (.learnAxis n) s = .next (refused s .busy)) ∧
        (s.base.link.vehicle = .parked → reserved s.seat a = false →
          (x.drive = .fault → exec (.learnAxis n) s = .next (refused s .state)) ∧
          (x.drive ≠ .fault → x.owner ≠ .none → exec (.learnAxis n) s = .next (refused s .busy)) ∧
          (x.drive ≠ .fault → x.owner = .none →
            let fresh : AxisState :=
              { x with confidence := .unlearned, lowStop := none, highStop := none, leadUp := lead, leadDown := lead,
                       learn := .low }
            let t : Seat :=
              { s.seat with
                axes := s.seat.axes.set a fresh,
                profiles := if a = .slide then s.seat.profiles.set .return Reset.profile else s.seat.profiles }
            exec (.learnAxis n) s = .next (answered s .accepted
              (takeMove s.base t a .learn { kind := .jog, dir := .down, expiry := none }))))) ∧
      (s.seat.brace.mode = .idle ∨ s.seat.brace.mode = .locked →
        (x.drive = .fault →
          exec (.clearAxisFault n) s = .next (answered s .accepted
            ({ s.seat with axes := s.seat.axes.set a { x with drive := .idle, owner := .none } }, []))) ∧
        (x.drive ≠ .fault → exec (.clearAxisFault n) s = .next (refused s .state)))

/-- R7 steps 1 to 4: the target is clamped to the range and the soft limits, the direction is up when it is above the position, and
a move on its target or, on a LEARNED axis, at its soft limit ends at once. -/
def Obligations.MovesArePrepared : Prop :=
  ∀ (cf : AxisSettings) (x : AxisState) (target : Nat) (m : Move),
    let taken := toTargetMove cf x target
    let ends := endsAtOnce cf x m
    (∀ t, taken.kind = .toTarget t → taken.expiry = none ∧ (taken.dir = .up ↔ x.position < t)) ∧
    (x.lowStop = none ∨ x.highStop = none → taken.kind = .toTarget (min target 16383)) ∧
    (∀ t, m.kind = .toTarget t → x.position ≤ t + cf.onTarget → t ≤ x.position + cf.onTarget → ends = some .reached) ∧
    (x.confidence ≠ .learned →
      (m.kind = .jog ∨ ∃ t, m.kind = .toTarget t ∧ (t + cf.onTarget < x.position ∨ x.position + cf.onTarget < t)) → ends = none) ∧
    ∀ low high, x.lowStop = some low → x.highStop = some high →
      let softLow := low + cf.softMargin
      let softHigh := max softLow (high - cf.softMargin)
      (softHigh ≤ 16383 →
        (target < softLow → taken.kind = .toTarget softLow) ∧ (softHigh < target → taken.kind = .toTarget softHigh) ∧
        (softLow ≤ target → target ≤ softHigh → taken.kind = .toTarget target)) ∧
      (x.confidence = .learned →
        (m.kind = .jog ∨ ∃ t, m.kind = .toTarget t ∧ (t + cf.onTarget < x.position ∨ x.position + cf.onTarget < t)) →
        ends = if (m.dir = .down ∧ x.position ≤ softLow) ∨ (m.dir = .up ∧ softHigh ≤ x.position) then some .endStop else none)

/-- R29, R30, R31: a raise is a new arrival at the back of its class, or a new amount for the claim already held; a release takes the
claim away; a change of amount keeps the claim where it stands; a pass follows each, and a release of nothing changes nothing. -/
def Obligations.ClaimsAreRaisedChangedAndReleased : Prop :=
  ∀ (s : Seat) (c : Consumer) (cls amount : Nat),
    let al := s.alloc
    let remade (f : Claim → Claim) : Alloc :=
      { al with
        pending := al.pending.map (fun p => if p.consumer = c then f p else p),
        granted := al.granted.map (fun g => if g.claim.consumer = c then { g with claim := f g.claim } else g) }
    (holdsClaim al c = true ↔ (∃ p ∈ al.pending, p.consumer = c) ∨ ∃ g ∈ al.granted, g.claim.consumer = c) ∧
    (holdsClaim al c = false →
      raiseClaim s c cls amount 0 =
        ({ s with alloc := { al with
            pending := insertClaim { consumer := c, cls := cls, amount := amount, arrival := al.nextArrival, level := 0 } al.pending,
            nextArrival := al.nextArrival + 1 } }, [.pass]) ∧
      releaseClaim s c = (s, []) ∧ changeAmount s c amount = (s, [])) ∧
    (holdsClaim al c = true →
      raiseClaim s c cls amount 0 = ({ s with alloc := remade (fun x => { x with amount := amount, level := 0 }) }, [.pass]) ∧
      changeAmount s c amount = ({ s with alloc := remade (fun x => { x with amount := amount }) }, [.pass]) ∧
      releaseClaim s c =
        ({ s with alloc := { al with
            pending := al.pending.filter (fun p => p.consumer ≠ c),
            granted := al.granted.filter (fun g => g.claim.consumer ≠ c) } }, [.pass])) ∧
    (∀ before x after, al.pending = before ++ x :: after → x.consumer = c → x.cls ≠ cls →
      (∀ p ∈ before ++ after, p.consumer ≠ c) → (∀ g ∈ al.granted, g.claim.consumer ≠ c) →
      changeClass s c cls = ({ s with alloc := { al with pending := insertClaim { x with cls := cls } (before ++ after) } }, [.pass])) ∧
    (∀ g, (∀ p ∈ al.pending, p.consumer ≠ c) → al.granted.find? (fun h => h.claim.consumer = c) = some g → g.claim.cls ≠ cls →
      changeClass s c cls = ({ s with alloc := remade (fun x => { x with cls := cls }) }, [.pass]))

/-- R7, R8, R84: a move that an IDLE axis takes. The first of a run queues the record with the clean marker cleared; a SLIDE move of
MANUAL or LINK loses RETURN; a move that ends at once writes its result; another enters WAIT_GRANT and raises its claim, class 0 for BRACE
and 1 otherwise, unless its dirty mark is still being written. Nothing else changes. That a move which ends at once still queues the dirty
mark and its record is the model's reading (notes/assumptions/12.md). -/
def Obligations.MoveTakenFromIdle : Prop :=
  ∀ (b : Base) (s : Seat) (a : Axis) (o : Owner) (m : Move),
    let x := axisOf s a
    let cf := b.cfg.axis.get a
    let mark : DirtyMark := if x.dirty = .notMarked then .queued else x.dirty
    let still : AxisState :=
      { x with
        dirty := mark, pending := x.pending, bridge := .released, stallLeft := none, coastLeft := none, blankLeft := none,
        overcurrentLeft := none, coastResult := none, coastReport := false }
    let claim : Claim :=
      { consumer := .axis a, cls := if o = .brace then 0 else 1, amount := cf.claim, arrival := s.alloc.nextArrival, level := 0 }
    let left (y : AxisState) (al : Alloc) : Seat :=
      { s with
        axes := s.axes.set a y,
        alloc := al,
        profiles := if a = .slide ∧ (o = .manual ∨ o = .link) then s.profiles.set .return Reset.profile else s.profiles,
        store := if x.dirty = .notMarked then enterWrite s.store (.axis a (recordOf x false)) else s.store }
    x.drive = .idle → holdsClaim s.alloc (.axis a) = false → o ≠ .learn ∨ x.learn ≠ .settle →
    (∀ r, endsAtOnce cf x m = some r →
      takeMove b s a o m =
        (left { still with drive := .idle, owner := .none, move := none, pending := none, lastResult := some r, afterShed := false }
          s.alloc, [.moveEnded a o r])) ∧
    (endsAtOnce cf x m = none →
      let waits : AxisState := { still with drive := .waitGrant, owner := o, move := some m }
      (o ≠ .brace → mark = .queued → takeMove b s a o m = (left waits s.alloc, [])) ∧
      (o = .brace ∨ mark = .marked →
        takeMove b s a o m =
          (left waits { s.alloc with pending := insertClaim claim s.alloc.pending, nextArrival := s.alloc.nextArrival + 1 },
            [.pass])))

/-- R16, R17, R25: a move that a DRIVING axis takes. In the same direction it replaces the move in place; in the other the bridge is
switched off with cause REQUEST, the claim is kept, and the new move is pending. A move of another owner ends ABORTED at once, and its
owner is told; a takeover by a brace makes the granted claim class 0. -/
def Obligations.MoveTakenWhileDriving : Prop :=
  ∀ (b : Base) (s : Seat) (a : Axis) (o : Owner) (m : Move) (g : Grant),
    let x := axisOf s a
    let cf := b.cfg.axis.get a
    let result : Option MoveResult := if x.owner = o ∨ x.owner = .none then x.lastResult else some .aborted
    let told : List Task := if x.owner = o ∨ x.owner = .none then [] else [.moveEnded a x.owner .aborted]
    let kept (y : AxisState) (granted : List Grant) : Seat :=
      { s with
        axes := s.axes.set a y,
        alloc := { s.alloc with granted := granted },
        profiles := if a = .slide ∧ (o = .manual ∨ o = .link) then s.profiles.set .return Reset.profile else s.profiles }
    let replaced : AxisState := { x with move := some m, owner := o, lastResult := result }
    let reversing : AxisState :=
      { x with
        drive := .coasting, bridge := (match cf.stopMode with | .brake => .braked | .free => .released),
        coastLeft := some cf.coastWindow, cause := some .request, stallLeft := none, blankLeft := none, overcurrentLeft := none,
        coastResult := none, coastReport := false, move := x.move.map (fun k => { k with expiry := none }),
        pending := some { move := m, owner := o }, lastResult := result }
    let ends : List Task := if cf.coastWindow = 0 then [.coastEnd a] else []
    let braced : List Grant :=
      s.alloc.granted.map (fun h => if h.claim.consumer = .axis a then { h with claim := { h.claim with cls := 0 } } else h)
    x.drive = .driving → x.pending = none → x.dirty ≠ .notMarked → x.learn = .none →
    s.alloc.granted.find? (fun h => h.claim.consumer = .axis a) = some g → isPending s.alloc (.axis a) = false →
    (m.dir = x.driveDir →
      (g.claim.cls = (if o = .brace then 0 else 1) → takeMove b s a o m = (kept replaced s.alloc.granted, told)) ∧
      (g.claim.cls = 1 → o = .brace → takeMove b s a o m = (kept replaced braced, told ++ [.pass]))) ∧
    (m.dir ≠ x.driveDir →
      (g.claim.cls = (if o = .brace then 0 else 1) → takeMove b s a o m = (kept reversing s.alloc.granted, told ++ ends)) ∧
      (g.claim.cls = 1 → o = .brace → takeMove b s a o m = (kept reversing braced, told ++ [.pass] ++ ends)))

/-- R16, R17, R18, R25: a move that an axis takes in WAIT_GRANT replaces the move in place; in COASTING it becomes the pending move, or
takes the place of the one held; in the coast of a shed it replaces the kept move. A claim held, pending or granted, stays in its place,
but for a change of class; the mark of a claim that waits after a shed stays with it (notes/assumptions/43.md), and a claim kept across a
reversal stays in a takeover by another owner (the model's choice, notes/assumptions/66.md). A move taken in WAIT_GRANT that ends at once
writes its result, withdraws the claim and reports its end (notes/assumptions/13.md). The result of the coast of another owner's move
becomes ABORTED, and that owner is told at once; the end of the coast is not reported to the owner of the new move. -/
def Obligations.MoveTakenWhileWaitingOrCoasting : Prop :=
  ∀ (b : Base) (s : Seat) (a : Axis) (o : Owner) (m : Move),
    let x := axisOf s a
    let old := match x.pending with
      | some q => q.owner
      | none => x.owner
    let told : List Task := if old = o ∨ old = .none then [] else [.moveEnded a old .aborted]
    let cls := if o = .brace then 0 else 1
    let kept (y : AxisState) (al : Alloc) : Seat :=
      { s with
        axes := s.axes.set a y,
        alloc := al,
        profiles := if a = .slide ∧ (o = .manual ∨ o = .link) then s.profiles.set .return Reset.profile else s.profiles }
    let takes (y : AxisState) : Prop :=
      (holdsClaim s.alloc (.axis a) = false → takeMove b s a o m = (kept y s.alloc, told)) ∧
      (∀ p, isGranted s.alloc (.axis a) = false → s.alloc.pending.find? (fun c => c.consumer = .axis a) = some p →
        (p.cls = cls → takeMove b s a o m = (kept y s.alloc, told)) ∧
        (p.cls ≠ cls →
          takeMove b s a o m =
            (kept y { s.alloc with
                pending := insertClaim { p with cls := cls } (s.alloc.pending.filter (fun c => c.consumer ≠ .axis a)) },
              told ++ [.pass]))) ∧
      (∀ g, isPending s.alloc (.axis a) = false → s.alloc.granted.find? (fun h => h.claim.consumer = .axis a) = some g →
        (g.claim.cls = cls → takeMove b s a o m = (kept y s.alloc, told)) ∧
        (g.claim.cls ≠ cls →
          takeMove b s a o m =
            (kept y { s.alloc with
                granted := s.alloc.granted.map
                  (fun h => if h.claim.consumer = .axis a then { h with claim := { h.claim with cls := cls } } else h) },
              told ++ [.pass])))
    x.dirty ≠ .notMarked → x.learn = .none → x.pending.isSome = true ∨ s.brace.mode ≠ .idle ∨ x.owner ≠ .brace →
    (x.drive = .waitGrant → x.pending = none → endsAtOnce (b.cfg.axis.get a) x m = none →
      isGranted s.alloc (.axis a) = false →
      let waits : AxisState :=
        { x with
          owner := o, move := some m, lastResult := (if old = o ∨ old = .none then x.lastResult else some .aborted),
          bridge := .released, stallLeft := none, coastLeft := none, blankLeft := none, overcurrentLeft := none,
          coastResult := none, coastReport := false }
      (isPending s.alloc (.axis a) = true ∨ (x.dirty = .queued ∧ o ≠ .brace) → takes waits) ∧
      (isPending s.alloc (.axis a) = false → o = .brace →
        let claim : Claim :=
          { consumer := .axis a, cls := 0, amount := (b.cfg.axis.get a).claim, arrival := s.alloc.nextArrival, level := 0 }
        takeMove b s a o m =
          (kept waits { s.alloc with
              pending := insertClaim claim s.alloc.pending, nextArrival := s.alloc.nextArrival + 1 },
            told ++ [.pass]))) ∧
    (∀ v, x.drive = .waitGrant → x.pending = none → endsAtOnce (b.cfg.axis.get a) x m = some v → isGranted s.alloc (.axis a) = false →
      let still : AxisState :=
        { x with
          drive := .idle, owner := .none, move := none, bridge := .released, stallLeft := none, coastLeft := none, blankLeft := none,
          overcurrentLeft := none, coastResult := none, coastReport := false, afterShed := false, lastResult := some v }
      let y := releaseClaim (kept still s.alloc) (.axis a)
      let moved := ∃ p, s.alloc.pending.find? (fun c => c.consumer = .axis a) = some p ∧ p.cls ≠ cls
      (moved → takeMove b s a o m = (y.1, told ++ [.pass] ++ y.2 ++ [.moveEnded a o v])) ∧
      (¬ moved → takeMove b s a o m = (y.1, told ++ y.2 ++ [.moveEnded a o v]))) ∧
    (x.drive = .coasting →
      let ended : AxisState :=
        { x with
          coastReport := false, coastResult := if old = o ∨ old = .none then x.coastResult else some .aborted }
      (x.pending.isSome = true ∨ x.cause ≠ some .shed ∨ x.move = none →
        takes { ended with move := x.move.map (fun k => { k with expiry := none }), pending := some { move := m, owner := o } }) ∧
      (x.pending = none → x.cause = some .shed → x.move.isSome = true → takes { ended with move := some m, owner := o }))

/-- R17: the early end of a move, by drive state. In WAIT_GRANT the result is written at once and the claim withdrawn; in DRIVING the
bridge is switched off with cause REQUEST and the result waits for the end of the coast; in COASTING the result replaces the coast's,
a pending move is discarded with the claim kept for it, and the kept move of a shed ends with its claim, and with the claim goes the
mark that it waits after a shed. In IDLE and FAULT nothing changes.
R24, R25: the interruption of a learn run, by an early end or by the takeover of another owner. The stops are discarded, the axis is
UNLEARNED, the learn phase is NONE and the record is queued with the clean marker cleared; then the move ends, or is taken over, as on any
axis. Its result is ABORTED, and no LEARN_FAILED is posted. -/
def Obligations.MovesEndEarly : Prop :=
  (∀ (b : Base) (s : Seat) (a : Axis) (r : MoveResult) (report : Bool),
      let x := axisOf s a
      let cf := b.cfg.axis.get a
      let put (y : AxisState) : Seat := { s with axes := s.axes.set a y }
      let told : List Task := if report then [.moveEnded a x.owner r] else []
      let still (k : Option Move) : Option Move := k.map (fun j => { j with expiry := none })
      x.learn = .none →
      (x.drive = .idle ∨ x.drive = .fault → endMove b s a r report = (s, [])) ∧
      (x.drive = .waitGrant →
        let y : AxisState :=
          { x with
            drive := .idle, owner := .none, move := none, pending := none, bridge := .released, stallLeft := none, coastLeft := none,
            blankLeft := none, overcurrentLeft := none, coastResult := none, coastReport := false, afterShed := false,
            lastResult := some r }
        endMove b s a r report = ((releaseClaim (put y) (.axis a)).1, (releaseClaim (put y) (.axis a)).2 ++ told)) ∧
      (x.drive = .driving → x.pending = none →
        let y : AxisState :=
          { x with
            drive := .coasting, bridge := (match cf.stopMode with | .brake => .braked | .free => .released),
            coastLeft := some cf.coastWindow, cause := some .request, stallLeft := none, blankLeft := none, overcurrentLeft := none,
            coastResult := some r, coastReport := report, move := still x.move }
        endMove b s a r report =
          ((releaseClaim (put y) (.axis a)).1,
            (releaseClaim (put y) (.axis a)).2 ++ (if cf.coastWindow = 0 then [.coastEnd a] else []))) ∧
      (x.drive = .coasting → x.pending = none → x.cause ≠ some .shed ∨ x.move = none →
        endMove b s a r report = (put { x with coastResult := some r, coastReport := report, move := still x.move }, [])) ∧
      (x.drive = .coasting → x.pending = none → x.cause = some .shed → x.move.isSome = true →
        endMove b s a r report =
          releaseClaim (put { x with move := none, coastResult := some r, coastReport := report, afterShed := false }) (.axis a)) ∧
      (∀ p, x.drive = .coasting → x.pending = some p →
        endMove b s a r report =
          releaseClaim
            (put { x with
              pending := none, owner := p.owner, coastResult := some r, coastReport := report, move := still x.move,
              afterShed := false })
            (.axis a))) ∧
  (∀ (b : Base) (s : Seat) (a : Axis) (r : MoveResult) (report : Bool) (o : Owner) (m : Move),
      let x := axisOf s a
      let lost : AxisState := { x with lowStop := none, highStop := none, confidence := .unlearned, learn := .none }
      let record : AxisRecord :=
        { position := x.position, highStop := none, confidence := .unlearned, leadUp := x.leadUp, leadDown := x.leadDown, clean := false }
      let l : Seat := { s with axes := s.axes.set a lost, store := enterWrite s.store (.axis a record) }
      let moves := x.drive = .waitGrant ∨ x.drive = .driving ∨ x.drive = .coasting
      x.learn ≠ .none → ownerMet s.brace.mode x = .learn →
      endMove b s a r report = endMove b l a r report ∧
      (o ≠ .learn → x.dirty ≠ .notMarked → moves → takeMove b s a o m = takeMove b l a o m) ∧
      (moves →
        let y := (endMove b s a .aborted report).1
        let z := axisOf y a
        z.confidence = .unlearned ∧ z.lowStop = none ∧ z.highStop = none ∧ z.learn = .none ∧ y.store = l.store ∧ y.notices = s.notices ∧
        (x.drive = .waitGrant → z.drive = .idle ∧ z.lastResult = some .aborted) ∧
        (x.drive = .driving ∨ x.drive = .coasting → z.drive = .coasting ∧ z.coastResult = some .aborted)))

/-- R9, R18: what an axis does with a grant and with a shed. A grant drives the bridge in the move direction with the stall timer at
Stall timeout plus Start allowance and the overcurrent blanking running, unless a LEARNED axis stands at its soft limit, when the move
ends END; a shed of a DRIVING axis switches it off with its move kept and its claim left pending. -/
def Obligations.GrantsDriveAndShedsCoast : Prop :=
  ∀ (b : Base) (s : Seat) (a : Axis),
    let x := axisOf s a
    let cf := b.cfg.axis.get a
    let put (y : AxisState) : Seat := { s with axes := s.axes.set a y }
    (∀ m, x.drive = .waitGrant → x.move = some m →
      (atSoftLimit cf x m.dir = false →
        axisGranted b s a =
          (put { x with
            drive := .driving, bridge := (match m.dir with | .down => .drivenDown | .up => .drivenUp), driveDir := m.dir,
            stallLeft := some (cf.stallTimeout + cf.startAllowance), coastLeft := none, blankLeft := some 10,
            overcurrentLeft := none, coastResult := none, coastReport := false, afterShed := false }, [])) ∧
      (atSoftLimit cf x m.dir = true →
        let y : AxisState :=
          { x with
            drive := .idle, owner := .none, move := none, pending := none, bridge := .released, stallLeft := none,
            coastLeft := none, blankLeft := none, overcurrentLeft := none, coastResult := none, coastReport := false,
            afterShed := false, lastResult := some .endStop }
        axisGranted b s a =
          ((releaseClaim (put y) (.axis a)).1, (releaseClaim (put y) (.axis a)).2 ++ [.moveEnded a x.owner .endStop]))) ∧
    (x.drive ≠ .waitGrant → axisGranted b s a = (s, [])) ∧
    (x.drive = .driving →
      axisShed b s a =
        (put { x with
          drive := .coasting, bridge := (match cf.stopMode with | .brake => .braked | .free => .released),
          coastLeft := some cf.coastWindow, cause := some .shed, stallLeft := none, blankLeft := none, overcurrentLeft := none,
          coastResult := none, coastReport := false, afterShed := true }, if cf.coastWindow = 0 then [.coastEnd a] else [])) ∧
    (x.drive = .coasting → axisShed b s a = (put { x with afterShed := true }, [])) ∧
    (x.drive ≠ .driving → x.drive ≠ .coasting → axisShed b s a = (s, []))

/-- R5, R6, R10 to R12: an accepted pulse. Stray, it counts as a disturbance; coasting, it moves the position by one in the direction
last driven; driving, it also restarts the stall timer and makes the switch-off test, LEAD before LIMIT. At the end of the range
the position stays, AXIS_SUSPECT is posted and a LEARNED axis becomes SUSPECT.
R4, R6: a rejected low adds one to the disturbance count, up to 255; when the count rises from the limit to one above it, a
LEARNED axis becomes SUSPECT and AXIS_SUSPECT is posted with detail DISTURBANCE. -/
def Obligations.PulsesCountAndRejectedLowsDisturb : Prop :=
  (∀ (s : State) (a : Axis), Works s → present s.base.fit a = true →
      let x := axisOf s.seat a
      let cf := s.base.cfg.axis.get a
      let put (y : AxisState) (t : Seat) : Seat := { t with axes := s.seat.axes.set a y }
      let atEnd := (x.driveDir = .up ∧ 16383 ≤ x.position) ∨ (x.driveDir = .down ∧ x.position = 0)
      let seen : Seat := if atEnd then post s.seat .axisSuspect (.axis a) 0 else s.seat
      let moved : AxisState :=
        if atEnd then { x with confidence := (if x.confidence = .learned then .suspect else x.confidence) }
        else { x with position := (match x.driveDir with | .up => x.position + 1 | .down => x.position - 1) }
      let off (y : AxisState) (c : Cause) (r : Option MoveResult) : Prop :=
        let z : AxisState :=
          { y with
            drive := .coasting, bridge := (match cf.stopMode with | .brake => .braked | .free => .released),
            coastLeft := some cf.coastWindow, cause := some c, stallLeft := none, blankLeft := none, overcurrentLeft := none,
            coastResult := r, coastReport := true }
        exec (.acceptedPulse a) s = .next (actOn s
          ((releaseClaim (put z seen) (.axis a)).1,
            (releaseClaim (put z seen) (.axis a)).2 ++ (if cf.coastWindow = 0 then [.coastEnd a] else [])))
      (x.drive ≠ .driving → x.drive ≠ .coasting → exec (.acceptedPulse a) s = exec (.rejectedLow a) s) ∧
      (x.drive = .coasting → exec (.acceptedPulse a) s = .next { s with seat := put moved seen }) ∧
      (∀ m, x.drive = .driving → x.pending = none → x.move = some m →
        let y : AxisState := { moved with stallLeft := some cf.stallTimeout }
        let lead := match m.dir with | .up => x.leadUp | .down => x.leadDown
        let leads := ∃ t, m.kind = .toTarget t ∧
          (match m.dir with | .up => (t : Int) - (moved.position : Int) | .down => (moved.position : Int) - (t : Int)) ≤ (lead : Int)
        (leads → off y .lead none) ∧
        (¬ leads → atSoftLimit cf moved m.dir = true → off y .limit (some .endStop)) ∧
        (¬ leads → atSoftLimit cf moved m.dir = false → exec (.acceptedPulse a) s = .next { s with seat := put y seen }))) ∧
  (∀ (s : State) (a : Axis), Works s → present s.base.fit a = true →
      let x := axisOf s.seat a
      let limit := (s.base.cfg.axis.get a).disturbanceLimit
      let put (y : AxisState) (t : Seat) : Seat := { t with axes := s.seat.axes.set a y }
      let n := min 255 (x.disturbance + 1)
      (x.disturbance = limit → limit < 255 → x.confidence = .learned →
        let y : AxisState := { x with disturbance := n, confidence := .suspect }
        exec (.rejectedLow a) s = .next { s with seat := put y (post s.seat .axisSuspect (.axis a) 1) }) ∧
      (x.disturbance ≠ limit ∨ 255 ≤ limit ∨ x.confidence ≠ .learned →
        exec (.rejectedLow a) s = .next { s with seat := put { x with disturbance := n } s.seat }))

/-- R3, R4: a hall sample. Three agreeing samples at a level other than the accepted one accept it; the low measured from the
sample that accepted LOW to the one that accepts HIGH is a pulse when it is as long as the Minimum low width, and is rejected when it
is shorter. -/
def Obligations.HallSamplesAcceptLevels : Prop :=
  ∀ (s : State) (a : Axis) (high : Bool), Works s → present s.base.fit a = true →
    let h := s.base.hall.get a
    let cf := s.base.cfg.axis.get a
    let low := if h.accepted = .low then h.lowMicros + h.spacing else 0
    let agrees := (h.accepted = .high ∧ high = true) ∨ (h.accepted = .low ∧ high = false)
    let run := if agrees then 0 else if h.runLength ≠ 0 ∧ h.runHigh = high then h.runLength + 1 else 1
    let after : Hall :=
      { accepted := (if run < 3 then h.accepted else if high = true then .high else .low), runHigh := high,
        runLength := (if run < 3 then run else 0), lowMicros := (if run < 3 then low else 0), spacing := cf.hallInterval }
    let t : State := { s with base := { s.base with hall := s.base.hall.set a after } }
    (run < 3 ∨ high = false ∨ h.accepted ≠ .low → exec (.hallSample a high) s = .next t) ∧
    (3 ≤ run → high = true → h.accepted = .low → cf.minLowWidth ≤ low →
      exec (.hallSample a high) s = exec (.acceptedPulse a) t) ∧
    (3 ≤ run → high = true → h.accepted = .low → low < cf.minLowWidth →
      exec (.hallSample a high) s = exec (.rejectedLow a) t)

/-- R11, R12, R15, R23, R24: the stall of a driving axis, by confidence, direction and position, and in each phase of a learn run. The
bridge is switched off with cause STALL; the result waits for the end of the coast. That a learn run which fails loses its stops, posts
LEARN_FAILED and queues its record at the stall, while its result waits, is the model's reading (notes/assumptions/35.md). -/
def Obligations.StallsAreClassified : Prop :=
  ∀ (s : State) (a : Axis), Works s → present s.base.fit a = true →
    let x := axisOf s.seat a
    let cf := s.base.cfg.axis.get a
    x.drive = .driving → x.stallLeft.isSome = true → x.pending = none →
    let put (y : AxisState) (t : Seat) : Seat := { t with axes := s.seat.axes.set a y }
    let ends (y : AxisState) (r : MoveResult) (t : Seat) : Prop :=
      let z : AxisState :=
        { y with
          drive := .coasting, bridge := (match cf.stopMode with | .brake => .braked | .free => .released),
          coastLeft := some cf.coastWindow, cause := some .stall, stallLeft := none, blankLeft := none, overcurrentLeft := none,
          coastResult := some r, coastReport := true }
      exec (.stall a) s = .next (actOn s
        ((releaseClaim (put z t) (.axis a)).1,
          (releaseClaim (put z t) (.axis a)).2 ++ (if cf.coastWindow = 0 then [.coastEnd a] else [])))
    let anchored (stop : Nat) (y : AxisState) : Prop :=
      ends { y with position := stop, resync := (stop : Int) - (x.position : Int) } .endStop
        (post s.seat .axisResync (.axis a) (signedWord ((stop : Int) - (x.position : Int))))
    let obstacle := ends x .obstacle (post s.seat .axisObstacle (.axis a) (toWord x.position))
    let lost : AxisState := { x with lowStop := none, highStop := none, confidence := .unlearned, learn := .none }
    let fails (r : MoveResult) (detail : Word16) : Prop :=
      ends lost r (post { s.seat with store := enterWrite s.seat.store (.axis a (recordOf lost false)) } .learnFailed (.axis a) detail)
    (x.learn = .none →
      (x.confidence = .unlearned → ends x .endStop s.seat) ∧
      (∀ high, x.confidence = .learned → x.driveDir = .up → x.highStop = some high →
        (high ≤ x.position + cf.endWindow → anchored high x) ∧ (x.position + cf.endWindow < high → obstacle)) ∧
      (∀ low, x.confidence = .learned → x.driveDir = .down → x.lowStop = some low →
        (x.position ≤ low + cf.endWindow → anchored low x) ∧ (low + cf.endWindow < x.position → obstacle)) ∧
      (x.confidence = .suspect → x.driveDir = .down → x.lowStop.isSome = true → x.highStop.isSome = true →
        (x.position ≤ 256 + cf.suspectWindow → anchored 256 { x with confidence := .learned, disturbance := 0 }) ∧
        (256 + cf.suspectWindow < x.position → obstacle)) ∧
      (x.confidence = .suspect → x.driveDir = .up → obstacle)) ∧
    (x.learn = .low → ends { x with position := 256, lowStop := some 256 } .endStop s.seat) ∧
    (x.learn = .high →
      (256 + cf.minTravel ≤ x.position → ends { x with highStop := some x.position } .endStop s.seat) ∧
      (x.position < 256 + cf.minTravel → fails .endStop 0)) ∧
    (x.learn = .settle → fails .obstacle 1)

/-- R13, R14, R17, R18: the end of a Coast window with no move left. A LEAD coast adapts the lead of its direction, between 0 and 63,
and is REACHED within the On-target window of the target and MISSED outside, unless its move was ended early during the coast, whose
result is then written (notes/assumptions/16.md); another coast writes the result fixed when it began or by its early end, and so does
that of a shed whose kept move was ended; the axis enters IDLE with owner NONE. -/
def Obligations.CoastsEndInIdle : Prop :=
  ∀ (s : State) (a : Axis), Works s → present s.base.fit a = true →
    let x := axisOf s.seat a
    let cf := s.base.cfg.axis.get a
    x.drive = .coasting → x.pending = none → x.learn = .none →
    let ends (y : AxisState) (r : MoveResult) : Prop :=
      let z : AxisState :=
        { y with
          drive := .idle, owner := .none, move := none, pending := none, bridge := .released, stallLeft := none, coastLeft := none,
          blankLeft := none, overcurrentLeft := none, coastResult := none, coastReport := false, afterShed := false,
          lastResult := some r }
      exec (.coastWindowEnd a) s = .next (actOn s
        ({ s.seat with axes := s.seat.axes.set a z }, if x.coastReport then [.moveEnded a x.owner r] else []))
    (∀ t e d, x.cause = some .lead → x.move = some { kind := .toTarget t, dir := d, expiry := e } →
      let past : Int := match d with | .up => (x.position : Int) - (t : Int) | .down => (t : Int) - (x.position : Int)
      let lead (l : Nat) : Nat := if 2 ≤ past then min 63 (l + 1) else if past ≤ -2 then l - 1 else l
      let judged : MoveResult := if x.position ≤ t + cf.onTarget ∧ t ≤ x.position + cf.onTarget then .reached else .missed
      let r : MoveResult := match x.coastResult with
        | some early => early
        | none => judged
      (d = .up → ends { x with leadUp := lead x.leadUp } r) ∧ (d = .down → ends { x with leadDown := lead x.leadDown } r)) ∧
    (∀ r, x.cause = some .limit ∨ x.cause = some .stall ∨ x.cause = some .request ∨ (x.cause = some .shed ∧ x.move = none) →
      x.coastResult = some r → ends x r)

/-- R13, R14, R16, R18: the end of a Coast window with a move to go on with, the pending move, whatever the cause of the coast, or the
kept move of a shed. The lead adapts after a LEAD coast, and the result of the ended move is written; the next move is prepared against
the position now held, a pending move in the direction that it was taken with, the kept move in that of its target
(notes/assumptions/16.md). One that ends at once writes its result; on the claim it has kept the axis drives at once; with a claim still
pending it waits; without one it raises its claim as a new arrival, unless its dirty mark is still being written. So the phase of a learn
run that was shed is resumed (R23); a LEARN_SETTLE that ends at once completes its run, which is stated of the phases of a learn run. -/
def Obligations.CoastsStartTheNextMove : Prop :=
  ∀ (s : State) (a : Axis) (m : Move) (o : Owner) (y : AxisState) (r : Option MoveResult), Works s →
    present s.base.fit a = true →
    let x := axisOf s.seat a
    let cf := s.base.cfg.axis.get a
    x.drive = .coasting →
    ((x.cause ≠ some .lead ∧ y = x ∧ r = x.coastResult) ∨
      ∃ t d e, x.cause = some .lead ∧ x.move = some { kind := .toTarget t, dir := d, expiry := e } ∧
        (let past : Int := match d with | .up => (x.position : Int) - (t : Int) | .down => (t : Int) - (x.position : Int)
         let lead (l : Nat) : Nat := if 2 ≤ past then min 63 (l + 1) else if past ≤ -2 then l - 1 else l
         y = (match d with
           | .up => { x with leadUp := lead x.leadUp }
           | .down => { x with leadDown := lead x.leadDown }) ∧
         r = some (x.coastResult.getD
           (if x.position ≤ t + cf.onTarget ∧ t ≤ x.position + cf.onTarget then .reached else .missed)))) →
    ∀ next : Move,
    (x.pending = some { move := m, owner := o } ∧ next = m) ∨
      (x.pending = none ∧ x.move = some m ∧ x.owner = o ∧ x.cause = some .shed ∧
        next = match m.kind with
          | .toTarget t => { m with dir := if x.position < t then .up else .down }
          | .jog => m) →
    let told : List Task := match r with
      | some v => if x.coastReport then [.moveEnded a x.owner v] else []
      | none => []
    let ready : AxisState :=
      { y with
        owner := o, pending := none, move := some next, coastLeft := none, stallLeft := none, blankLeft := none,
        overcurrentLeft := none, coastReport := false, coastResult := none,
        lastResult := if r.isSome then r else x.lastResult }
    let put (z : AxisState) : Seat := { s.seat with axes := s.seat.axes.set a z }
    let waits : AxisState := { ready with drive := .waitGrant, bridge := .released }
    (∀ v, endsAtOnce cf x next = some v → x.learn ≠ .settle ∨ o ≠ .learn ∨ v ≠ .reached →
      let still : AxisState :=
        { ready with
          drive := .idle, owner := .none, move := none, bridge := .released, afterShed := false, lastResult := some v }
      exec (.coastWindowEnd a) s = .next (actOn s
        ((releaseClaim (put still) (.axis a)).1,
          told ++ (releaseClaim (put still) (.axis a)).2 ++ [.moveEnded a o v]))) ∧
    (endsAtOnce cf x next = none → isGranted s.seat.alloc (.axis a) = true →
      exec (.coastWindowEnd a) s = .next (actOn s
        (put { ready with
          drive := .driving, bridge := (match next.dir with | .down => .drivenDown | .up => .drivenUp), driveDir := next.dir,
          stallLeft := some (cf.stallTimeout + cf.startAllowance), blankLeft := some 10, afterShed := false }, told))) ∧
    (endsAtOnce cf x next = none → isGranted s.seat.alloc (.axis a) = false → isPending s.seat.alloc (.axis a) = true →
      exec (.coastWindowEnd a) s = .next (actOn s (put waits, told))) ∧
    (endsAtOnce cf x next = none → holdsClaim s.seat.alloc (.axis a) = false → x.dirty = .queued → o ≠ .brace →
      exec (.coastWindowEnd a) s = .next (actOn s (put waits, told))) ∧
    (endsAtOnce cf x next = none → holdsClaim s.seat.alloc (.axis a) = false → x.dirty ≠ .queued ∨ o = .brace →
      let claim : Claim :=
        { consumer := .axis a, cls := if o = .brace then 0 else 1, amount := cf.claim, arrival := s.seat.alloc.nextArrival,
          level := 0 }
      exec (.coastWindowEnd a) s = .next (actOn s
        ({ put waits with alloc := { s.seat.alloc with
            pending := insertClaim claim s.seat.alloc.pending, nextArrival := s.seat.alloc.nextArrival + 1 } },
          told ++ [.pass])))

/-- R14, R23, R24: the phases of a learn run at the ends of their coasts. After the low stall a JOG up follows in LEARN_HIGH, after the
high stall a move to soft high in LEARN_SETTLE. The run is complete at the end of the LEARN_SETTLE coast, with the lead adapted and the
result that R14 judges, or when LEARN_SETTLE ends at once on its target, at its start or after a shed, with result REACHED and no lead
adapted: the axis is LEARNED, its disturbance count 0, its record queued and AXIS_LEARNED posted. -/
def Obligations.LearnRunsGoThroughTheirPhases : Prop :=
  ∀ (s : State) (a : Axis), Works s → present s.base.fit a = true →
    let x := axisOf s.seat a
    let cf := s.base.cfg.axis.get a
    x.drive = .coasting → x.pending = none → x.owner = .learn → x.confidence = .unlearned →
    let told (r : MoveResult) : List Task := if x.coastReport then [.moveEnded a .learn r] else []
    let put (y : AxisState) : Seat := { s.seat with axes := s.seat.axes.set a y }
    let starts (m : Move) (phase : LearnPhase) : Prop :=
      let y : AxisState :=
        { x with
          drive := .waitGrant, owner := .learn, pending := none, move := some m, learn := phase, bridge := .released,
          coastLeft := none, stallLeft := none, blankLeft := none, overcurrentLeft := none, coastResult := none,
          coastReport := false, lastResult := some .endStop }
      let claim : Claim :=
        { consumer := .axis a, cls := 1, amount := cf.claim, arrival := s.seat.alloc.nextArrival, level := 0 }
      let raised : Alloc :=
        { s.seat.alloc with
          pending := insertClaim claim s.seat.alloc.pending, nextArrival := s.seat.alloc.nextArrival + 1 }
      holdsClaim s.seat.alloc (.axis a) = false →
      (x.dirty ≠ .queued → exec (.coastWindowEnd a) s = .next (actOn s ({ put y with alloc := raised }, told .endStop ++ [.pass]))) ∧
      (x.dirty = .queued → exec (.coastWindowEnd a) s = .next (actOn s (put y, told .endStop)))
    let still (y : AxisState) (r : MoveResult) : AxisState :=
      { y with
        confidence := .learned, disturbance := 0, learn := .none, lastResult := some r, drive := .idle, owner := .none, move := none,
        pending := none, bridge := .released, stallLeft := none, coastLeft := none, blankLeft := none, overcurrentLeft := none,
        coastResult := none, coastReport := false, afterShed := false }
    let learned (y : AxisState) (r : MoveResult) (high : Nat) : Seat :=
      let record : AxisRecord :=
        { position := y.position, highStop := some high, confidence := .learned, leadUp := y.leadUp, leadDown := y.leadDown,
          clean := false }
      post { put (still y r) with store := enterWrite s.seat.store (.axis a record) } .axisLearned (.axis a) (toWord high)
    let atOnce (before : List Task) (high : Nat) : Prop :=
      let y := releaseClaim (learned x .reached high) (.axis a)
      exec (.coastWindowEnd a) s = .next (actOn s (y.1, before ++ y.2 ++ [.moveEnded a .learn .reached]))
    (x.learn = .low → x.cause = some .stall → x.coastResult = some .endStop →
      starts { kind := .jog, dir := .up, expiry := none } .high) ∧
    (∀ low high, x.learn = .high → x.cause = some .stall → x.coastResult = some .endStop → x.lowStop = some low →
      x.highStop = some high →
      let softHigh := max (low + cf.softMargin) (high - cf.softMargin)
      (x.position + cf.onTarget < softHigh ∨ softHigh + cf.onTarget < x.position →
        starts { kind := .toTarget softHigh, dir := (if x.position < softHigh then .up else .down), expiry := none } .settle) ∧
      (softHigh ≤ x.position + cf.onTarget → x.position ≤ softHigh + cf.onTarget → atOnce (told .endStop) high)) ∧
    (∀ t e d high, x.learn = .settle → x.cause = some .lead → x.coastResult = none →
      x.move = some { kind := .toTarget t, dir := d, expiry := e } → x.highStop = some high →
      let past : Int := match d with | .up => (x.position : Int) - (t : Int) | .down => (t : Int) - (x.position : Int)
      let lead (l : Nat) : Nat := if 2 ≤ past then min 63 (l + 1) else if past ≤ -2 then l - 1 else l
      let r : MoveResult := if x.position ≤ t + cf.onTarget ∧ t ≤ x.position + cf.onTarget then .reached else .missed
      let y : AxisState := match d with
        | .up => { x with leadUp := lead x.leadUp }
        | .down => { x with leadDown := lead x.leadDown }
      exec (.coastWindowEnd a) s = .next (actOn s (learned y r high, told r))) ∧
    (∀ t d e high, x.learn = .settle → x.cause = some .shed → x.coastResult = none →
      x.move = some { kind := .toTarget t, dir := d, expiry := e } → x.highStop = some high →
      x.position ≤ t + cf.onTarget → t ≤ x.position + cf.onTarget → atOnce [] high)

/-- R19, R24: overcurrent. At the end of the blanking an asserted comparator is measured for 2 ms, and so is one asserted later; a
break ends the measurement; at its end the axis is in FAULT with its bridge and claim released. OVERCURRENT acts on a driving axis
past its blanking whatever its measurement has left (the model's choice, notes/assumptions/2.md); the order of its notices and of the
owner's being told, and the cause kept of the drive before, are the model's too (notes/assumptions/19.md, notes/assumptions/45.md). -/
def Obligations.OvercurrentFaultsTheAxis : Prop :=
  ∀ (s : State) (a : Axis) (asserted : Bool), Works s → present s.base.fit a = true →
    let x := axisOf s.seat a
    let put (y : AxisState) (t : Seat) : Seat := { t with axes := s.seat.axes.set a y }
    (x.drive = .driving → x.blankLeft.isSome = true →
      let y : AxisState := { x with blankLeft := none, overcurrentLeft := if x.comparator then some 2 else none }
      exec (.overcurrentBlankingEnd a) s = .next { s with seat := put y s.seat }) ∧
    (x.comparator ≠ asserted →
      let watched := x.drive = .driving ∧ x.blankLeft = none ∧ asserted = true
      let y : AxisState := { x with comparator := asserted, overcurrentLeft := if watched then some 2 else none }
      exec (.comparatorAssertionChange a asserted) s = .next { s with seat := put y s.seat }) ∧
    (x.drive = .driving → x.blankLeft = none →
      let y : AxisState :=
        { x with
          drive := .fault, owner := .none, move := none, pending := none, bridge := .released, stallLeft := none, coastLeft := none,
          blankLeft := none, overcurrentLeft := none, coastResult := none, coastReport := false, afterShed := false,
          lastResult := some .fault, confidence := if x.confidence = .learned then .suspect else x.confidence }
      let lost : AxisState := { y with lowStop := none, highStop := none, confidence := .unlearned, learn := .none }
      let posted := post s.seat .axisFault (.axis a) (toWord x.position)
      let ends (t : Seat) : Prop :=
        exec (.overcurrent a) s = .next (actOn s
          ((releaseClaim t (.axis a)).1, (releaseClaim t (.axis a)).2 ++ [.moveEnded a x.owner .fault]))
      (x.learn = .none → ends (put y posted)) ∧
      (x.learn ≠ .none →
        let q : Seat := { put lost posted with store := enterWrite s.seat.store (.axis a (recordOf lost false)) }
        ends (post q .learnFailed (.axis a) 2)))

/-- R21, R17, R38: the expiry of a link jog ends its move REACHED; at the brace point and at the end of the stagger window a pass is
made. -/
def Obligations.JogExpiryAndStaggerWindow : Prop :=
  ∀ (s : State) (a : Axis), Works s →
    let x := axisOf s.seat a
    (∀ m, present s.base.fit a = true → x.pending = none → x.owner = .link → x.move = some m → m.expiry.isSome = true →
      exec (.jogExpiry a) s = .next (actOn s (endMove s.base s.seat a .reached false))) ∧
    (∀ p, present s.base.fit a = true → x.pending = some p → p.owner = .link → p.move.expiry.isSome = true →
      exec (.jogExpiry a) s = .next (actOn s (endMove s.base s.seat a .reached false))) ∧
    (∀ w, s.seat.alloc.stagger = some w →
      exec .staggerWindowEnd s = .next (actOn s ({ s.seat with alloc := { s.seat.alloc with stagger := none } }, [.pass])) ∧
      (w.bracePassed = false → w.braceLength < w.length →
        let passed : Stagger := { w with bracePassed := true }
        exec .bracePoint s = .next (actOn s
          ({ s.seat with alloc := { s.seat.alloc with stagger := some passed } }, [.pass]))))

/-! ### The supply -/

/-- R32, R33: a pass computes the effective ceiling from C_set, the monitor state, the Low share, the brace state and the Brace allowance;
then it sheds, walks the claim list and shares the heat, in this order. The hand-overs that a block calls for are carried out one by one,
each one's own before those that already wait, until none is left; a pass called for inside a pass is made behind its heater share. This
order is the model's reading (notes/assumptions/5.md), and the number of hand-overs that one step carries out at most its choice
(notes/assumptions/6.md).
R32, R34 to R36, R48: the shedding of a pass. A granted set that is lawful, every claim eligible, their sum at most E and, in CUTOFF, none
left, loses nothing; otherwise one claim is shed, an ineligible one first, then one of the highest class, the most recently granted among
them; its shed is handed to its consumer, and then shedding goes on. The shed claim returns to the list with its stamp, and a waiting fan
upgrade takes its place. That a grant of 0 LU is withdrawn in CUTOFF is read from R48 (notes/assumptions/47.md). -/
def Obligations.PassesKeepTheGrantsLawful : Prop :=
  (∀ (b : Base) (s : Seat) (n : Nat),
      let shares (l : List Task) : Prop := ∃ c0 b0, Task.share c0 b0 ∈ l
      settle n [] b s = s ∧
      (∀ t rest, ¬ (t = .pass ∧ shares rest) →
        settle (n + 1) (t :: rest) b s = settle n ((runTask t b s).2 ++ rest) b (runTask t b s).1) ∧
      (∀ before c0 b0 after, ¬ shares before →
        settle (n + 1) (.pass :: (before ++ .share c0 b0 :: after)) b s =
          settle n (before ++ .share c0 b0 :: .pass :: after) b s)) ∧
  (∀ (s : State) (y : Did),
      actOn s y = { s with seat := settled s.base y } ∧ settled s.base y = settle 1000000000000 y.2 s.base y.1) ∧
  (∀ (b : Base) (s : Seat),
      let derated : Nat := match b.monitor.state with
        | .normal => s.alloc.cSet
        | .low => s.alloc.cSet * b.cfg.lowShare / 8
        | .cutoff => 0
      let m := s.brace.mode
      let e := if (m = .bracing ∨ m = .braced ∨ m = .releasing) ∧ b.monitor.state ≠ .cutoff then max derated b.cfg.braceAllowance
        else derated
      runTask .pass b s =
        ({ s with alloc := { s.alloc with ceiling := e } }, [.shed, .walk, .share s.zones.c.grant s.zones.b.grant])) ∧
  (∀ (b : Base) (s : Seat), ClaimsLawful s.alloc → (s.alloc.granted.map Grant.stamp).Nodup →
      let e := s.alloc.ceiling
      let mayRun (g : Grant) : Prop := match s.brace.mode with
        | .idle => True
        | .releasing => True
        | .bracing => g.claim.cls ≤ 1
        | .braced => g.claim.cls ≤ 1
        | .locked => False
      let sum := (s.alloc.granted.map (fun g => g.claim.amount)).sum
      let fit := sum ≤ e ∧ (b.monitor.state = .cutoff → s.alloc.granted = [])
      let sheds (g : Grant) (cause : Nat) : Prop :=
        let c := g.claim
        let back : Claim := match s.alloc.pending.find? (fun p => p.consumer = c.consumer) with
          | some up => { up with arrival := c.arrival }
          | none => c
        let t : Seat :=
          { s with alloc := { s.alloc with
              granted := s.alloc.granted.filter (fun h => h.claim.consumer ≠ c.consumer)
              pending := insertClaim back (s.alloc.pending.filter (fun p => p.consumer ≠ c.consumer)) } }
        runTask .shed b s = match c.consumer with
          | .axis a => (post t .shed (.axis a) (pairWord (axisCode a) cause), [.axisShed a, .shed])
          | .compressor => (post t .shed .none (pairWord 6 cause), [.compressorShed, .shed])
          | .fan .c => (post t .shed (.zone .c) (pairWord 7 cause), [.shed])
          | .fan .b => (post t .shed (.zone .b) (pairWord 8 cause), [.shed])
      (runTask .shed b s = (s, []) ↔ (∀ g ∈ s.alloc.granted, mayRun g) ∧ fit) ∧
      ((runTask .shed b s).2 ≠ [] → (runTask .shed b s).1.alloc.granted.length < s.alloc.granted.length) ∧
      (∀ g ∈ s.alloc.granted, ¬ mayRun g → (∀ h ∈ s.alloc.granted, ¬ mayRun h → h.stamp ≤ g.stamp) → sheds g 1) ∧
      (∀ g ∈ s.alloc.granted, (∀ h ∈ s.alloc.granted, mayRun h) → ¬ fit →
        (∀ h ∈ s.alloc.granted, h.claim.cls ≤ g.claim.cls) →
        (∀ h ∈ s.alloc.granted, h.claim.cls = g.claim.cls → h.stamp ≤ g.stamp) → sheds g 0))

/-- R37, R38, R40: the admission walk. It passes over claims that are not eligible; the first eligible one is granted when it fits under
E, with a running grant of the same fan counted out, and, for an axis, when no stagger window holds it; the grant is handed to its
consumer, and then the walk goes on from the head of the list (notes/assumptions/48.md). Otherwise, and in CUTOFF (R48,
notes/assumptions/47.md), the walk ends. A granted axis starts its stagger window (a length of 0 starts none, notes/assumptions/17.md). -/
def Obligations.WalkGrantsInOrder : Prop :=
  ∀ (b : Base) (s : Seat),
    let eligibleClass (k : Nat) : Prop := match s.brace.mode with
      | .idle => True
      | .releasing => True
      | .bracing => k ≤ 1
      | .braced => k ≤ 1
      | .locked => False
    ((∀ p ∈ s.alloc.pending, ¬ eligibleClass p.cls) → runTask .walk b s = (s, [])) ∧
    ∀ passed c rest, s.alloc.pending = passed ++ c :: rest → (∀ p ∈ passed, ¬ eligibleClass p.cls) → eligibleClass c.cls →
      let others := s.alloc.granted.filter (fun g => g.claim.consumer ≠ c.consumer)
      let room := (others.map (fun g => g.claim.amount)).sum + c.amount
      let held : Prop := match c.consumer, s.alloc.stagger with
        | .axis _, some w => c.cls ≠ 0 ∨ w.bracePassed = false
        | _, _ => False
      let len := if c.cls = 0 then b.cfg.braceStagger else b.cfg.stagger
      let window : Option Stagger := match c.consumer with
        | .axis _ =>
          if len = 0 then s.alloc.stagger
          else some { length := len, braceLength := b.cfg.braceStagger, left := len, bracePassed := decide (b.cfg.braceStagger = 0) }
        | _ => s.alloc.stagger
      (room ≤ s.alloc.ceiling → ¬ held → b.monitor.state ≠ .cutoff →
        runTask .walk b s =
          ({ s with alloc := { s.alloc with
              pending := s.alloc.pending.filter (fun p => p.consumer ≠ c.consumer)
              granted := others ++ [{ claim := c, stamp := s.alloc.nextGrant }]
              nextGrant := s.alloc.nextGrant + 1
              stagger := window } }, [.granted c.consumer, .walk])) ∧
      (s.alloc.ceiling < room ∨ held ∨ b.monitor.state = .cutoff → runTask .walk b s = (s, []))

/-- R39, R131: the heater share, last in a pass. The grants never exceed H; when either differs from the one the pass began with, each
zone takes its own, and a REGULATING heater whose duty lies above its new cap is lowered to it and CAPPED. So a duty of 0 stays without the
flag at the entry to a brace (the model's choice, notes/assumptions/49.md). -/
def Obligations.HeatersShareWhatIsLeft : Prop :=
  ∀ (b : Base) (s : Seat) (c0 b0 : Nat),
    let m := s.brace.mode
    let h := if m = .bracing ∨ m = .braced ∨ m = .locked then 0
      else s.alloc.ceiling - (s.alloc.granted.map (fun g => g.claim.amount)).sum
    let dc := s.zones.c.demand
    let db := s.zones.b.demand
    let first := min dc (h / 2)
    let gb := if dc + db ≤ h then db else min db (h - first)
    let gc := if dc + db ≤ h then dc else min dc (h - gb)
    let takes (z : ZoneState) (g : Nat) : ZoneState :=
      let cap := if z.current = 0 then 0 else 255 * g / z.current
      if z.mode = .regulating ∧ cap < z.dutyOut then { z with grant := g, dutyOut := cap, capped := true }
      else { z with grant := g }
    gc + gb ≤ h ∧
    (gc = c0 ∧ gb = b0 → runTask (.share c0 b0) b s = (s, [])) ∧
    (gc ≠ c0 ∨ gb ≠ b0 →
      runTask (.share c0 b0) b s = ({ s with zones := { c := takes s.zones.c gc, b := takes s.zones.b gb } }, []))

/-- R42, R46: SET SUPPLY CEILING and SET SUPPLY THRESHOLDS, every answer; the end of the threshold settle.
R44, R45, R46: one supply sample. It is held to 20000 mV; with 8 samples their average becomes V; outside a settle the run counts
take it, each up to 4, and a count of 4 decides the state; a change posts SUPPLY_STATE and makes a pass. -/
def Obligations.SupplyIsSetAndMonitored : Prop :=
  (∀ (s : State) (n low cutoff : Nat), Works s →
      (s.seat.brace.mode = .idle ∨ s.seat.brace.mode = .releasing →
        (400 < n → exec (.setSupplyCeiling n) s = .next (refused s .range)) ∧
        (n ≤ 400 → exec (.setSupplyCeiling n) s =
          .next (answered s .accepted ({ s.seat with alloc := { s.seat.alloc with cSet := n } }, [.pass]))) ∧
        let valid := 8000 ≤ low ∧ low ≤ 12000 ∧ 6000 ≤ cutoff ∧ cutoff ≤ 9000 ∧ low % 250 = 0 ∧ cutoff % 250 = 0 ∧ cutoff < low
        (¬ valid → exec (.setSupplyThresholds low cutoff) s = .next (refused s .range)) ∧
        (valid →
          let m : Monitor :=
            { s.base.monitor with
              lowThreshold := low, cutoffThreshold := cutoff, belowLow := 0, belowCutoff := 0, clearLow := 0, clearCutoff := 0,
              settleLeft := some 2 }
          let frame := refused s .accepted
          exec (.setSupplyThresholds low cutoff) s = .next { frame with base := { frame.base with monitor := m } })) ∧
      (s.seat.brace.mode ≠ .idle → s.seat.brace.mode ≠ .releasing →
        exec (.setSupplyCeiling n) s = .next (refused s .restricted) ∧
        exec (.setSupplyThresholds low cutoff) s = .next (refused s .restricted)) ∧
      let settled : Monitor := { s.base.monitor with settleLeft := none }
      exec .thresholdSettleEnd s = .next { s with base := { s.base with monitor := settled } }) ∧
  (∀ (s : State) (mv : Nat), Works s → s.base.monitor.window.length ≤ 8 →
      let m := s.base.monitor
      let all := m.window ++ [min mv 20000]
      let w := if m.window.length = 8 then all.tail else all
      let v := w.sum / 8
      let sampled : Monitor := { m with window := w, sampleLeft := some s.base.cfg.monitorInterval }
      (w.length < 8 → exec (.monitorSample mv) s = .next { s with base := { s.base with monitor := sampled } }) ∧
      (w.length = 8 → m.settleLeft.isSome = true →
        let waiting : Monitor := { sampled with v := v }
        exec (.monitorSample mv) s = .next { s with base := { s.base with monitor := waiting } }) ∧
      (w.length = 8 → m.settleLeft = none →
        let count (n : Nat) (c : Prop) [Decidable c] : Nat := if c then min 4 (n + 1) else 0
        let belowLow := count m.belowLow (v < m.lowThreshold)
        let belowCutoff := count m.belowCutoff (v < m.cutoffThreshold)
        let clearLow := count m.clearLow (m.lowThreshold + 500 ≤ v)
        let clearCutoff := count m.clearCutoff (m.cutoffThreshold + 500 ≤ v)
        let state : MonitorState := match m.state with
          | .normal => if belowCutoff = 4 then .cutoff else if belowLow = 4 then .low else .normal
          | .low => if belowCutoff = 4 then .cutoff else if clearLow = 4 then .normal else .low
          | .cutoff => if clearLow = 4 then .normal else if clearCutoff = 4 then .low else .cutoff
        let judged : Monitor :=
          { sampled with
            v := v, belowLow := belowLow, belowCutoff := belowCutoff, clearLow := clearLow, clearCutoff := clearCutoff, state := state }
        let t : State := { s with base := { s.base with monitor := judged } }
        (state = m.state → exec (.monitorSample mv) s = .next t) ∧
        (state ≠ m.state →
          let code : Nat := match state with
            | .normal => 0
            | .low => 1
            | .cutoff => 2
          exec (.monitorSample mv) s = .next (actOn t (post s.seat .supplyState .none (toWord code), [.pass])))))

/-! ### Remembered positions -/

/-- R64 to R66, R68: STORE PROFILE and ERASE PROFILE, every answer. STORE captures the position of every present LEARNED axis in IDLE,
the comfort targets of the support bladders and the levels of both zones; ERASE leaves an invalid slot that holds nothing; both queue
the slot's record.
R70, R78: RECALL PROFILE, every answer in IDLE; a recall that runs is first aborted with outcome SUPERSEDED. The owner that the busy
test meets on a coasting axis is the model's reading (notes/assumptions/14.md).
R84, R85: DOOR EXIT and DOOR ENTRY, every answer in IDLE. An exit on its target, or at the soft low, is REACHED at once
(notes/assumptions/20.md). An accepted exit captures RETURN and starts the one move of SLIDE back by the Exit offset, not below its soft
low; an accepted entry starts the recall of RETURN. -/
def Obligations.MemoryCommandsAnswer : Prop :=
  (∀ (s : State) (n : Nat), Works s →
      (s.seat.brace.mode ≠ .idle → s.seat.brace.mode ≠ .releasing →
        exec (.storeProfile n) s = .next (refused s .restricted) ∧ exec (.eraseProfile n) s = .next (refused s .restricted)) ∧
      (s.seat.brace.mode = .idle ∨ s.seat.brace.mode = .releasing → 4 ≤ n →
        exec (.storeProfile n) s = .next (refused s .range) ∧ exec (.eraseProfile n) s = .next (refused s .range)) ∧
      ∀ p : Retained4, s.seat.brace.mode = .idle ∨ s.seat.brace.mode = .releasing →
        n = (match p with | .p1 => 0 | .p2 => 1 | .p3 => 2 | .p4 => 3) →
        let full := s.seat.store.queue.any (sameRecord (.profile p Reset.profile)) = false ∧ 9 ≤ s.seat.store.queue.length
        let moves := ∃ a, present s.base.fit a = true ∧
          ((axisOf s.seat a).drive = .waitGrant ∨ (axisOf s.seat a).drive = .driving ∨ (axisOf s.seat a).drive = .coasting)
        let puts (q : Profile) : Did :=
          ({ s.seat with profiles := s.seat.profiles.set p.slot q, store := enterWrite s.seat.store (.profile p q) }, [])
        (full → exec (.eraseProfile n) s = .next (refused s .busy)) ∧
        (¬ full → exec (.eraseProfile n) s =
          .next (answered s .accepted (puts { valid := false, axes := .all none, support := .all none, climate := none }))) ∧
        (moves ∨ full → exec (.storeProfile n) s = .next (refused s .busy)) ∧
        (¬ moves → ¬ full → ∃ q : Profile,
          exec (.storeProfile n) s = .next (answered s .accepted (puts q)) ∧ q.valid = true ∧
          (∀ a, let x := axisOf s.seat a
            q.axes.get a =
              if present s.base.fit a = true ∧ x.confidence = .learned ∧ x.drive = .idle then some x.position else none) ∧
          (∀ i, q.support.get i =
            match i with
            | .lu | .ll | .bbl | .bbr | .cbl | .cbr => (s.seat.gallery.bladders.get i).comfort
            | _ => none) ∧
          q.climate = some { c := { heat := s.seat.zones.c.heat, fan := s.seat.zones.c.fan },
                             b := { heat := s.seat.zones.b.heat, fan := s.seat.zones.b.fan } })) ∧
  (∀ (s : State) (n : Nat), Works s → s.seat.brace.mode = .idle →
      (4 ≤ n → exec (.recallProfile n) s = .next (refused s .range)) ∧
      ∀ p : Retained4, n = (match p with | .p1 => 0 | .p2 => 1 | .p3 => 2 | .p4 => 3) →
        let q := s.seat.profiles.get p.slot
        let busy := ∃ a, present s.base.fit a = true ∧ (q.axes.get a).isSome = true ∧
          (ownerMet .idle (axisOf s.seat a) = .manual ∨ ownerMet .idle (axisOf s.seat a) = .learn)
        (s.base.link.vehicle = .moving → exec (.recallProfile n) s = .next (refused s .state)) ∧
        (s.base.link.vehicle = .parked →
          (q.valid = false → exec (.recallProfile n) s = .next (refused s .empty)) ∧
          (q.valid = true → busy → exec (.recallProfile n) s = .next (refused s .busy)) ∧
          (q.valid = true → ¬ busy →
            let y := abortRecall s.base s.seat .superseded
            exec (.recallProfile n) s = .next (answered s .accepted (y.1, y.2 ++ [.recallStart p.slot .link none]))))) ∧
  (∀ s : State, Works s → s.seat.brace.mode = .idle →
      let x := axisOf s.seat .slide
      let cf := s.base.cfg.axis.get .slide
      (s.base.link.vehicle = .moving →
        exec .doorExit s = .next (refused s .state) ∧ exec .doorEntry s = .next (refused s .state)) ∧
      (s.base.link.vehicle = .parked →
        (s.seat.recallCtx.isSome = true →
          exec .doorExit s = .next (refused s .busy) ∧ exec .doorEntry s = .next (refused s .busy)) ∧
        (s.seat.recallCtx = none →
          (x.confidence ≠ .learned ∨ x.drive = .fault → exec .doorExit s = .next (refused s .state)) ∧
          (x.confidence = .learned → x.drive ≠ .fault → x.drive ≠ .idle → exec .doorExit s = .next (refused s .busy)) ∧
          (∀ low, x.confidence = .learned → x.drive = .idle → x.lowStop = some low →
            let softLow := low + cf.softMargin
            let target := max (x.position - s.base.cfg.exitOffset) softLow
            let aim := clampTarget cf x target
            let near := x.position ≤ softLow + cf.onTarget ∨ (x.position ≤ aim + cf.onTarget ∧ aim ≤ x.position + cf.onTarget)
            ∃ q : Profile,
              q.valid = true ∧ q.support = .all none ∧ q.climate = none ∧
              (∀ a, let y := axisOf s.seat a
                q.axes.get a =
                  if present s.base.fit a = true ∧ y.confidence = .learned ∧ y.drive = .idle then some y.position else none) ∧
              let starts (v : RecallResult) (w : Option Wave) : Prop :=
                let r : Recall :=
                  { slot := none, source := .easyEntry, deadMan := none, phase := .wave1, outcome := none,
                    target := (PerAxis.all none).set .slide (some target), wave := (PerAxis.all none).set .slide w,
                    result := (PerAxis.all .none).set .slide v, left := s.base.cfg.recallLimit * 1000 }
                exec .doorExit s = .next (answered s .accepted
                  ({ s.seat with profiles := s.seat.profiles.set .return q, recallCtx := some r }, [.recallHand .slide, .recallCheck]))
              (near → starts (.ended .reached) none) ∧ (¬ near → starts .waiting (some .one))) ∧
          let q := s.seat.profiles.get .return
          let busy := ∃ a, present s.base.fit a = true ∧ (q.axes.get a).isSome = true ∧
            (ownerMet .idle (axisOf s.seat a) = .manual ∨ ownerMet .idle (axisOf s.seat a) = .learn)
          (q.valid = false → exec .doorEntry s = .next (refused s .empty)) ∧
          (q.valid = true → busy → exec .doorEntry s = .next (refused s .busy)) ∧
          (q.valid = true → ¬ busy →
            exec .doorEntry s =
              .next (answered s .accepted (runTask (.recallStart .return .easyEntry none) s.base s.seat))))))

/-- R69, R71 to R75, R84, R149: the start of a recall of a slot, and of the restore of a stand-down, which takes the targets of the
driven axes from the BRACE slot and carries no other part. Each present axis with a target is judged: FAULT, UNLEARNED, REACHED within
the On-target window of its clamped target, else WAITING, in wave 1 when its direction clears, in wave 2 otherwise. The support and the
climate parts are handed, then the moves of wave 1 (in this order, notes/assumptions/20.md); a key or link recall with a SLIDE target
makes RETURN invalid.
R74, R75: what the support and climate parts of a recall do. A support entry sets the comfort target of its bladder even when the
gallery takes no operation, and asks an operation towards it; a climate entry sets a level as SET HEAT and SET FAN would. -/
def Obligations.RecallsStart : Prop :=
  (∀ (b : Base) (s : Seat) (slot : Slot) (source : Source) (key : Option Key),
      let p := s.profiles.get slot
      let restores := source = .standDown
      let entry (a : Axis) : Option Nat :=
        if restores then (if s.brace.driven.get a then (s.profiles.get .brace).axes.get a else none) else p.axes.get a
      let support : List Task :=
        [Bladder.lu, .ll, .bbl, .bbr, .cbl, .cbr].filterMap (fun i => (p.support.get i).map (fun t => Task.applySupport i t))
      let climate : List Task := match p.climate with
        | some k => [.applyHeat .c k.c.heat, .applyFan .c k.c.fan, .applyHeat .b k.b.heat, .applyFan .b k.b.fan]
        | none => []
      ∃ r : Recall,
        runTask (.recallStart slot source key) b s =
          ({ s with
              recallCtx := some r,
              profiles := if (source = .key ∨ source = .link) ∧ p.axes.slide.isSome = true then s.profiles.set .return Reset.profile
                else s.profiles },
            (if restores then [] else support ++ climate) ++
              ([Axis.slide, .recline, .lift, .tilt, .extend, .headrest].filter (fun a => r.wave.get a = some .one)).map Task.recallHand ++
              [.recallCheck]) ∧
        r.slot = some (if restores then .brace else slot) ∧ r.source = source ∧ r.deadMan = (if restores then none else key) ∧
        r.phase = .wave1 ∧ r.outcome = none ∧
        r.left = b.cfg.recallLimit * 1000 ∧
        ∀ a,
          let x := axisOf s a
          let cf := b.cfg.axis.get a
          let holds (t : Option Nat) (v : RecallResult) (w : Option Wave) : Prop :=
            r.target.get a = t ∧ r.result.get a = v ∧ r.wave.get a = w
          (present b.fit a = false ∨ entry a = none → holds none .none none) ∧
          ∀ u, present b.fit a = true → entry a = some u →
            let t := min u 16383
            let aim := clampTarget cf x t
            let near := x.position ≤ aim + cf.onTarget ∧ aim ≤ x.position + cf.onTarget
            (x.drive = .fault → holds (some t) (.ended .fault) none) ∧
            (x.drive ≠ .fault → x.confidence = .unlearned → holds (some t) .unlearned none) ∧
            (x.drive ≠ .fault → x.confidence ≠ .unlearned → near → holds (some t) (.ended .reached) none) ∧
            (x.drive ≠ .fault → x.confidence ≠ .unlearned → ¬ near →
              let clears := cf.clearing = .none ∨ (cf.clearing = .up ∧ x.position < aim) ∨ (cf.clearing = .down ∧ aim ≤ x.position)
              (clears → holds (some t) .waiting (some .one)) ∧ (¬ clears → holds (some t) .waiting (some .two)))) ∧
  (∀ (s : State) (i : Bladder) (t n level : Nat) (z : Zone),
      let b := s.base
      let g := s.seat.gallery
      let u := min t 900
      let old := g.bladders.get i
      let set : BladderState := { old with comfort := some u }
      let asked : BladderState := { set with lastTarget := u }
      let queued : Option Op := g.queue.find? (fun o => o.bladder = i)
      let op : Op :=
        { bladder := i, target := u, origin := .support, bursts := 0, seed := false, step := none,
          kind := match old.measured with
            | some p => if u < p then .vent else .fill
            | none => .fill }
      let applies := runTask (.applySupport i t) b s.seat
      let at_ (h : Gallery) : Seat := { s.seat with gallery := h }
      (g.state = .fault ∨ (queued = none ∧ b.cfg.queueLimit ≤ g.queue.length) ∨ (∃ o, queued = some o ∧ o.origin = .brace) →
        applies = (at_ { g with bladders := g.bladders.set i set }, [])) ∧
      (g.state ≠ .fault → queued = none → g.queue.length < b.cfg.queueLimit →
        applies = (at_ { g with bladders := g.bladders.set i asked, queue := g.queue ++ [op] }, [.serve])) ∧
      (∀ o, g.state ≠ .fault → queued = some o → o.origin ≠ .brace →
        let replaced : BladderState := { asked with lastResult := some .cancelled }
        applies =
          (at_ { g with bladders := g.bladders.set i replaced, queue := g.queue.map (fun q => if q.bladder = i then op else q) },
            [.opResult o .cancelled, .serve])) ∧
      (Works s → s.seat.brace.mode = .idle ∨ s.seat.brace.mode = .releasing → (n = 0 ∧ z = .c) ∨ (n = 1 ∧ z = .b) → level ≤ 3 →
        exec (.setHeat n level) s = .next (answered s .accepted (runTask (.applyHeat z level) b s.seat)) ∧
        exec (.setFan n level) s = .next (answered s .accepted (runTask (.applyFan z level) b s.seat))))

/-- R73, R76: the waves and the end of a recall. A move is handed once, to its owner's order; in wave 2 the axis is judged again first,
and its target is clamped anew at the handing, by the Soft margin that then holds (the model's choice, notes/assumptions/77.md). When no
move of wave 1 is left the phase becomes WAVE2; when none of wave 2 is left the context ends DONE, COMPLETE when every target is REACHED,
is copied to the last-recall record, and RECALL_DONE is posted; RETURN is invalid after an easy entry.
R77, R82: an abort of a recall. Without a context nothing happens; with one, RUNNING moves end ABORTED (SHED_ABORT for one that a timeout
finds waiting after a shed), on any number of axes, in the order of a recall; WAITING moves become NOT_STARTED, other results are kept,
the context is copied to the last-recall record and RECALL_DONE is posted. RECALL_TIMEOUT is the abort with outcome TIMEOUT, the time left
then being 0.
R56, R76, R142: the owner of a move learns of its end. An ACTIVE contact of the axis of a MANUAL move becomes HELD_OFF; a RUNNING result
of the recall, or of the restore in RELEASING, takes the result of the move, and the recall is looked at; a RUNNING axis action in BRACING
takes it, and the brace is looked at; an end that nobody waits for changes nothing. -/
def Obligations.RecallsRunEndAndAbort : Prop :=
  (∀ (b : Base) (s : Seat) (r : Recall), s.recallCtx = some r →
      let order := [Axis.slide, .recline, .lift, .tilt, .extend, .headrest]
      let unended (w : Wave) := ∃ a, r.wave.get a = some w ∧ (r.result.get a = .waiting ∨ r.result.get a = .running)
      (r.phase = .wave1 → unended .one → runTask .recallCheck b s = (s, [])) ∧
      (r.phase = .wave1 → ¬ unended .one →
        let next : Recall := { r with phase := .wave2 }
        runTask .recallCheck b s =
          ({ s with recallCtx := some next },
            (order.filter (fun a => r.wave.get a = some .two)).map Task.recallHand ++ [.recallCheck])) ∧
      (r.phase = .wave2 → unended .two → runTask .recallCheck b s = (s, [])) ∧
      (r.phase = .wave2 → ¬ unended .two →
        let ends (o : RecallOutcome) : Prop :=
          let last : Recall := { r with phase := .done, outcome := some o }
          let t : Seat :=
            { s with
              recallCtx := none, lastRecall := some last,
              profiles := if r.slot = some .return then s.profiles.set .return Reset.profile else s.profiles }
          let u := post t .recallDone .none (pairWord (slotCode r.slot * 16 + sourceCode r.source) (outcomeCode o))
          let restored : Brace := { s.brace with restore := if o = .complete then .complete else .partlyDone }
          runTask .recallCheck b s = ({ u with brace := if r.source = .standDown then restored else s.brace }, [.releasingCheck])
        let complete := ∀ a t, r.target.get a = some t → r.result.get a = .ended .reached
        (complete → ends .complete) ∧ (¬ complete → ends .partlyDone)) ∧
      ∀ a t, r.target.get a = some t → r.result.get a = .waiting →
        let x := axisOf s a
        let cf := b.cfg.axis.get a
        let aim := clampTarget cf x t
        let near := x.position ≤ aim + cf.onTarget ∧ aim ≤ x.position + cf.onTarget
        let records (v : RecallResult) : Seat :=
          let k : Recall := { r with result := r.result.set a v }
          { s with recallCtx := some k }
        let hands := runTask (.recallHand a) b s =
          takeMove b (records .running) a (if r.source = .standDown then .brace else .recall)
            { kind := .toTarget aim, dir := (if x.position < aim then .up else .down), expiry := none }
        (r.phase = .wave1 → hands) ∧
        (r.phase = .wave2 →
          (x.drive = .fault → runTask (.recallHand a) b s = (records (.ended .fault), [])) ∧
          (x.drive ≠ .fault → x.confidence = .unlearned → runTask (.recallHand a) b s = (records .unlearned, [])) ∧
          (x.drive ≠ .fault → x.confidence ≠ .unlearned → near → runTask (.recallHand a) b s = (records (.ended .reached), [])) ∧
          (x.drive ≠ .fault → x.confidence ≠ .unlearned → ¬ near → hands))) ∧
  (∀ (s : State) (o : RecallOutcome), Works s →
      (let upCtx : Option Recall := s.seat.recallCtx.map (fun r => { r with left := 0 })
       let up : Seat := { s.seat with recallCtx := upCtx }
       exec .recallTimeout s = .next (actOn s (abortRecall s.base up .timeout))) ∧
      (s.seat.recallCtx = none → abortRecall s.base s.seat o = (s.seat, [])) ∧
      ∀ r, s.seat.recallCtx = some r →
        let result (a : Axis) : MoveResult :=
          if o = .timeout ∧ (axisOf s.seat a).drive = .waitGrant ∧ (axisOf s.seat a).afterShed = true then .shedAbort else .aborted
        let ends (y : Did) : Prop :=
          ∃ last : Recall,
            (let t : Seat := { y.1 with recallCtx := none, lastRecall := some last }
             let u := post t .recallDone .none (pairWord (slotCode r.slot * 16 + sourceCode r.source) (outcomeCode o))
             let restored : Brace :=
               { u.brace with
                 restore := match o with
                   | .complete => .complete
                   | .partlyDone => .partlyDone
                   | .timeout => .timeout
                   | .bySwitch => .bySwitch
                   | _ => .none }
             abortRecall s.base s.seat o =
               ({ u with brace := if r.source = .standDown then restored else u.brace }, y.2 ++ [.releasingCheck])) ∧
            last.slot = r.slot ∧ last.source = r.source ∧ last.deadMan = r.deadMan ∧ last.phase = .aborted ∧ last.outcome = some o ∧
            last.target = r.target ∧ last.wave = r.wave ∧ last.left = r.left ∧
            ∀ a, last.result.get a =
              match r.result.get a with
              | .running => .ended (result a)
              | .waiting => .notStarted
              | v => v
        let next (y : Did) (a : Axis) : Did :=
          ((endMove s.base y.1 a (result a) false).1, y.2 ++ (endMove s.base y.1 a (result a) false).2)
        ends
          (([Axis.slide, .recline, .lift, .tilt, .extend, .headrest].filter (fun a => r.result.get a = .running)).foldl next
            (s.seat, []))) ∧
  (∀ (b : Base) (s : Seat) (a : Axis) (v : MoveResult),
      let hands (o : Owner) := runTask (.moveEnded a o v) b s
      (∃ sc : Scanner, hands .manual = ({ s with scanner := sc }, []) ∧ sc = { s.scanner with axes := sc.axes } ∧
        ∀ c, let k := contactOf s.scanner c
          let off : ContactState := { k with cond := some .heldOff }
          contactOf sc c = if (c = .axis a .up ∨ c = .axis a .down) ∧ k.cond = some .active then off else k) ∧
      (hands .none = (s, []) ∧ hands .link = (s, []) ∧ hands .learn = (s, [])) ∧
      (∀ r, s.recallCtx = some r → r.result.get a = .running →
        let k : Recall := { r with result := r.result.set a (.ended v) }
        let ended : Did := ({ s with recallCtx := some k }, [.recallCheck])
        hands .recall = ended ∧ (s.brace.mode = .releasing → hands .brace = ended)) ∧
      ((∀ r, s.recallCtx = some r → r.result.get a ≠ .running) →
        hands .recall = (s, []) ∧ (s.brace.mode = .releasing → hands .brace = (s, []))) ∧
      (s.brace.mode = .bracing →
        (s.brace.axisAction.get a = .running →
          let x : Brace := { s.brace with axisAction := s.brace.axisAction.set a (.ended v) }
          hands .brace = ({ s with brace := x }, [.braceCheck])) ∧
        (s.brace.axisAction.get a ≠ .running → hands .brace = (s, []))) ∧
      (s.brace.mode ≠ .bracing → s.brace.mode ≠ .releasing → hands .brace = (s, [])))

/-! ### The gallery -/

/-- R90, R98, R99, R102, R103, R104: SET SUPPORT, LUMBAR ADJUST and CLEAR GALLERY FAULT, every answer outside the restricted mode. A
support operation enters at the back or takes the place of its bladder's queued one, which ends CANCELLED; a lumbar step sets both comfort
targets and asks an operation where the value changes (both enter before the gallery serves, notes/assumptions/21.md). -/
def Obligations.SupportCommandsAnswer : Prop :=
  ∀ (s : State) (n target : Nat), Works s →
    let g := s.seat.gallery
    let queued (i : Bladder) : Option Op := g.queue.find? (fun o => o.bladder = i)
    let op (i : Bladder) (t : Nat) : Op :=
      { bladder := i, target := t, origin := .support, bursts := 0, seed := false, step := none,
        kind := match (g.bladders.get i).measured with
          | some p => if t < p then .vent else .fill
          | none => .fill }
    (s.seat.brace.mode = .idle ∨ s.seat.brace.mode = .releasing →
      (g.state = .fault →
        let fine : Gallery := { g with state := .idle }
        exec .clearGalleryFault s = .next (answered s .accepted ({ s.seat with gallery := fine }, []))) ∧
      (g.state ≠ .fault → exec .clearGalleryFault s = .next (refused s .state)) ∧
      (6 ≤ n → exec (.setSupport n target) s = .next (refused s .range)) ∧
      ∀ i, [Bladder.lu, .ll, .bbl, .bbr, .cbl, .cbr][n]? = some i →
        let t := min target 900
        (g.state = .fault → exec (.setSupport n target) s = .next (refused s .state)) ∧
        (g.state ≠ .fault →
          (∀ o, queued i = some o → o.origin = .brace → exec (.setSupport n target) s = .next (refused s .busy)) ∧
          (queued i = none → s.base.cfg.queueLimit ≤ g.queue.length → exec (.setSupport n target) s = .next (refused s .full)) ∧
          (queued i = none → g.queue.length < s.base.cfg.queueLimit →
            let record : BladderState := { g.bladders.get i with comfort := some t, lastTarget := t }
            let h : Gallery := { g with bladders := g.bladders.set i record, queue := g.queue ++ [op i t] }
            exec (.setSupport n target) s = .next (answered s .accepted ({ s.seat with gallery := h }, [.serve]))) ∧
          (∀ o, queued i = some o → o.origin ≠ .brace →
            let record : BladderState := { g.bladders.get i with comfort := some t, lastTarget := t, lastResult := some .cancelled }
            let h : Gallery :=
              { g with bladders := g.bladders.set i record, queue := g.queue.map (fun q => if q.bladder = i then op i t else q) }
            exec (.setSupport n target) s =
              .next (answered s .accepted ({ s.seat with gallery := h }, [.opResult o .cancelled, .serve]))))) ∧
    (s.seat.brace.mode = .idle →
      (4 ≤ n → exec (.lumbarAdjust n) s = .next (refused s .range)) ∧
      ∀ up down : Bool, (n = 0 ∧ up = true ∧ down = true) ∨ (n = 1 ∧ up = false ∧ down = false) ∨
          (n = 2 ∧ up = true ∧ down = false) ∨ (n = 3 ∧ up = false ∧ down = true) →
        let base (i : Bladder) : Nat := match (g.bladders.get i).comfort, (g.bladders.get i).measured with
          | some t, _ => t
          | none, some p => p
          | none, none => 0
        let value (raise : Bool) (i : Bladder) : Nat := min 600 (if raise then base i + 20 else base i - 20)
        let asks (raise : Bool) (i : Bladder) : Prop := value raise i ≠ base i
        let braced (i : Bladder) : Prop := ∃ o, queued i = some o ∧ o.origin = .brace
        let added (raise : Bool) (i : Bladder) : Nat := if value raise i ≠ base i ∧ queued i = none then 1 else 0
        let more := added up .lu + added down .ll
        (g.state = .fault → exec (.lumbarAdjust n) s = .next (refused s .state)) ∧
        (g.state ≠ .fault →
          ((asks up .lu ∧ braced .lu) ∨ (asks down .ll ∧ braced .ll) → exec (.lumbarAdjust n) s = .next (refused s .busy)) ∧
          (¬ ((asks up .lu ∧ braced .lu) ∨ (asks down .ll ∧ braced .ll)) → more ≠ 0 →
            s.base.cfg.queueLimit < g.queue.length + more → exec (.lumbarAdjust n) s = .next (refused s .full)) ∧
          (¬ ((asks up .lu ∧ braced .lu) ∨ (asks down .ll ∧ braced .ll)) →
            more = 0 ∨ g.queue.length + more ≤ s.base.cfg.queueLimit →
            let aimed (raise : Bool) (i : Bladder) : BladderState := { g.bladders.get i with comfort := some (value raise i) }
            let begun : Gallery := { g with bladders := (g.bladders.set .lu (aimed up .lu)).set .ll (aimed down .ll) }
            let enter (h : Gallery) (i : Bladder) (t : Nat) : Gallery × List Task :=
              if t = base i then (h, [])
              else match h.queue.find? (fun o => o.bladder = i) with
                | none =>
                  let record : BladderState := { h.bladders.get i with lastTarget := t }
                  ({ h with bladders := h.bladders.set i record, queue := h.queue ++ [op i t] }, [])
                | some o =>
                  let record : BladderState := { h.bladders.get i with lastTarget := t, lastResult := some .cancelled }
                  ({ h with
                      bladders := h.bladders.set i record, queue := h.queue.map (fun q => if q.bladder = i then op i t else q) },
                    [.opResult o .cancelled])
            let one := enter begun .lu (value up .lu)
            let two := enter one.1 .ll (value down .ll)
            exec (.lumbarAdjust n) s =
              .next (answered s .accepted ({ s.seat with gallery := two.1 }, one.2 ++ two.2 ++ [.serve])))))

/-- R91 to R94: the gallery serves the head of its queue when it is IDLE, ending it DONE at once when its bladder's pressure already
meets its target; a fill or a vent begins its first burst, a measurement its settle; the end of a burst begins a settle, and the end of
a settle a conversion.
R36, R92, R97: what the gallery does when its compressor claim is granted or shed, and the notice of a sensor fault. In FILLING a
grant stops the wait timer and a shed starts it with 2000 ms, the burst timer keeping what it has left; in another state nothing changes.
The notice carries SENSOR and the faulty reading. -/
def Obligations.GalleryServesItsHead : Prop :=
  (∀ (s : State), Works s →
      let b := s.base
      let g := s.seat.gallery
      let at_ (h : Gallery) : Seat := { s.seat with gallery := h }
      ((g.burstLeft.isSome = true ∧ (g.state = .venting ∨ (g.state = .filling ∧ isGranted s.seat.alloc .compressor = true))) →
        let h : Gallery := { g with state := .settling, burstLeft := none, waitLeft := none, settleLeft := some b.cfg.settleTime }
        exec .burstEnd s = .next { s with seat := at_ h }) ∧
      (g.state = .settling →
        let h : Gallery := { g with state := .measuring, settleLeft := none }
        exec .settleEnd s = .next { s with seat := at_ h }) ∧
      (g.inFlight = none → g.state ≠ .fault →
        let h : Gallery := { g with state := .idle }
        runTask .galleryIdle b s.seat = (at_ h, [.serve])) ∧
      (g.queue = [] ∨ g.state ≠ .idle → runTask .serve b s.seat = (s.seat, [])) ∧
      ∀ op rest, g.queue = op :: rest → g.state = .idle → g.inFlight = none →
        let first : Op := { op with bursts := 1 }
        let meets (p : Nat) : Prop := (op.kind = .fill ∧ op.target ≤ p + b.cfg.tolerance) ∨ (op.kind = .vent ∧ p ≤ op.target + b.cfg.tolerance)
        let near := ∃ p, (g.bladders.get op.bladder).measured = some p ∧ meets p
        let serves (h : Gallery) : Prop := runTask .serve b s.seat = (at_ h, [.engineRetry])
        (near →
          let zero : Op := { op with bursts := 0 }
          let record : BladderState := { g.bladders.get op.bladder with lastResult := some .done }
          let h : Gallery :=
            { g with state := .measuring, queue := rest, inFlight := none, burstLeft := none, waitLeft := none, settleLeft := none,
                     bladders := g.bladders.set op.bladder record }
          let y := releaseClaim (at_ h) .compressor
          runTask .serve b s.seat = (y.1, y.2 ++ [.opResult zero .done, .galleryIdle, .engineRetry])) ∧
        (op.kind = .measure →
          let zero : Op := { op with bursts := 0 }
          let h : Gallery :=
            { g with state := .settling, queue := rest, inFlight := some zero, burstLeft := none, waitLeft := none,
                     settleLeft := some b.cfg.settleTime }
          serves h) ∧
        (op.kind = .vent → ¬ near →
          let h : Gallery :=
            { g with state := .venting, queue := rest, inFlight := some first, burstLeft := some b.cfg.burstTime, waitLeft := none,
                     settleLeft := none }
          serves h) ∧
        (op.kind = .fill → ¬ near → holdsClaim s.seat.alloc .compressor = false →
          let h : Gallery :=
            { g with state := .filling, queue := rest, inFlight := some first, burstLeft := some b.cfg.burstTime, waitLeft := some 2000,
                     settleLeft := none }
          let claim : Claim :=
            { consumer := .compressor, cls := if op.origin = .brace then 0 else 2, amount := b.cfg.compressorClaim,
              arrival := s.seat.alloc.nextArrival, level := 0 }
          let raised : Alloc :=
            { s.seat.alloc with
              pending := insertClaim claim s.seat.alloc.pending, nextArrival := s.seat.alloc.nextArrival + 1 }
          runTask .serve b s.seat = ({ at_ h with alloc := raised }, [.pass, .engineRetry]))) ∧
  (∀ (b : Base) (s : Seat) (code : Nat),
      let g := s.gallery
      let waits (t : Option Nat) : Seat := { s with gallery := { g with waitLeft := t } }
      (g.state = .filling →
        runTask (.granted .compressor) b s = (waits none, []) ∧ runTask .compressorShed b s = (waits (some 2000), [])) ∧
      (g.state ≠ .filling → runTask (.granted .compressor) b s = (s, []) ∧ runTask .compressorShed b s = (s, [])) ∧
      (code < 1024 → runTask (.sensorNotice code) b s = (post s .galleryFault .none (toWord (3 * 16384 + code)), [])))

/-- R94, R96, R97: a pressure reading and the compressor wait decide the operation in flight. It ends DONE when the reading meets its
target, LIMIT after its last burst, STARVED when the wait expires; otherwise its next burst begins. A reading outside 8 to 1015 ends
every operation SENSOR and leaves the gallery in FAULT, and a massage engine that waits for the queue asks again (R117, R118). That
GALLERY_FAULT stands before what the handed result leads to is the model's choice (notes/assumptions/65.md). -/
def Obligations.ReadingsDecideTheOperation : Prop :=
  ∀ (s : State) (code : Nat) (op : Op), Works s → s.seat.gallery.inFlight = some op →
    let b := s.base
    let g := s.seat.gallery
    let meets (p : Nat) : Prop :=
      op.kind = .measure ∨ (op.kind = .fill ∧ op.target ≤ p + b.cfg.tolerance) ∨ (op.kind = .vent ∧ p ≤ op.target + b.cfg.tolerance)
    let ended (r : OpResult) (x : BladderState) (h : Gallery) : Seat :=
      let y : BladderState := { x with lastResult := some r }
      let k : Gallery :=
        { h with inFlight := none, burstLeft := none, waitLeft := none, settleLeft := none, bladders := g.bladders.set op.bladder y }
      { s.seat with gallery := k }
    let released (t : Seat) (r : OpResult) : Did :=
      ((releaseClaim t .compressor).1, (releaseClaim t .compressor).2 ++ [.opResult op r, .galleryIdle])
    (g.state = .filling → g.waitLeft.isSome = true →
      exec .compressorWaitExpiry s = .next (actOn s
        (released (post (ended .starved (g.bladders.get op.bladder) g) .galleryFault (.bladder op.bladder) 0x8000) .starved))) ∧
    (g.state = .measuring →
      let read : Gallery := { g with lastReading := some code }
      let known : BladderState := { g.bladders.get op.bladder with measured := some code }
      (8 ≤ code → code ≤ 1015 →
        (meets code → exec (.pressureReading code) s = .next (actOn s (released (ended .done known read) .done))) ∧
        (¬ meets code → b.cfg.burstLimit ≤ op.bursts →
          exec (.pressureReading code) s = .next (actOn s
            (released (post (ended .limit known read) .galleryFault (.bladder op.bladder) 0x4000) .limit))) ∧
        (¬ meets code → op.bursts < b.cfg.burstLimit →
          let again : Op := { op with bursts := op.bursts + 1 }
          let h : Gallery :=
            { read with
              inFlight := some again, burstLeft := some b.cfg.burstTime, settleLeft := none, waitLeft := none,
              bladders := g.bladders.set op.bladder known }
          let go (k : Gallery) : Prop := exec (.pressureReading code) s = .next { s with seat := { s.seat with gallery := k } }
          (op.kind = .vent →
            let k : Gallery := { h with state := .venting }
            go k) ∧
          (op.kind = .fill → isGranted s.seat.alloc .compressor = true →
            let k : Gallery := { h with state := .filling }
            go k) ∧
          (op.kind = .fill → isGranted s.seat.alloc .compressor = false → isPending s.seat.alloc .compressor = true →
            let k : Gallery := { h with state := .filling, waitLeft := some 2000 }
            go k))) ∧
      (code < 8 ∨ 1015 < code →
        let broken : Gallery := { read with state := .fault }
        let t := ended .sensor (g.bladders.get op.bladder) broken
        let y := releaseClaim t .compressor
        let emptied : Gallery :=
          { t.gallery with
            queue := []
            bladders := g.queue.foldl
              (fun l o =>
                let z : BladderState := { l.get o.bladder with lastResult := some .sensor }
                l.set o.bladder z) t.gallery.bladders }
        exec (.pressureReading code) s = .next (actOn s
          ({ y.1 with gallery := emptied },
            y.2 ++ [.opResult op .sensor, .galleryIdle] ++ g.queue.map (fun o => .opResult o .sensor) ++
              [.engineRetry, .sensorNotice code]))))

/-! ### Massage -/

/-- R107 to R112: LOAD PATTERN BEGIN, STEPS and END, every answer. BEGIN opens the staging area; STEPS adds its records; END judges the
staged steps, and on success repacks the store with the new pattern last and queues its record, and otherwise answers INVALID.
R108, R111, R185: the judgement of staged steps, checks 5 to 7 in order. COUNT fails at the first missing step; FIELD at the first
step that R108 does not allow; NESTING at an OPEN_REPEAT at depth 2, at a CLOSE_REPEAT at depth 0, or, where the depth is above 0 after
the last step, at the innermost OPEN_REPEAT left open.
R185: the two reply bytes of LOAD PATTERN END hold the failing check and its step index, judged on the staged steps where the staging
area is open for the pattern, and 0 and 0 otherwise. -/
def Obligations.PatternsAreLoaded : Prop :=
  (∀ (s : State) (n count : Nat) (steps : List StepRec), Works s →
      (s.seat.brace.mode ≠ .idle → s.seat.brace.mode ≠ .releasing →
        exec (.loadPatternBegin n count) s = .next (refused s .restricted) ∧
        exec (.loadPatternSteps count steps) s = .next (refused s .restricted)) ∧
      (s.seat.brace.mode = .idle ∨ s.seat.brace.mode = .releasing →
      let p := s.base.patterns
      let walked (k : PatternNo) : Prop :=
        (s.seat.engine.state = .running ∨ s.seat.engine.state = .paused) ∧ s.seat.engine.pattern = some k
      let takes (i : Instr) (q : Patterns) (t : Seat) : Prop :=
        let frame := refused s .accepted
        exec i s = .next { frame with base := { frame.base with patterns := q }, seat := { t with notices := frame.seat.notices } }
      let ends (r : Result) (q : Patterns) (store : StoreQueue) : Prop :=
        ∃ t : State, exec (.loadPatternEnd n) s = .next t ∧ t.base.link.lastResult = r ∧ t.base.patterns = q ∧
          t.seat.store = store ∧ t.seat.engine = s.seat.engine ∧ t.seat.gallery = s.seat.gallery ∧ t.seat.axes = s.seat.axes ∧
          t.seat.alloc = s.seat.alloc ∧ t.base.cfg = s.base.cfg ∧ t.base.records = s.base.records
      (n = 0 ∨ 8 < n → ends .range p s.seat.store) ∧
      (n = 0 ∨ 8 < n → exec (.loadPatternBegin n count) s = .next (refused s .range)) ∧
      (count = 0 ∨ 48 < count → exec (.loadPatternBegin n count) s = .next (refused s .range)) ∧
      (count = 0 ∨ 8 < count → exec (.loadPatternSteps count steps) s = .next (refused s .range)) ∧
      (1 ≤ count → count ≤ 8 →
        (p.staging = none → exec (.loadPatternSteps count steps) s = .next (refused s .state)) ∧
        ∀ st, p.staging = some st →
          (st.declared < st.steps.length + count → exec (.loadPatternSteps count steps) s = .next (refused s .length)) ∧
          (st.steps.length + count ≤ st.declared →
            let more : Staging := { st with steps := st.steps ++ steps.take count }
            takes (.loadPatternSteps count steps) { p with staging := some more } s.seat)) ∧
      ∀ k, patternOfCode n = some k →
        (1 ≤ count → count ≤ 48 →
          (walked k → exec (.loadPatternBegin n count) s = .next (refused s .busy)) ∧
          (¬ walked k →
            let fresh : Staging := { pattern := k, declared := count, steps := [] }
            takes (.loadPatternBegin n count) { p with staging := some fresh } s.seat)) ∧
        (p.staging = none → ends .state p s.seat.store) ∧
        ∀ st, p.staging = some st →
          (st.pattern ≠ k → ends .state p s.seat.store) ∧
          (st.pattern = k → walked k → ends .busy p s.seat.store) ∧
          (st.pattern = k → ¬ walked k →
            let lengths : List Nat :=
              [PatternNo.n1, .n2, .n3, .n4, .n5, .n6, .n7, .n8].map (fun j => ((p.directory.get j).map PatternEntry.length).getD 0)
            let room := 160 - lengths.sum + ((p.directory.get k).map PatternEntry.length).getD 0
            let full := s.seat.store.queue.any (sameRecord (.pattern k none)) = false ∧ 9 ≤ s.seat.store.queue.length
            let sound := (judgeSteps st.declared st.steps).check = 0
            (¬ sound → ends .invalid { p with staging := none } s.seat.store) ∧
            (sound → room < st.declared → ends .full p s.seat.store) ∧
            (sound → st.declared ≤ room → full → ends .busy p s.seat.store) ∧
            (sound → st.declared ≤ room → ¬ full →
              let q := repack p k st.steps
              ends .accepted q (enterWrite s.seat.store (.pattern k (some st.steps))) ∧
              q.staging = none ∧ (∀ j, j ≠ k → patternSteps q j = patternSteps p j) ∧
              ∃ others, q.steps = others ++ st.steps ∧
                q.directory.get k = some { start := others.length, length := st.steps.length, cells := cellsOf st.steps })))) ∧
  (∀ (declared : Nat) (steps : List StepRec),
      let allowed (st : StepRec) : Prop :=
        ((st.action = 0 ∨ st.action = 1) ∧ st.cells ≠ 0 ∧ st.value ≤ 100) ∨
        (st.action = 2 ∧ 1 ≤ st.value ∧ st.value ≤ 255) ∨ (st.action = 3 ∧ 2 ≤ st.value ∧ st.value ≤ 255) ∨ st.action = 4
      let depth (l : List StepRec) : Int :=
        ((l.filter (fun st => st.action = 3)).length : Int) - ((l.filter (fun st => st.action = 4)).length : Int)
      let nested (l : List StepRec) (most : Int) : Prop := ∀ before after, l = before ++ after → 0 ≤ depth before ∧ depth before ≤ most
      let j := judgeSteps declared steps
      (steps.length < declared → j = { check := 1, index := steps.length }) ∧
      (declared ≤ steps.length →
        (∀ before st after, steps = before ++ st :: after → (∀ k ∈ before, allowed k) → ¬ allowed st →
          j = { check := 2, index := before.length }) ∧
        ((∀ k ∈ steps, allowed k) →
          (∀ before st after, steps = before ++ st :: after → nested before 2 →
            (st.action = 3 ∧ depth before = 2) ∨ (st.action = 4 ∧ depth before = 0) → j = { check := 3, index := before.length }) ∧
          (nested steps 2 → depth steps = 0 → j = { check := 0, index := 0 }) ∧
          (nested steps 2 → ∀ before st after, steps = before ++ st :: after → st.action = 3 → nested after 2 → depth after = 0 →
            j = { check := 3, index := before.length })))) ∧
  (∀ (s : State) (n : Nat), Works s → s.base.link.begun = false →
      let replies (l : List Byte) : Prop :=
        replyOf (.patternEnd n) s.base s.seat = some l ∧ ∃ t, exec (.loadPatternEnd n) s = .next t ∧ t.base.link.reply = l
      (n = 0 ∨ 8 < n → replies [0, 0]) ∧
      ∀ k, patternOfCode n = some k →
        ((∀ st, s.base.patterns.staging = some st → st.pattern ≠ k) → replies [0, 0]) ∧
        (∀ st, s.base.patterns.staging = some st → st.pattern = k →
          let j := judgeSteps st.declared st.steps
          replies [toByte j.check, toByte j.index]))

/-- R101, R113, R114, R118: START MASSAGE, SET MASSAGE and STOP MASSAGE, every answer. START takes a fresh context and withdraws what a
running engine had asked; STOP vents every cell whose last target is above 0 or whose vent it withdraws, or the held cells when the
engine is OFF.
R96, R101, R113, R118: the massage engine withdraws its operations. Each one queued is removed, and then the one in flight ends at once,
all with result CANCELLED, in this order; the operations of other origins stay. -/
def Obligations.MassageCommandsAnswer : Prop :=
  (∀ (s : State) (n intensity speed : Nat), Works s →
      let e := s.seat.engine
      let g := s.seat.gallery
      let start := exec (.startMassage n intensity speed) s
      let set := exec (.setMassage intensity speed) s
      let stop := exec .stopMassage s
      let inRange := 1 ≤ intensity ∧ intensity ≤ 5 ∧ 1 ≤ speed ∧ speed ≤ 5
      let asks (f : Engine) : Seat := { s.seat with engine := f }
      (s.seat.brace.mode ≠ .idle →
        start = .next (refused s .restricted) ∧ set = .next (refused s .restricted) ∧ stop = .next (refused s .restricted)) ∧
      (s.seat.brace.mode = .idle →
        (n = 0 ∨ 8 < n → start = .next (refused s .range)) ∧
        (¬ inRange → start = .next (refused s .range) ∧ set = .next (refused s .range)) ∧
        (inRange →
          (∀ k, patternOfCode n = some k →
            (s.base.patterns.directory.get k = none → start = .next (refused s .empty)) ∧
            (s.base.patterns.directory.get k ≠ none →
              (g.state = .fault → start = .next (refused s .state)) ∧
              (g.state ≠ .fault → e.state = .stopping → start = .next (refused s .busy)) ∧
              (g.state ≠ .fault → e.state ≠ .stopping →
                let fresh : Engine :=
                  { state := .running, pattern := some k, index := 0, stack := [], intensity := intensity, speed := speed,
                    pendingIntensity := none, pendingSpeed := none, sessionLeft := s.base.cfg.sessionLimit * 60000, outstanding := 0,
                    stillToAsk := 0, failed := 0, held := 0, endReason := none, asking := none, holdLeft := none, restLeft := none }
                (e.state = .off → start = .next (answered s .accepted (asks fresh, [.engineBegin]))) ∧
                (e.state ≠ .off →
                  let y := withdrawMassage (asks fresh)
                  start = .next (answered s .accepted (y.1, y.2 ++ [.engineBegin])))))) ∧
          (e.state = .off ∨ e.state = .stopping → set = .next (refused s .state)) ∧
          (e.state = .running ∨ e.state = .paused →
            let f : Engine := { e with pendingIntensity := some intensity, pendingSpeed := some speed }
            set = .next (answered s .accepted (asks f, [])))) ∧
        let vents (cells : CellSet) (held : CellSet) : Engine :=
          { e with
            state := .stopping, outstanding := 0, stillToAsk := cells, endReason := some .stop,
            asking := some { kind := .vent, target := 0 }, holdLeft := none, restLeft := none, held := held }
        (e.state = .stopping ∨ (e.state = .off ∧ e.held = 0) → stop = .next (refused s .accepted)) ∧
        (e.state = .off → e.held ≠ 0 → g.state = .fault → stop = .next (refused s .state)) ∧
        (e.state = .off → e.held ≠ 0 → g.state ≠ .fault →
          stop = .next (answered s .accepted (asks (vents e.held 0), [.engineAsk]))) ∧
        (e.state = .running ∨ e.state = .paused →
          ∃ cells : CellSet,
            (∀ i ∈ [Bladder.m1, .m2, .m3, .m4, .m5, .m6, .m7, .m8],
              (inSet cells i = true ↔ 0 < (g.bladders.get i).lastTarget ∨
                ∃ o, (o ∈ g.queue ∨ g.inFlight = some o) ∧ o.bladder = i ∧ o.origin = .massage ∧ o.kind = .vent ∧ o.target = 0)) ∧
            let y := withdrawMassage (asks (vents cells e.held))
            stop = .next (answered s .accepted (y.1, y.2 ++ [.engineAsk])))) ∧
      ((∀ o, o ∈ g.queue ∨ g.inFlight = some o → o.origin ≠ .massage) → withdrawMassage s.seat = (s.seat, [])) ∧
      (∀ o, g.queue = [] → g.inFlight = some o → o.origin = .massage → withdrawMassage s.seat = endFlight s.seat .cancelled)) ∧
  (∀ (s : Seat),
      let g := s.gallery
      let mine (o : Op) : Bool := o.origin = .massage && o.seed = false
      let gone := g.queue.filter mine
      let cancel (l : PerBladder BladderState) (o : Op) : PerBladder BladderState :=
        let z : BladderState := { l.get o.bladder with lastResult := some .cancelled }
        l.set o.bladder z
      let left := g.queue.filter (fun o => !mine o)
      let bladders := gone.foldl cancel g.bladders
      let told : List Task := gone.map (fun o => .opResult o .cancelled)
      ((∀ o, g.inFlight = some o → o.origin ≠ .massage) →
        withdrawMassage s = ({ s with gallery := { g with queue := left, bladders := bladders } }, told)) ∧
      (∀ o, g.inFlight = some o → o.origin = .massage →
        let h : Gallery :=
          { g with
            queue := left, bladders := cancel bladders o, inFlight := none, burstLeft := none, waitLeft := none, settleLeft := none }
        let y := releaseClaim { s with gallery := h } .compressor
        withdrawMassage s = (y.1, told ++ y.2 ++ [.opResult o .cancelled, .galleryIdle])))

/-- R114 to R116, R119: the engine walks its pattern. A step begins with the pending intensity and speed; INFLATE and DEFLATE ask their
cells a target rounded half to even, HOLD waits, the repeats count, and beyond the last step a cycle rest of 10 ms runs, in which the step
index stays at the pattern length (the model's reading, notes/assumptions/53.md). The ends of a hold, of a rest and of the session do as
they say.
R96, R115, R117, R118, R120: the engine asks the gallery for the first cell still to ask, and for the next while they are taken. A full
queue ends the asking, for stop vents and in a retry too (the model's choice, notes/assumptions/67.md), and pauses a running engine; FAULT
ends it SENSOR, with the cells that it leaves with air held; with none left a paused engine runs again. A retry asks again where something
waits. A result takes its cell out of the outstanding set; LIMIT and STARVED, outside a stop, join the cell to the failed ones
(notes/assumptions/54.md), and the engine stops FAILED when all have failed; SENSOR ends it. The step, or the stop, ends when nothing is
outstanding or still to ask. -/
def Obligations.MassageWalksItsPattern : Prop :=
  (∀ (s : State), Works s →
      let b := s.base
      let e := s.seat.engine
      let with_ (f : Engine) : Seat := { s.seat with engine := f }
      (e.state = .running → e.holdLeft.isSome = true →
        let f : Engine := { e with holdLeft := none, index := e.index + 1 }
        exec .massageHoldEnd s = .next (actOn s (with_ f, [.engineBegin]))) ∧
      (e.state = .running → e.restLeft.isSome = true →
        let f : Engine := { e with restLeft := none, stack := [], index := 0 }
        exec .cycleRestEnd s = .next (actOn s (with_ f, [.engineBegin]))) ∧
      (e.state = .running ∨ e.state = .paused →
        ∃ cells : CellSet,
          (∀ i ∈ [Bladder.m1, .m2, .m3, .m4, .m5, .m6, .m7, .m8], (inSet cells i = true ↔
            0 < (s.seat.gallery.bladders.get i).lastTarget ∨
              ∃ o, (o ∈ s.seat.gallery.queue ∨ s.seat.gallery.inFlight = some o) ∧ o.bladder = i ∧ o.origin = .massage ∧
                o.kind = .vent ∧ o.target = 0)) ∧
          let f : Engine :=
            { e with
              state := .stopping, outstanding := 0, stillToAsk := cells, endReason := some .session,
              asking := some { kind := .vent, target := 0 }, holdLeft := none, restLeft := none, sessionLeft := 0 }
          let y := withdrawMassage (with_ f)
          exec .sessionExpiry s = .next (actOn s (y.1, y.2 ++ [.engineAsk]))) ∧
      (e.state ≠ .running → runTask .engineBegin b s.seat = (s.seat, [])) ∧
      ∀ k, e.state = .running → e.pattern = some k →
        let taken : Engine :=
          { e with
            intensity := e.pendingIntensity.getD e.intensity, speed := e.pendingSpeed.getD e.speed, pendingIntensity := none,
            pendingSpeed := none, asking := none, holdLeft := none, restLeft := none }
        (stepAt b.patterns k e.index = none →
          let f : Engine := { e with asking := none, holdLeft := none, restLeft := some 10 }
          runTask .engineBegin b s.seat = (with_ f, [])) ∧
        ∀ st, stepAt b.patterns k e.index = some st →
          let product := st.value * taken.intensity * b.cfg.fullScale
          let target :=
            if 2 * (product % 500) < 500 then product / 500
            else if 500 < 2 * (product % 500) then product / 500 + 1
            else product / 500 + (product / 500) % 2
          let asks (kind : OpKind) : Engine :=
            { taken with asking := some { kind := kind, target := target }, outstanding := 0, stillToAsk := st.cells }
          (st.action = 0 → runTask .engineBegin b s.seat = (with_ (asks .fill), [.engineAsk])) ∧
          (st.action = 1 → runTask .engineBegin b s.seat = (with_ (asks .vent), [.engineAsk])) ∧
          (st.action = 2 →
            let f : Engine := { taken with holdLeft := some (max 10 (st.value * 10 * (6 - taken.speed) / 3)) }
            runTask .engineBegin b s.seat = (with_ f, [])) ∧
          (st.action = 3 →
            let f : Engine :=
              { taken with stack := { index := e.index, remaining := st.value - 1 } :: e.stack, index := e.index + 1 }
            runTask .engineBegin b s.seat = (with_ f, [.engineBegin])) ∧
          (∀ r rest, st.action = 4 → e.stack = r :: rest →
            let again : Repeat := { r with remaining := r.remaining - 1 }
            let f : Engine :=
              if 0 < r.remaining then { taken with stack := again :: rest, index := r.index + 1 }
              else { taken with stack := rest, index := e.index + 1 }
            runTask .engineBegin b s.seat = (with_ f, [.engineBegin]))) ∧
  (∀ (b : Base) (s : Seat) (op : Op) (v : OpResult),
      let e := s.engine
      let g := s.gallery
      let cells := [Bladder.m1, .m2, .m3, .m4, .m5, .m6, .m7, .m8]
      let with_ (f : Engine) : Seat := { s with engine := f }
      let subject : Subject := match e.pattern with
        | some n => .pattern n
        | none => .none
      let off (f : Engine) (reason : EndReason) : Seat :=
        let h : Engine :=
          { f with
            state := .off, outstanding := 0, stillToAsk := 0, endReason := some reason, asking := none, holdLeft := none,
            restLeft := none }
        post (with_ h) .massageStopped subject (toWord (reasonCode reason))
      let endsSensor (y : Did) : Prop :=
        ∃ held : CellSet, y = (off { e with held := held } .sensor, []) ∧
          ∀ i ∈ cells, (inSet held i = true ↔ 0 < (g.bladders.get i).lastTarget ∨
            (e.asking = some { kind := .vent, target := 0 } ∧ (inSet e.outstanding i = true ∨ inSet e.stillToAsk i = true)))
      let retries := runTask .engineRetry b s
      let asks := runTask .engineAsk b s
      let checks := runTask .engineCheck b s
      (e.state = .paused ∨ (e.state = .stopping ∧ e.stillToAsk ≠ 0) → retries = (s, [.engineAsk])) ∧
      (e.state = .off ∨ e.state = .running ∨ (e.state = .stopping ∧ e.stillToAsk = 0) → retries = (s, [])) ∧
      (e.state = .off → asks = (s, [])) ∧
      (e.state ≠ .off → e.asking = none ∨ (∀ i ∈ cells, inSet e.stillToAsk i = false) →
        let runs : Engine := { e with state := .running }
        asks = (if e.state = .paused ∧ e.asking ≠ none then with_ runs else s, [.engineCheck])) ∧
      (∀ ask before i after, e.state ≠ .off → e.asking = some ask → cells = before ++ i :: after →
        (∀ k ∈ before, inSet e.stillToAsk k = false) → inSet e.stillToAsk i = true →
        let queued := g.queue.find? (fun o => o.bladder = i)
        let new : Op :=
          { bladder := i, kind := ask.kind, target := min ask.target 900, origin := .massage, bursts := 0, seed := false, step := none }
        let asked : Engine :=
          { e with outstanding := addCell e.outstanding i, stillToAsk := dropCell e.stillToAsk i }
        let target (r : BladderState) : BladderState :=
          if ask.kind = .measure then r else { r with lastTarget := min ask.target 900 }
        (g.state = .fault → endsSensor asks) ∧
        (g.state ≠ .fault →
          (queued = none → b.cfg.queueLimit ≤ g.queue.length →
            let waits : Engine := { e with state := if e.state = .running then .paused else e.state }
            asks = (with_ waits, [])) ∧
          (queued = none → g.queue.length < b.cfg.queueLimit →
            let h : Gallery := { g with queue := g.queue ++ [new], bladders := g.bladders.set i (target (g.bladders.get i)) }
            asks = ({ with_ asked with gallery := h }, [.serve, .engineAsk])) ∧
          (∀ o, queued = some o → o.origin ≠ .brace →
            let record : BladderState := { g.bladders.get i with lastResult := some .cancelled }
            let h : Gallery :=
              { g with
                queue := g.queue.map (fun k => if k.bladder = i then new else k), bladders := g.bladders.set i (target record) }
            asks = ({ with_ asked with gallery := h }, [.opResult o .cancelled, .serve, .engineAsk])))) ∧
      (e.outstanding ≠ 0 ∨ e.stillToAsk ≠ 0 ∨ e.state = .off ∨ e.state = .paused ∨ (e.state = .running ∧ e.asking = none) →
        checks = (s, [])) ∧
      (e.outstanding = 0 → e.stillToAsk = 0 →
        (e.state = .running → e.asking ≠ none →
          let f : Engine := { e with asking := none, index := e.index + 1 }
          checks = (with_ f, [.engineBegin])) ∧
        (∀ reason, e.state = .stopping → e.endReason = some reason → checks = (off e reason, []))) ∧
      (op.seed = false → op.origin = .massage →
        let result := runTask (.opResult op v) b s
        let waits := inSet e.outstanding op.bladder
        (e.state = .off ∨ waits = false → result = (s, [])) ∧
        (e.state ≠ .off → waits = true → v = .sensor → endsSensor result) ∧
        (e.state ≠ .off → waits = true → v ≠ .sensor →
          let less : Engine := { e with outstanding := dropCell e.outstanding op.bladder }
          let failed : Engine := { less with failed := addCell e.failed op.bladder }
          let used : CellSet := match e.pattern with
            | some n => ((b.patterns.directory.get n).map PatternEntry.cells).getD 0
            | none => 0
          let fails := (v = .limit ∨ v = .starved) ∧ e.state ≠ .stopping
          (¬ fails → result = (with_ less, [.engineCheck])) ∧
          (fails → used = 0 ∨ used &&& failed.failed ≠ used → result = (with_ failed, [.engineCheck])) ∧
          (fails → used ≠ 0 → used &&& failed.failed = used → result = engineStop (with_ failed) .failed))) ∧
      (op.seed = true → runTask (.opResult op v) b s = (s, [])))

/-! ### Climate -/

/-- R40, R133 to R135: SET HEAT and SET FAN, every answer outside the restricted mode, and HEAT_STEPDOWN. A heat level decides the state
of the zone, and level 0 turns the heater off; a fan level changes the fan's claims by the table of R40.
R41, R135, R137: a fan runs at the level of the claim that it holds granted, with that level's duty. Without a granted claim its
output is 0, and its running level reads 0 (the model's choice, notes/assumptions/50.md). -/
def Obligations.HeatAndFanLevelsAreSet : Prop :=
  (∀ (s : State) (n level : Nat), Works s →
      let heat := exec (.setHeat n level) s
      let fan := exec (.setFan n level) s
      (s.seat.brace.mode = .idle ∨ s.seat.brace.mode = .releasing →
        (2 ≤ n ∨ 3 < level → heat = .next (refused s .range) ∧ fan = .next (refused s .range)) ∧
        ∀ z, (n = 0 ∧ z = Zone.c) ∨ (n = 1 ∧ z = Zone.b) → level ≤ 3 →
          let x := zoneOf s.seat z
          let al := s.seat.alloc
          let with_ (y : ZoneState) : Seat := { s.seat with zones := s.seat.zones.set z y }
          (x.heat = level → heat = .next (refused s .accepted)) ∧
          (x.heat ≠ level → level ≠ 0 →
            let mode : ZoneMode := if x.mode ≠ .sensorFault ∧ x.heat = 0 then .regulating else x.mode
            let y : ZoneState := { x with heat := level, mode := mode, level3 := 0 }
            heat = .next (answered s .accepted (with_ y, []))) ∧
          (x.heat ≠ level → level = 0 →
            let mode : ZoneMode := if x.mode = .sensorFault then .sensorFault else .off
            let y : ZoneState :=
              { x with heat := 0, mode := mode, level3 := 0, dutyOut := 0, demand := 0, i16 := 0, capped := false }
            heat = .next (answered s .accepted (with_ y, if x.demand = 0 then [] else [.pass]))) ∧
          (x.fan = level → fan = .next (refused s .accepted)) ∧
          (x.fan ≠ level →
            let y : ZoneState := { x with fan := level }
            let claims (a : Alloc) : Prop :=
              let t : Seat := { with_ y with alloc := a }
              fan = .next (answered s .accepted (t, [.pass]))
            let amount := s.base.cfg.fanClaim.get level
            let claim : Claim := { consumer := .fan z, cls := 3, amount := amount, arrival := al.nextArrival, level := level }
            let others := al.pending.filter (fun p => p.consumer ≠ .fan z)
            let lower (c : Claim) : Claim := { c with level := level, amount := amount }
            let lowered : List Grant :=
              al.granted.map (fun g => if g.claim.consumer = .fan z then { g with claim := lower g.claim } else g)
            (level = 0 → s.base.cfg.fanClaim.l0 = 0 →
              fan = .next (answered s .accepted (releaseClaim (with_ y) (.fan z)))) ∧
            (level ≠ 0 ∨ s.base.cfg.fanClaim.l0 ≠ 0 →
              (x.fan < level → claims { al with pending := insertClaim claim others, nextArrival := al.nextArrival + 1 }) ∧
              (level < x.fan → isPending al (.fan z) = false → isGranted al (.fan z) = true → claims { al with granted := lowered }) ∧
              (level < x.fan → isPending al (.fan z) = true → isGranted al (.fan z) = false →
                claims { al with pending := al.pending.map (fun p => if p.consumer = .fan z then lower p else p) }) ∧
              (∀ g, level < x.fan → isPending al (.fan z) = true → al.granted.find? (fun h => h.claim.consumer = .fan z) = some g →
                (g.claim.level < level →
                  claims { al with pending := al.pending.map (fun p => if p.consumer = .fan z then lower p else p) }) ∧
                (g.claim.level = level → claims { al with pending := others }) ∧
                (level < g.claim.level → claims { al with pending := others, granted := lowered }))))) ∧
      ∀ z, (zoneOf s.seat z).heat = 3 → (s.base.cfg.zone.get z).stepDown ≠ 0 →
        let y : ZoneState := { zoneOf s.seat z with heat := 2, level3 := 0 }
        exec (.heatStepdown z) s =
          .next { s with seat := post { s.seat with zones := s.seat.zones.set z y } .heatStepdown (.zone z) 2 }) ∧
  (∀ (b : Base) (s : Seat) (z : Zone),
      (∀ g, s.alloc.granted.find? (fun h => h.claim.consumer = .fan z) = some g →
        runningLevel s.alloc z = g.claim.level ∧
        fanOutput b s z =
          match g.claim.level with
          | 0 => b.cfg.fanDuty.l0
          | 1 => b.cfg.fanDuty.l1
          | 2 => b.cfg.fanDuty.l2
          | _ => b.cfg.fanDuty.l3) ∧
      ((∀ g ∈ s.alloc.granted, g.claim.consumer ≠ .fan z) → runningLevel s.alloc z = 0 ∧ fanOutput b s z = 0) ∧
      ((climateReply s).drop 2).take 1 = [toByte (runningLevel s.alloc .c)])

/-- R125 to R132: HEAT_SAMPLE. A code outside 16 to 4079 puts the zone in SENSOR_FAULT; a T_m at the limit temperature in OVERHEAT; an
OFF zone only measures; the others run the loop: integrator, duty, mat current, demand, then a pass when the demand changed, and the
capped output.
R125: mat temperature. At or above the code of the first breakpoint it is that one's temperature, at or below the code of the last
that one's; between two breakpoints it lies on their segment, rounded down. -/
def Obligations.HeatSamplesRegulate : Prop :=
  (∀ (s : State) (z : Zone) (code : Nat), Works s →
      let b := s.base
      let x := zoneOf s.seat z
      let zs := b.cfg.zone.get z
      let with_ (t : Seat) (y : ZoneState) : Seat := { t with zones := t.zones.set z y }
      let off (y : ZoneState) (m : ZoneMode) : ZoneState := { y with mode := m, dutyOut := 0, demand := 0, i16 := 0, capped := false }
      let pass (new : Nat) : List Task := if x.demand = new then [] else [.pass]
      let answer := exec (.heatSample z code) s
      (code < 16 ∨ 4079 < code →
        let y : ZoneState := { x with sampleLeft := some zs.heatPeriod, ntc := some code }
        (x.mode = .sensorFault → answer = .next { s with seat := with_ s.seat y }) ∧
        (x.mode ≠ .sensorFault →
          answer = .next (actOn s
            (with_ (post s.seat .sensorFault (.zone z) (toWord code)) (off y .sensorFault), pass 0)))) ∧
      (16 ≤ code → code ≤ 4079 →
        let t := temperature b.cfg.ntc code
        let y : ZoneState := { x with sampleLeft := some zs.heatPeriod, ntc := some code, temp := some t }
        let hot : Prop :=
          answer = .next (actOn s (with_ (post s.seat .heatOverheat (.zone z) (signedWord t)) (off y .overheat), pass 0))
        let regulates : Prop :=
          let level : Nat := match x.heat with
            | 1 => zs.target1
            | 2 => zs.target2
            | _ => zs.target3
          let error : Int := max (-255) (min 255 ((level : Int) - (if 2 ≤ x.fan then 4 else 0) - t))
          let i16 : Int := if x.capped then x.i16 else max 0 (min 4080 (x.i16 + (zs.ki : Int) * error))
          let duty : Nat := (max 0 (min 255 ((zs.kp : Int) * error + Int.fdiv i16 16))).toNat
          let current : Nat := if zs.matResistance = 0 then 0 else 10 * b.monitor.v / zs.matResistance
          let demand : Nat := (duty * current + 254) / 255
          let w : ZoneState :=
            { y with mode := .regulating, i16 := i16, loopDuty := duty, current := current, demand := demand, vUsed := b.monitor.v }
          answer = .next (actOn s (with_ s.seat w, pass demand ++ [.loopEnd z]))
        (x.mode = .off → answer = .next { s with seat := with_ s.seat y }) ∧
        (x.mode = .regulating → (120 ≤ t → hot) ∧ (t < 120 → regulates)) ∧
        (x.mode = .overheat → (110 ≤ t → answer = .next { s with seat := with_ s.seat y }) ∧ (t < 110 → regulates)) ∧
        (x.mode = .sensorFault →
          let measured : ZoneState := { y with mode := .off }
          (x.heat = 0 → answer = .next { s with seat := with_ s.seat measured }) ∧
          (x.heat ≠ 0 → (120 ≤ t → hot) ∧ (t < 120 → regulates)))) ∧
      let cap := if x.current = 0 then 0 else 255 * x.grant / x.current
      let out := min x.loopDuty cap
      let y : ZoneState := { x with dutyOut := out, capped := decide (out < x.loopDuty) }
      runTask (.loopEnd z) b s.seat = (with_ s.seat y, [])) ∧
  (∀ (table : List Breakpoint) (code : Nat), table.Pairwise (fun p q => q.code < p.code) →
      let t := temperature table code
      (∀ p rest, table = p :: rest → p.code ≤ code → t = p.temp) ∧
      (∀ before p, table = before ++ [p] → code ≤ p.code → t = p.temp) ∧
      (∀ before p q after, table = before ++ p :: q :: after → q.code ≤ code → code ≤ p.code →
        t = p.temp +
          Int.fdiv (((p.code : Int) - (code : Int)) * (q.temp - p.temp)) ((p.code : Int) - (q.code : Int))))

/-! ### Brace and safety line -/

/-- R140 to R147, R152: BRACE and HOLD at the brace controller. Entry from IDLE captures the BRACE slot and judges the axes for grade 2,
ends the recall, the massage and the MANUAL, LINK and LEARN moves of the axes that are not driven, makes the ACTIVE contacts HELD_OFF, and
asks the fills, then the moves; with every action ended it is BRACED, but in CUTOFF it stays BRACING (notes/assumptions/51.md); a higher
grade in BRACING or BRACED is an upgrade, another restarts the hold timer; a BRACE in RELEASING braces again on the first snapshot; LOCKED
ignores it. A massage engine that is not OFF ends BRACE in both: it holds the cells whose last target is above 0, and those of a stop or a
venting step that are outstanding or still to ask, and MASSAGE_STOPPED is posted; an engine that is OFF stays as it is. That the passes
which the ended moves call for come after that is the model's choice (notes/assumptions/78.md).
R142, R143, R150: what a brace and a stand-down ask. A fill or a vent is asked of the gallery, or recorded NOT_TAKEN where the gallery is
in FAULT; a move is handed with owner BRACE, and its axis joins the driven set. A result of a brace operation is written as its bolster
action or its stand-down vent, whatever the brace state (notes/assumptions/23.md), and the end of the brace, or of the stand-down, is
looked at. The massage stop takes the held cells as its stop set, with end reason BRACE, also where an ending of another reason left them
held (the model's choice, notes/assumptions/72.md). -/
def Obligations.BraceIsEnteredUpgradedAndHeld : Prop :=
  (∀ (b : Base) (s : Seat) (g : Nat),
      let x := s.brace
      let hold := b.cfg.holdLimit * 1000
      let order := [Axis.recline, .slide, .tilt, .lift, .headrest, .extend]
      let judged (a : Axis) : AxisAction :=
        let y := axisOf s a
        let cf := b.cfg.axis.get a
        if present b.fit a = false ∨ cf.braceEnable = false then .none
        else if y.drive = .fault then .fault
        else if y.confidence = .unlearned then .unlearned
        else if cf.windowLow ≤ y.position ∧ y.position ≤ cf.windowHigh then .inWindow
        else .running
      let moves : List Task := (order.filter (fun a => judged a = .running)).map (fun a =>
        let cf := b.cfg.axis.get a
        Task.braceMove a (if (axisOf s a).position < cf.windowLow then cf.windowLow else cf.windowHigh))
      let handed : List Task := if g = 2 then moves else []
      let fills : List Task := [.pass, .braceFill .bbl, .braceFill .bbr, .braceFill .cbl, .braceFill .cbr]
      let action (k : Nat) (t : Seat) : Prop := ∀ a, t.brace.axisAction.get a = if k = 2 then judged a else .none
      let e := s.engine
      let massageEnds (t : Seat) : Prop :=
        (e.state = .off → t.engine = e) ∧
        (e.state ≠ .off → ∃ cells : CellSet,
          t.engine =
            { e with
              state := .off, held := cells, outstanding := 0, stillToAsk := 0, endReason := some .brace, asking := none,
              holdLeft := none, restLeft := none } ∧
          ∀ i ∈ [Bladder.m1, .m2, .m3, .m4, .m5, .m6, .m7, .m8], (inSet cells i = true ↔
            0 < (s.gallery.bladders.get i).lastTarget ∨
              (e.asking = some { kind := .vent, target := 0 } ∧ (inSet e.outstanding i = true ∨ inSet e.stillToAsk i = true))))
      let recalled : Notices := match s.recallCtx with
        | some r =>
          postTo s.notices .recallDone .none (pairWord (slotCode r.slot * 16 + sourceCode r.source) (outcomeCode .preempted))
        | none => s.notices
      let noted : Notices :=
        if e.state = .off then recalled
        else postTo recalled .massageStopped (match e.pattern with | some k => .pattern k | none => .none) (toWord 3)
      let quiet (t : Seat) : Prop :=
        t.recallCtx = none ∧ massageEnds t ∧ t.notices = noted ∧ t.scanner.window = none ∧ t.scanner.waiting = [] ∧
          ∀ c, (contactOf t.scanner c).cond ≠ some .active
      let held : Brace := { x with holdLeft := some hold }
      let t := (takeBrace b s g).1
      let told := (takeBrace b s g).2
      (x.mode = .idle →
        quiet t ∧ action g t ∧ (∃ ended, told = ended ++ fills ++ handed ++ [.braceEntered]) ∧
        t.brace.mode = .bracing ∧ t.brace.grade = g ∧ t.brace.driven = .all false ∧ t.brace.bolster = .all .running ∧
        t.brace.vents = .all .none ∧
        (∀ a, (∀ k, s.recallCtx = some k → k.result.get a ≠ .running) →
          let owner := ownerMet .bracing (axisOf s a)
          let ends := present b.fit a = true ∧ (g ≠ 2 ∨ judged a ≠ .running) ∧ (owner = .manual ∨ owner = .link ∨ owner = .learn)
          (ends → axisOf t a = axisOf (endMove b s a .aborted false).1 a) ∧ (¬ ends → axisOf t a = axisOf s a)) ∧
        let q := t.profiles.get .brace
        q.valid = true ∧ q.climate = none ∧
        (∀ a, q.axes.get a = if present b.fit a = true then some (axisOf s a).position else none) ∧
        (∀ i, q.support.get i =
          match i with
          | .bbl | .bbr | .cbl | .cbr => (s.gallery.bladders.get i).measured
          | _ => none)) ∧
      (x.mode = .releasing →
        quiet t ∧ action g t ∧ (∃ ended, told = ended ++ fills ++ handed ++ [.braceEntered]) ∧
        t.brace.mode = .bracing ∧ t.brace.grade = g ∧ t.brace.driven = x.driven ∧ t.brace.bolster = .all .running ∧
        t.brace.vents = x.vents ∧ t.profiles = s.profiles) ∧
      (x.mode = .locked → takeBrace b s g = (s, [])) ∧
      (x.mode = .bracing ∨ x.mode = .braced →
        (g ≤ x.grade → takeBrace b s g = ({ s with brace := held }, [])) ∧
        (x.grade < g →
          (x.mode = .bracing ∨ moves ≠ [] →
            (∀ a, t.brace.axisAction.get a = judged a) ∧ t.brace.mode = .bracing ∧ t.brace.grade = g ∧
            t.brace.driven = x.driven ∧ t.brace.bolster = x.bolster ∧ t.profiles = s.profiles ∧ t.recallCtx = s.recallCtx ∧
            told = (if x.mode = .braced then [.pass] else []) ++ moves ++ [.braceEntered]) ∧
          (x.mode = .braced → moves = [] →
            (∀ a, t.brace.axisAction.get a = judged a) ∧ t.brace.mode = .braced ∧ t.brace.grade = g ∧
            t.brace.holdLeft = some hold ∧ told = [] ∧
            t.notices = postTo s.notices .braceState .none (pairWord 2 g)))) ∧
      (x.mode = .bracing ∨ x.mode = .braced → takeHold b s = { s with brace := held }) ∧
      (x.mode ≠ .bracing → x.mode ≠ .braced → takeHold b s = s) ∧
      (x.mode = .bracing →
        runTask .braceEntered b s = (post { s with brace := held } .braceState .none (pairWord 1 x.grade), [.braceCheck])) ∧
      (x.mode = .bracing → x.holdLeft.isSome = true →
        let running := (∃ a, x.axisAction.get a = .running) ∨ ∃ i, x.bolster.get i = .running
        let braced : Brace := { x with mode := .braced }
        (running ∨ b.monitor.state = .cutoff → runTask .braceCheck b s = (s, [])) ∧
        (¬ running → b.monitor.state ≠ .cutoff →
          runTask .braceCheck b s = (post { s with brace := braced } .braceState .none (pairWord 2 x.grade), [.pass])))) ∧
  (∀ (b : Base) (s : Seat) (i : Bolster) (a : Axis) (target : Nat) (op : Op) (v : OpResult),
      let x := s.brace
      let fill := runTask (.braceFill i) b s
      let vent := runTask (.standDownVent i) b s
      let new (k : OpKind) (t : Nat) : Op :=
        { bladder := i.bladder, kind := k, target := t, origin := .brace, bursts := 0, seed := false, step := none }
      let pressure : Nat := match (s.profiles.get .brace).support.get i.bladder, (s.gallery.bladders.get i.bladder).comfort with
        | some p, _ => p
        | none, some p => p
        | none, none => 0
      (s.gallery.state ≠ .fault →
        fill = askBrace b s (new .fill 700) ∧ vent = askBrace b s (new .vent (min pressure 900))) ∧
      (s.gallery.state = .fault →
        let unfilled : Brace := { x with bolster := x.bolster.set i .notTaken }
        let unvented : Brace := { x with vents := x.vents.set i .notTaken }
        fill = ({ s with brace := unfilled }, [.braceCheck]) ∧ vent = ({ s with brace := unvented }, [.releasingCheck])) ∧
      (let y := axisOf s a
       let aim := clampTarget (b.cfg.axis.get a) y target
       let driven : Brace := { x with driven := x.driven.set a true }
       runTask (.braceMove a target) b s =
         takeMove b { s with brace := driven } a .brace
           { kind := .toTarget aim, dir := (if y.position < aim then .up else .down), expiry := none }) ∧
      (op.seed = false → op.origin = .brace → op.bladder = i.bladder →
        let filled : Brace := { x with bolster := x.bolster.set i (.ended v) }
        let vented : Brace := { x with vents := x.vents.set i (.ended v) }
        (op.kind = .fill → runTask (.opResult op v) b s = ({ s with brace := filled }, [.braceCheck])) ∧
        (op.kind = .vent → runTask (.opResult op v) b s = ({ s with brace := vented }, [.releasingCheck]))) ∧
      (let e := s.engine
       let stops := e.state = .off ∧ e.held ≠ 0 ∧ s.gallery.state ≠ .fault
       let vents : Engine :=
         { e with
           state := .stopping, outstanding := 0, stillToAsk := e.held, held := 0, endReason := some .brace,
           asking := some { kind := .vent, target := 0 }, holdLeft := none, restLeft := none }
       (stops → runTask .massageStop b s = ({ s with engine := vents }, [.engineAsk])) ∧
       (¬ stops → runTask .massageStop b s = (s, []))) ∧
      (x.mode = .releasing →
        let entered : Brace := { x with holdLeft := none }
        runTask .releasingEntered b s = (post { s with brace := entered } .braceState .none (pairWord 3 x.grade), [.releasingCheck])))

/-- R145, R148 to R151, R153, R155: STAND_DOWN, the expiry of the hold timer, CRASH and UNLOCK BRACE at the brace controller. A stand-down
ends the brace moves ABORTED, leaves every other axis as it was, and hands the pass, the restore of the driven axes, the vents and the
massage stop; RELEASING ends in IDLE when the restore and the vents have ended. A crash leaves the seat still, every driven or coasting
axis braked whatever its Stop mode, and the lock recorded, and posts BRACE_STATE with the kind of the crash. A massage engine that is not
OFF ends CRASH and holds its cells as at the entry to a brace; one that is OFF stays as it is. That every claim is released before a pass
is made is the model's choice (notes/assumptions/78.md). An unlock raises the claim of a fan at level 0 again where its Fan claim is above
0 (R40, notes/assumptions/18.md), zone C first (the model's choice, notes/assumptions/76.md).
R100, R96: how the gallery takes a brace operation. A non-brace operation in flight ends PREEMPTED; the massage operations queued, and the
non-brace one queued for the bladder, are removed CANCELLED; a brace operation queued for the bladder is replaced in its place; else a
full queue loses the non-brace operation nearest its back, and the new one enters behind the brace operations at the front. -/
def Obligations.StandDownAndCrashAct : Prop :=
  (∀ (s : State) (k : CrashKind), Works s →
      let b := s.base
      let x := s.seat.brace
      let d := takeStandDown b s.seat
      let c := takeCrash b s.seat k
      exec .holdTimerExpiry s = .next (actOn s d) ∧
      (x.mode ≠ .bracing → x.mode ≠ .braced → d = (s.seat, [])) ∧
      (x.mode = .bracing ∨ x.mode = .braced →
        d.1.brace.mode = .releasing ∧ d.1.brace.grade = x.grade ∧ d.1.brace.driven = x.driven ∧ d.1.brace.vents = .all .running ∧
        (∀ a, d.1.brace.axisAction.get a = match x.axisAction.get a with
          | .running => .ended .aborted
          | v => v) ∧
        d.1.recallCtx = s.seat.recallCtx ∧ d.1.profiles = s.seat.profiles ∧
        (∀ a, axisOf d.1 a =
          if x.axisAction.get a = .running then axisOf (endMove b s.seat a .aborted false).1 a else axisOf s.seat a) ∧
        let ended := [Axis.recline, .slide, .tilt, .lift, .headrest, .extend].flatMap (fun a =>
          if x.axisAction.get a = .running then (endMove b s.seat a .aborted false).2 else [])
        d.2 =
          ended ++ [.pass] ++ (if [Axis.slide, .lift, .tilt, .recline, .headrest, .extend].any x.driven.get then [.recallStart .brace .standDown none] else []) ++
            [.standDownVent .bbl, .standDownVent .bbr, .standDownVent .cbl, .standDownVent .cbr, .massageStop, .releasingEntered]) ∧
      (x.mode = .releasing → x.holdLeft = none →
        let idle : Brace := { x with mode := .idle, grade := 0, driven := .all false }
        let vents := ∃ i, x.vents.get i = .running
        (s.seat.recallCtx.isSome = true ∨ vents → runTask .releasingCheck b s.seat = (s.seat, [])) ∧
        (s.seat.recallCtx = none → ¬ vents →
          runTask .releasingCheck b s.seat =
            (post { s.seat with brace := idle } .braceState .none (pairWord 0 (restoreCode x.restore * 16)), [.pass]))) ∧
      (x.mode = .locked → c = (s.seat, [])) ∧
      (x.mode ≠ .locked →
        (let e := s.seat.engine
         (e.state = .off → c.1.engine = e) ∧
         (e.state ≠ .off → ∃ cells : CellSet,
           c.1.engine =
             { e with
               state := .off, held := cells, outstanding := 0, stillToAsk := 0, endReason := some .crash, asking := none,
               holdLeft := none, restLeft := none } ∧
           ∀ i ∈ [Bladder.m1, .m2, .m3, .m4, .m5, .m6, .m7, .m8], (inSet cells i = true ↔
             0 < (s.seat.gallery.bladders.get i).lastTarget ∨
               (e.asking = some { kind := .vent, target := 0 } ∧
                 (inSet e.outstanding i = true ∨ inSet e.stillToAsk i = true))))) ∧
        (∃ ended, c.2 = ended ++ [.pass]) ∧
        c.1.brace.mode = .locked ∧ c.1.brace.grade = 0 ∧ c.1.brace.crash = some k ∧ c.1.brace.holdLeft = none ∧
        c.1.brace.driven = .all false ∧ c.1.brace.bolster = x.bolster ∧ c.1.brace.vents = x.vents ∧
        (c.1.profiles.get .brace).valid = false ∧ c.1.recallCtx = none ∧ c.1.engine.state = .off ∧ c.1.gallery.inFlight = none ∧
        c.1.gallery.queue = [] ∧ c.1.scanner.window = none ∧ (∀ i, (contactOf c.1.scanner i).cond ≠ some .active) ∧
        (∀ z, (zoneOf c.1 z).heat = 0 ∧ (zoneOf c.1 z).fan = 0) ∧
        (∀ a, present b.fit a = true → (axisOf c.1 a).drive ≠ .driving ∧ (axisOf c.1 a).drive ≠ .waitGrant) ∧
        (∀ a, present b.fit a = true → (axisOf s.seat a).drive = .driving ∨ (axisOf s.seat a).drive = .coasting →
          (axisOf c.1 a).drive = .coasting ∧ (axisOf c.1 a).bridge = .braked) ∧
        (let recalled : Notices := match s.seat.recallCtx with
           | some r =>
             postTo s.seat.notices .recallDone .none (pairWord (slotCode r.slot * 16 + sourceCode r.source) (outcomeCode .preempted))
           | none => s.seat.notices
         let ended : Notices :=
           if s.seat.engine.state = .off then recalled
           else postTo recalled .massageStopped (match s.seat.engine.pattern with | some n => .pattern n | none => .none) (toWord 4)
         c.1.notices = postTo ended .braceState .none (pairWord 4 (crashCode k))) ∧
        ((∀ a, (axisOf s.seat a).learn = .none) → c.1.store = enterWrite s.seat.store (.crashLock (some k)))) ∧
      (x.mode ≠ .locked → x.mode = .idle ∨ x.mode = .releasing → exec .unlockBrace s = .next (refused s .state)) ∧
      (x.mode = .locked →
        (s.base.link.vehicle = .moving → exec .unlockBrace s = .next (refused s .state)) ∧
        (s.base.link.vehicle = .parked →
          let open_ : Brace := { x with mode := .idle, grade := 0, crash := none }
          let t : Seat := { s.seat with brace := open_, store := enterWrite s.seat.store (.crashLock none) }
          let zero (y : Did) (z : Zone) : Did :=
            let claim : Claim :=
              { consumer := .fan z, cls := 3, amount := b.cfg.fanClaim.l0, arrival := y.1.alloc.nextArrival, level := 0 }
            if (zoneOf y.1 z).fan ≠ 0 then y
            else if b.cfg.fanClaim.l0 = 0 then
              ((releaseClaim y.1 (.fan z)).1, y.2 ++ (releaseClaim y.1 (.fan z)).2)
            else if holdsClaim y.1.alloc (.fan z) then y
            else
              ({ y.1 with alloc := { y.1.alloc with
                  pending := insertClaim claim y.1.alloc.pending, nextArrival := y.1.alloc.nextArrival + 1 } },
                y.2 ++ [.pass])
          exec .unlockBrace s =
            .next (answered s .accepted (zero (zero (post t .braceState .none (pairWord 0 0), [.pass]) .c) .b))))) ∧
  (∀ (b : Base) (s : Seat) (op : Op), op.origin = .brace → op.kind ≠ .measure →
      let g := s.gallery
      let y := askBrace b s op
      let cuts (o : Op) : Prop := g.inFlight = some o ∧ o.origin ≠ .brace
      let massage : List Op := g.queue.filter (fun o => o.origin = .massage)
      let rest : List Op := g.queue.filter (fun o => o.origin ≠ .massage)
      let mine : List Op := rest.filter (fun o => o.bladder = op.bladder ∧ o.origin ≠ .brace)
      let kept : List Op := rest.filter (fun o => ¬ (o.bladder = op.bladder ∧ o.origin ≠ .brace))
      let gone : List Task := (massage ++ mine).map (fun o => .opResult o .cancelled)
      let isBrace (o : Op) : Bool := o.origin = .brace
      let enters (l : List Op) (ended : List Task) : Prop :=
        (y.1.gallery.queue = l.takeWhile isBrace ++ op :: l.dropWhile isBrace) ∧
        (∀ o, cuts o → y.1.gallery.inFlight = none ∧ isGranted y.1.alloc .compressor = false ∧
          y.2 = (releaseClaim s .compressor).2 ++ [.opResult o .preempted, .galleryIdle] ++ gone ++ ended ++ [.serve, .engineRetry]) ∧
        ((∀ o, ¬ cuts o) → y.1.gallery.inFlight = g.inFlight ∧ y.1.alloc = s.alloc ∧
          y.2 = gone ++ ended ++ [.serve, .engineRetry])
      (bladderOf y.1.gallery op.bladder).lastTarget = op.target ∧
      ((∀ o ∈ kept, o.bladder ≠ op.bladder) →
        (kept.length < b.cfg.queueLimit → enters kept []) ∧
        (b.cfg.queueLimit ≤ kept.length → (∀ o ∈ kept, o.origin = .brace) → enters kept []) ∧
        (∀ before o after, b.cfg.queueLimit ≤ kept.length → kept = before ++ o :: after → o.origin ≠ .brace →
          (∀ k ∈ after, k.origin = .brace) → (∀ k ∈ before ++ after, k.bladder ≠ o.bladder) →
          enters (before ++ after) [.opResult o .cancelled])) ∧
      (∀ before o after, kept = before ++ o :: after → o.bladder = op.bladder → (∀ k ∈ before ++ after, k.bladder ≠ op.bladder) →
        y.1.gallery.queue = before ++ op :: after))

/-- R140, R163, R164, R166: the whole frames of the safety line. A taken frame acts at the brace controller and is answered from the state
that leaves; a frame refused posts its reason and is answered; a dropped frame posts its reason and gets no reply. A stuck receiver hears
none of them. The rows stand for the moment at which a frame is judged (notes/assumptions/4.md). That a drop clears the symbols received
and the reply index is the model's choice (notes/assumptions/74.md). -/
def Obligations.SafetyFramesAreJudged : Prop :=
  ∀ s : State, Works s →
    let answers (i : Instr) (y : Did) (command argument : Nat) (o : FrameOutcome) : Prop :=
      let t := actOn s y
      let line : SafetyLine :=
        { t.base.line with
          receiver := .turnaround, symbols := frameSymbols command argument, replyFields := replySymbols t.base t.seat, replyIndex := 0,
          driving := none, low := false,
          record := some { command := some command, argument := some argument, outcome := o, reply := .none } }
      exec i s = .next { t with base := { t.base with line := line } }
    let drops (cause : DropCause) (reason : Nat) (o : FrameOutcome) (receiver : Receiver) (low : Bool) (fields : Option (Nat × Nat)) :
        Prop :=
      let line : SafetyLine :=
        { s.base.line with
          receiver := receiver, low := low, symbols := [], replyIndex := 0, driving := none,
          record := some { command := fields.map Prod.fst, argument := fields.map Prod.snd, outcome := o, reply := .none } }
      exec (.safetyFrameDrop cause) s =
        .next { s with base := { s.base with line := line }, seat := post s.seat .safetyFrame .link (toWord reason) }
    (s.base.line.receiver = .stuck → ∀ g k command argument cause,
      exec .statusQuery s = .next s ∧ exec (.brace g) s = .next s ∧ exec .hold s = .next s ∧ exec .standDown s = .next s ∧
      exec (.crash k) s = .next s ∧ exec (.safetyFrameRefused command argument) s = .next s ∧
      exec (.safetyFrameDrop cause) s = .next s) ∧
    (s.base.line.receiver ≠ .stuck →
      answers .statusQuery (s.seat, []) 1 0 .taken ∧
      answers (.brace .one) (takeBrace s.base s.seat 1) 5 1 .taken ∧
      answers (.brace .two) (takeBrace s.base s.seat 2) 5 2 .taken ∧
      answers .hold (takeHold s.base s.seat, []) 6 0 .taken ∧
      answers .standDown (takeStandDown s.base s.seat) 9 0 .taken ∧
      (∀ k, answers (.crash k) (takeCrash s.base s.seat k) 12
        (match k with | .front => 0 | .rear => 1 | .side => 2 | .unspecified => 3) .taken) ∧
      (∀ command argument,
        (command ≠ 1 → command ≠ 5 → command ≠ 6 → command ≠ 9 → command ≠ 12 →
          answers (.safetyFrameRefused command argument) (post s.seat .safetyFrame .link (toWord 6), []) command argument .unknown) ∧
        ((command = 1 ∨ command = 6 ∨ command = 9) ∧ argument ≠ 0 ∨ command = 5 ∧ argument ≠ 1 ∧ argument ≠ 2 ∨
            command = 12 ∧ 3 < argument →
          answers (.safetyFrameRefused command argument) (post s.seat .safetyFrame .link (toWord 7), []) command argument .argument)) ∧
      drops .lead 0 .lead .waitLead false none ∧ drops .gap 1 .gap .waitLead true none ∧
      drops .calRange 2 .calRange .waitLead false none ∧ drops .shortSymbol 3 .symbol .waitHigh false none ∧
      ∀ command argument, drops (.check command argument) 5 .check .waitLead false (some (command, argument))) ∧
    let x := s.seat.brace
    let attained : Nat :=
      if x.bolster.bbl ≠ .ended .done ∨ x.bolster.bbr ≠ .ended .done ∨ x.bolster.cbl ≠ .ended .done ∨ x.bolster.cbr ≠ .ended .done then 0
      else if x.grade = 1 then 1
      else if [Axis.slide, .lift, .tilt, .recline, .headrest, .extend].all (fun a =>
          x.axisAction.get a = .none ∨ x.axisAction.get a = .inWindow ∨ x.axisAction.get a = .ended .reached) then 2
      else 1
    let bits (n : Nat) : List Bool := [decide (n / 2 % 2 = 1), decide (n % 2 = 1)]
    let r := s.seat.axes.recline
    let ready : Bool :=
      decide (r.confidence ≠ .unlearned ∧ r.drive ≠ .fault ∧ s.base.monitor.state ≠ .cutoff ∧ s.seat.gallery.state ≠ .fault ∧
        x.mode ≠ .locked ∧ s.base.line.stuck = false)
    replySymbols s.base s.seat =
      (match x.mode with
        | .idle => [false, false, false]
        | .bracing => [false, false, true]
        | .braced => [false, true, false]
        | .releasing => [false, true, true]
        | .locked => [true, false, false]) ++
      bits (match x.mode with
        | .idle => 0
        | .bracing => x.grade
        | .releasing => x.grade
        | .braced => attained
        | .locked => match x.crash with
          | some .rear => 1
          | some .side => 2
          | some .unspecified => 3
          | _ => 0) ++
      [ready] ++
      bits (match s.base.monitor.state with
        | .normal => 0
        | .low => 1
        | .cutoff => 2)

/-- R160 to R162, R164, R165, R167, R181: the moments of the safety line. Timeouts and a symbol too long drop the frame, the reply is sent
symbol by symbol, a collision ends it, a low of 10000 µs that is not the part's own makes the line stuck (one inside a symbol drops the
frame first) and a high of 1000 µs clears it, and a falling edge wakes a parked part and is an ordinary one in RUN
(notes/assumptions/27.md). A symbol of the reply is a low of W/4 for a 0 and of W/2 for a 1, W being 200 µs where the receiver holds none
(notes/assumptions/62.md). LINE_STUCK and LINE_STUCK_CLEARED act whatever the level of the line before them (notes/assumptions/69.md), and
a frame that a park cut off is abandoned at the wake (notes/assumptions/70.md). That a drop and the entry to STUCK clear the symbols
received and the reply index, and that the end of a reply, SENT or COLLISION, keeps them, is the model's choice (notes/assumptions/74.md).
An edge to the level that the line has changes nothing. The corners of these moments are the model's (notes/assumptions/4.md,
notes/assumptions/26.md). -/
def Obligations.LineMomentsAct : Prop :=
  ∀ s : State,
    let l := s.base.line
    let becomes (i : Instr) (k : SafetyLine) (t : Seat) : Prop := exec i s = .next { s with base := { s.base with line := k }, seat := t }
    let dropped (o : FrameOutcome) (r : Receiver) : SafetyLine :=
      { l with
        receiver := r, symbols := [], replyIndex := 0, driving := none,
        record := some { command := none, argument := none, outcome := o, reply := .none } }
    let noted (n : Nat) : Seat := post s.seat .safetyFrame .link (toWord n)
    let low (i : Nat) : Nat := if l.replyFields.getD i false = true then l.w.getD 200 / 2 else l.w.getD 200 / 4
    let told (r : ReplyOutcome) : Option FrameRecord := l.record.map (fun x => { x with reply := r })
    (Works s →
      (l.receiver = .gap → becomes .safetyGapTimeout (dropped .gap .waitLead) (noted 1)) ∧
      (l.receiver = .symbols → l.low = false → becomes .safetySymbolTimeout (dropped .timeout .waitLead) (noted 4)) ∧
      (l.receiver = .symbols → l.low = true → becomes .safetySymbolTooLong (dropped .symbol .waitHigh) (noted 3)) ∧
      (l.receiver = .turnaround →
        let k : SafetyLine := { l with receiver := .reply, replyIndex := 0, driving := some (low 0) }
        becomes .safetyReplyStart k s.seat) ∧
      (l.receiver = .reply →
        let released : SafetyLine := { l with driving := none, replyIndex := l.replyIndex + 1 }
        let next : SafetyLine := { l with driving := some (low l.replyIndex) }
        let sent : SafetyLine := { l with receiver := .waitLead, replyIndex := 8, driving := none, record := told .sent }
        (l.driving.isSome = true → becomes .replySymbolEnd released s.seat) ∧
        (l.driving = none → l.replyIndex < 8 → becomes .replySymbolEnd next s.seat) ∧
        (l.driving = none → 8 ≤ l.replyIndex → exec .replySymbolEnd s = .next s) ∧
        becomes .safetyReplySent sent s.seat) ∧
      (l.receiver = .turnaround ∨ l.receiver = .reply →
        let index := if l.driving.isSome = true then l.replyIndex + 1 else l.replyIndex
        let k : SafetyLine :=
          { l with receiver := .waitHigh, replyIndex := index, driving := none, low := true, record := told .collision }
        becomes .safetyCollision k
          (post s.seat .safetyCollision .link (toWord (if l.receiver = .turnaround then 0 else index)))) ∧
      (l.receiver ≠ .stuck → l.driving = none →
        let k : SafetyLine := { l with receiver := .stuck, stuck := true, low := true, driving := none, symbols := [], replyIndex := 0 }
        let high (m : SafetyLine) : SafetyLine := { m with low := false }
        becomes .lineStuck k (post s.seat .stuck .link 1) ∧
        ∀ micros, l.low = true → 10000 ≤ micros →
          (l.receiver ≠ .symbols → becomes (.safetyLineEdge true micros) (high k) (post s.seat .stuck .link 1)) ∧
          (∀ w, l.receiver = .symbols → l.w = some w → 11 * w < 16 * micros →
            becomes (.safetyLineEdge true micros) (high { k with record := (dropped .symbol .stuck).record })
              (post (noted 3) .stuck .link 1))) ∧
      (l.driving.isSome = true → exec .lineStuck s = .next s) ∧
      (l.stuck = true →
        let k : SafetyLine := { l with receiver := .waitLead, stuck := false, low := false, driving := none }
        becomes .lineStuckCleared k (post s.seat .stuck .link 0)) ∧
      (l.receiver = .waitLead → l.low = false → ∀ micros,
        let k : SafetyLine := { l with receiver := .leadIn, low := true }
        becomes (.safetyLineEdge false micros) k s.seat ∧ becomes .safetyLineWake k s.seat) ∧
      (l.low = true → exec .safetyLineWake s = .next s) ∧
      (l.low = false →
        let k : SafetyLine := { l with low := true }
        let calibrates : SafetyLine := { l with receiver := .cal, low := true }
        (l.receiver = .gap → becomes .safetyLineWake calibrates s.seat) ∧
        (l.receiver = .turnaround → l.driving = none → exec .safetyLineWake s = exec .safetyCollision s) ∧
        (l.receiver ≠ .waitLead → l.receiver ≠ .gap → l.receiver ≠ .turnaround → becomes .safetyLineWake k s.seat)) ∧
      (l.receiver = .leadIn → l.low = true → ∀ micros, micros < 10000 →
        let k : SafetyLine := { l with receiver := if micros < 800 then .waitLead else .gap, low := false }
        let late : SafetyLine := { dropped .lead .waitLead with low := false }
        (micros ≤ 4000 → becomes (.safetyLineEdge true micros) k s.seat) ∧
        (4000 < micros → becomes (.safetyLineEdge true micros) late (noted 0))) ∧
      (l.receiver = .gap → l.low = false → ∀ micros,
        let k : SafetyLine := { l with receiver := .cal, low := true }
        let short : SafetyLine := { dropped .gap .waitLead with low := true }
        let long : SafetyLine := { dropped .gap .leadIn with low := true }
        (micros < 20 → becomes (.safetyLineEdge false micros) short (noted 1)) ∧
        (20 ≤ micros → micros ≤ 200 → becomes (.safetyLineEdge false micros) k s.seat) ∧
        (200 < micros → becomes (.safetyLineEdge false micros) long (noted 1))) ∧
      (l.receiver = .cal → l.low = true → ∀ micros, micros < 10000 →
        let k : SafetyLine := { l with receiver := .symbols, w := some micros, symbols := [], low := false }
        let bad : SafetyLine := { dropped .calRange .waitLead with low := false }
        (100 ≤ micros → micros ≤ 400 → becomes (.safetyLineEdge true micros) k s.seat) ∧
        (micros < 100 ∨ 400 < micros → becomes (.safetyLineEdge true micros) bad (noted 2))) ∧
      (∀ w, l.receiver = .symbols → l.w = some w → l.low = true → l.symbols.length < 15 → ∀ micros, micros < 10000 →
        let k : SafetyLine := { l with symbols := l.symbols ++ [decide (3 * w ≤ 8 * micros)], low := false }
        let short : SafetyLine := { dropped .symbol .waitHigh with low := false }
        let long : SafetyLine := { dropped .symbol .waitLead with low := false }
        (8 * micros < w → becomes (.safetyLineEdge true micros) short (noted 3)) ∧
        (w ≤ 8 * micros → 16 * micros ≤ 11 * w → becomes (.safetyLineEdge true micros) k s.seat) ∧
        (w ≤ 8 * micros → 11 * w < 16 * micros → becomes (.safetyLineEdge true micros) long (noted 3))) ∧
      (∀ w, l.receiver = .symbols → l.w = some w → l.low = false → ∀ micros,
        let k : SafetyLine := { l with low := true }
        let late : SafetyLine := { dropped .timeout .leadIn with low := true }
        (4 * micros ≤ 3 * w → becomes (.safetyLineEdge false micros) k s.seat) ∧
        (3 * w < 4 * micros → becomes (.safetyLineEdge false micros) late (noted 4))) ∧
      ∀ micros,
        let down : SafetyLine := { l with low := true }
        let up : SafetyLine := { l with low := false }
        let collided : SafetyLine := { l with receiver := .waitHigh, driving := none, low := true, record := told .collision }
        let cleared : SafetyLine := { l with receiver := .leadIn, stuck := false, driving := none, low := true }
        let ready : SafetyLine := { l with receiver := .waitLead, low := false }
        let falls : SafetyLine → Seat → Prop := becomes (.safetyLineEdge false micros)
        let rises : SafetyLine → Seat → Prop := becomes (.safetyLineEdge true micros)
        (l.low = true → falls l s.seat) ∧
        (l.low = false → rises l s.seat) ∧
        (l.low = false →
          (l.receiver = .turnaround → falls collided (post s.seat .safetyCollision .link 0)) ∧
          (l.receiver = .stuck → micros < 1000 → falls down s.seat) ∧
          (l.receiver = .stuck → 1000 ≤ micros → falls cleared (post s.seat .stuck .link 0)) ∧
          (l.receiver = .waitHigh ∨ l.receiver = .leadIn ∨ l.receiver = .cal ∨ l.receiver = .reply → falls down s.seat)) ∧
        (l.low = true →
          (l.receiver = .stuck → rises up s.seat) ∧
          (l.receiver = .waitHigh → micros < 10000 → rises ready s.seat) ∧
          (l.receiver = .waitLead ∨ l.receiver = .gap ∨ l.receiver = .turnaround ∨ l.receiver = .reply → micros < 10000 →
            rises up s.seat))) ∧
    (s.base.power = .parked →
      let woken := wake s
      let k : SafetyLine :=
        { woken.base.line with
          receiver := .waitHigh, low := true, symbols := [], replyIndex := 0, driving := none,
          record := some { command := none, argument := none, outcome := .wake, reply := .none } }
      let t : State :=
        { woken with base := { woken.base with line := k }, seat := post woken.seat .safetyFrame .link (toWord 8) }
      exec .safetyLineWake s = .next t ∧ ∀ micros, exec (.safetyLineEdge false micros) s = .next t)

/-- R161 to R163: sixteen symbols, sent as lows of any legal lengths between highs of legal lengths after a calibration of W, are read
back as the frame they spell: the state is as though the row of the whole frame had come with its calibration, whatever the
command and the argument, with their check. That the row of a refused frame given a pair of the table is that frame is the model's
choice (notes/assumptions/4.md). -/
def Obligations.SymbolsSpellTheFrame : Prop :=
  ∀ (s : State) (w command argument : Nat) (lows highs : List Nat),
    Works s → s.base.line.receiver = .symbols → s.base.line.w = some w → 100 ≤ w → w ≤ 400 → s.base.line.symbols = [] →
    s.base.line.low = false → command < 16 → argument < 256 →
    let symbols := frameSymbols command argument
    lows.length = 16 → highs.length = 16 →
    (∀ h ∈ highs, 4 * h ≤ 3 * w) →
    (∀ p ∈ symbols.zip lows,
      (p.1 = false → w ≤ 8 * p.2 ∧ 8 * p.2 < 3 * w) ∧ (p.1 = true → 3 * w ≤ 8 * p.2 ∧ 16 * p.2 ≤ 11 * w)) →
    let edges : List Instr := (lows.zip highs).flatMap (fun p => [.safetyLineEdge false p.2, .safetyLineEdge true p.1])
    let run (c : Option State) (i : Instr) : Option State := match c with
      | some t => match exec i t with
        | .next u => some u
        | _ => none
      | none => none
    ∃ t, edges.foldl run (some s) = some t ∧
      exec (.safetyFrameRefused command argument) s = .next t

/-! ### The switch pack -/

/-- R52 to R56, R61, R79: axis contacts, raw levels and stuck contacts. An accepted press with no partner held aborts a running recall
and acts in IDLE, ends a restore and acts in RELEASING when it would act in IDLE, and is only held in the other brace states; with its
partner pressed both are HELD_OFF and a manual move ends. A release, or a STUCK expiry, of an ACTIVE contact ends its move REACHED; the
STUCK expiry of an ACTIVE key aborts the recall that it holds, and that of an ACTIVE lumbar contact stops its repetition (R54, R60, R80).
The wetting pull-ups are on in RUN and, in PARKED, at the wake-interval instants alone. A press on an axis that drives or coasts would
always act (the model's reading, notes/assumptions/52.md), and so would a press that aborts an easy exit on another axis
(notes/assumptions/64.md).
R61, R79, R151: a press that would act ends RELEASING. A restore that runs is aborted with outcome ABORTED_BY_SWITCH; the brace state
becomes IDLE, grade 0, with the driven set empty; BRACE_STATE is posted with that outcome, a pass follows, and the stand-down vents run
on. -/
def Obligations.AxisContactsAct : Prop :=
  (∀ (s : State) (a : Axis) (d : Dir), Works s → present s.base.fit a = true →
      let sc := s.seat.scanner
      let mine := contactOf sc (.axis a d)
      let other := Contact.axis a (match d with | .up => .down | .down => .up)
      let x := axisOf s.seat a
      let owner := ownerMet s.seat.brace.mode x
      let pressed : ContactState :=
        { closed := true, pressed := true, cond := some .heldOff, debounce := none, stuckLeft := some (s.base.cfg.stuckLimit * 1000) }
      let released : ContactState := { closed := false, pressed := false, cond := none, debounce := none, stuckLeft := none }
      let put (t : Seat) (c : Contact) (y : ContactState) : Seat := { t with scanner := putContact t.scanner c y }
      let held := put s.seat (.axis a d) pressed
      let press := exec (.axisContactPress a d) s
      (mine.pressed = false →
        ((contactOf sc other).pressed = true ∧ (contactOf sc other).cond ≠ some .stuck →
          ((contactOf sc other).cond ≠ some .active → press = .next { s with seat := held }) ∧
          ((contactOf sc other).cond = some .active →
            let off : ContactState := { contactOf sc other with cond := some .heldOff }
            (owner ≠ .manual → press = .next { s with seat := put held other off }) ∧
            (owner = .manual →
              let y := endMove s.base s.seat a .reached false
              press = .next (actOn s (put (put y.1 (.axis a d) pressed) other off, y.2))))) ∧
        ((contactOf sc other).pressed = false ∨ (contactOf sc other).cond = some .stuck →
          (s.seat.brace.mode = .idle →
            let y := abortRecall s.base held .bySwitch
            press = .next (actOn s (y.1, y.2 ++ [.axisPress a d]))) ∧
          (s.seat.brace.mode = .releasing →
            let atLimit := (x.drive = .idle ∨ x.drive = .waitGrant) ∧ atSoftLimit (s.base.cfg.axis.get a) x d = true
            (x.drive = .fault ∨ atLimit → press = .next { s with seat := held }) ∧
            (x.drive ≠ .fault → ¬ atLimit →
              let y := pressEndsRestore s.base held
              press = .next (actOn s (y.1, y.2 ++ [.axisPress a d])))) ∧
          (s.seat.brace.mode = .bracing ∨ s.seat.brace.mode = .braced ∨ s.seat.brace.mode = .locked →
            press = .next { s with seat := held }))) ∧
      (let active : ContactState := { mine with cond := some .active }
       (x.drive = .fault ∨ owner = .brace → runTask (.axisPress a d) s.base s.seat = (s.seat, [])) ∧
       (x.drive ≠ .fault → owner ≠ .brace →
         runTask (.axisPress a d) s.base s.seat =
           takeMove s.base (put s.seat (.axis a d) active) a .manual { kind := .jog, dir := d, expiry := none })) ∧
      (mine.pressed = true →
        let open_ := put s.seat (.axis a d) released
        (mine.cond = some .active → owner = .manual →
          exec (.axisContactRelease a d) s = .next (actOn s (endMove s.base open_ a .reached false))) ∧
        (mine.cond ≠ some .active ∨ owner ≠ .manual → exec (.axisContactRelease a d) s = .next { s with seat := open_ })) ∧
      (∀ c closed, contactPresent s.base.fit c = true →
        let k := contactOf sc c
        let level : ContactState :=
          { k with closed := closed, debounce := if closed = k.pressed then none else some s.base.cfg.debounce }
        (k.closed ≠ closed → exec (.contactLevelChange c closed) s = .next { s with seat := put s.seat c level }) ∧
        (k.closed = closed → exec (.contactLevelChange c closed) s = .next s) ∧
        (k.stuckLeft.isSome = true →
          let stuck : ContactState := { k with cond := some .stuck, stuckLeft := none }
          let t := post (put s.seat c stuck) .switchStuck (match c with | .axis e _ => .axis e | _ => .none) (toWord (contactCode c))
          (k.cond ≠ some .active → exec (.switchStuck c) s = .next { s with seat := t }) ∧
          (∀ e f, c = .axis e f → k.cond = some .active →
            (ownerMet s.seat.brace.mode (axisOf s.seat e) = .manual →
              exec (.switchStuck c) s = .next (actOn s (endMove s.base t e .reached false))) ∧
            (ownerMet s.seat.brace.mode (axisOf s.seat e) ≠ .manual → exec (.switchStuck c) s = .next { s with seat := t })) ∧
          (∀ n, c = .key n → k.cond = some .active →
            let holds := ∃ r, s.seat.recallCtx = some r ∧ r.deadMan = some n
            (holds → exec (.switchStuck c) s = .next (actOn s (abortRecall s.base t .keyReleased))) ∧
            (¬ holds → exec (.switchStuck c) s = .next { s with seat := t })) ∧
          (∀ n, c = .lumbar n → k.cond = some .active →
            exec (.switchStuck c) s = .next { s with seat := { t with scanner := { t.scanner with waiting := [] } } }))) ∧
      (wettingPullUp s.base.power false = true ∧ wettingPullUp .parked true = true ∧ wettingPullUp .parked false = false)) ∧
  (∀ (b : Base) (s : Seat),
      let y := pressEndsRestore b s
      let t := abortRecall b s .bySwitch
      let idle : Brace := { s.brace with mode := .idle, grade := 0, holdLeft := none, driven := .all false, restore := .bySwitch }
      let u : Seat := { t.1 with brace := idle }
      y = (post u .braceState .none (pairWord 0 (4 * 16)), t.2 ++ [.pass]) ∧ y.1.recallCtx = none ∧
      (∀ r, s.recallCtx = some r →
        ∃ last, y.1.lastRecall = some last ∧ last.phase = .aborted ∧ last.outcome = some .bySwitch ∧ last.source = r.source))

/-- R57 to R61, R80: keys and lumbar contacts. A key acts when it is armed and 50 ms have passed since its release, in IDLE or by ending a
restore in RELEASING: SET opens the store window of 5000 ms; a MEM key stores in the window, recalls outside it, or posts KEY_REFUSED. Its
release starts the re-arm of 50 ms and ends a recall that it holds. A press that comes within the 50 ms does not act and stops the timer;
an armed key that a brace ignores stays armed (the model's reading, notes/assumptions/42.md). The recall of a MEM key meets on an axis
that coasts the owner of its pending move, else that of the move (the model's reading, notes/assumptions/14.md). A lumbar contact hands
steps while it is ACTIVE, the next one when the last operation of a step has ended; a step that is not taken, or that queues no operation,
leaves it HELD_OFF. -/
def Obligations.KeysAndLumbarContactsAct : Prop :=
  ∀ (s : State) (k : Key) (l : LumbarStep), Works s →
    let b := s.base
    let sc := s.seat.scanner
    let pressed : ContactState :=
      { closed := true, pressed := true, cond := some .heldOff, debounce := none, stuckLeft := some (b.cfg.stuckLimit * 1000) }
    let released : ContactState := { closed := false, pressed := false, cond := none, debounce := none, stuckLeft := none }
    let put (t : Seat) (c : Contact) (y : ContactState) : Seat := { t with scanner := putContact t.scanner c y }
    let key := contactOf sc (.key k)
    let lumbar := contactOf sc (.lumbar l)
    let presses (i : Instr) (c : Contact) (act : Task) : Prop :=
      let t := put s.seat c pressed
      (s.seat.brace.mode = .idle → exec i s = .next (actOn s (t, [act]))) ∧
      (s.seat.brace.mode = .releasing →
        let y := pressEndsRestore b t
        exec i s = .next (actOn s (y.1, y.2 ++ [act]))) ∧
      (s.seat.brace.mode = .bracing ∨ s.seat.brace.mode = .braced ∨ s.seat.brace.mode = .locked →
        exec i s = .next { s with seat := t })
    (key.pressed = false →
      (sc.armed.get k = true → sc.rearm.get k = none → presses (.keyPress k) (.key k) (.keyAct k)) ∧
      (sc.armed.get k = false ∨ sc.rearm.get k ≠ none →
        let t := put s.seat (.key k) pressed
        exec (.keyPress k) s = .next { s with seat := { t with scanner := { t.scanner with rearm := sc.rearm.put k none } } })) ∧
    (key.pressed = true →
      let t := put s.seat (.key k) released
      let u : Seat := { t with scanner := { t.scanner with rearm := sc.rearm.put k (some 50) } }
      let deadMan := ∃ r, s.seat.recallCtx = some r ∧ r.deadMan = some k
      (key.cond = some .active → deadMan →
        exec (.keyRelease k) s = .next (actOn s (abortRecall b u .keyReleased))) ∧
      (key.cond ≠ some .active ∨ ¬ deadMan → exec (.keyRelease k) s = .next { s with seat := u })) ∧
    ((sc.rearm.get k).isSome = true →
      exec (.keyRearm k) s = .next
        { s with seat := { s.seat with scanner := { sc with armed := sc.armed.put k true, rearm := sc.rearm.put k none } } }) ∧
    exec .storeWindowEnd s = .next { s with seat := { s.seat with scanner := { sc with window := none } } } ∧
    (let active : ContactState := { key with cond := some .active }
     let t := put s.seat (.key k) active
     let u : Seat := { t with scanner := { t.scanner with armed := sc.armed.put k false } }
     let shut : Seat := { u with scanner := { u.scanner with window := none } }
     let refused_ (t : Seat) (code : Nat) (r : Result) : Seat := post t .keyRefused .none (pairWord code (resultCode r))
     (k = .set →
       runTask (.keyAct k) b s.seat = ({ u with scanner := { u.scanner with window := some 5000 } }, [])) ∧
     ∀ p n, (k = .mem1 ∧ p = Retained4.p1 ∧ n = 0) ∨ (k = .mem2 ∧ p = .p2 ∧ n = 1) ∨ (k = .mem3 ∧ p = .p3 ∧ n = 2) →
       (sc.window.isSome = true →
         let q := captureStore b.fit s.seat
         let moves := ∃ a, present b.fit a = true ∧
           ((axisOf s.seat a).drive = .waitGrant ∨ (axisOf s.seat a).drive = .driving ∨ (axisOf s.seat a).drive = .coasting)
         let full := s.seat.store.queue.any (sameRecord (.profile p Reset.profile)) = false ∧ 9 ≤ s.seat.store.queue.length
         (moves ∨ full → runTask (.keyAct k) b s.seat = (refused_ shut n .busy, [])) ∧
         (¬ moves → ¬ full →
           runTask (.keyAct k) b s.seat =
             ({ shut with
                 profiles := s.seat.profiles.set p.slot q, store := enterWrite s.seat.store (.profile p q) }, []))) ∧
       (sc.window = none →
         let q := s.seat.profiles.get p.slot
         let busy := ∃ a, present b.fit a = true ∧ (q.axes.get a).isSome = true ∧
           (ownerMet s.seat.brace.mode (axisOf s.seat a) = .manual ∨ ownerMet s.seat.brace.mode (axisOf s.seat a) = .learn)
         (q.valid = false → runTask (.keyAct k) b s.seat = (refused_ u n .empty, [])) ∧
         (q.valid = true → busy → runTask (.keyAct k) b s.seat = (refused_ u n .busy, [])) ∧
         (q.valid = true → ¬ busy →
           let y := abortRecall b u .superseded
           runTask (.keyAct k) b s.seat =
             (y.1, y.2 ++ [.recallStart p.slot .key (if b.link.vehicle = .moving then some k else none)])))) ∧
    (lumbar.pressed = false → presses (.lumbarContactPress l) (.lumbar l) (.lumbarAct l)) ∧
    (lumbar.pressed = true →
      let t := put s.seat (.lumbar l) released
      (lumbar.cond = some .active →
        exec (.lumbarContactRelease l) s = .next { s with seat := { t with scanner := { t.scanner with waiting := [] } } }) ∧
      (lumbar.cond ≠ some .active → exec (.lumbarContactRelease l) s = .next { s with seat := t })) ∧
    (∃ L : PerLumbar ContactState,
      (∀ j, L.get j =
        if j = l then { lumbar with cond := some .active }
        else if (sc.lumbar.get j).cond = some .active then { sc.lumbar.get j with cond := some .heldOff } else sc.lumbar.get j) ∧
      runTask (.lumbarAct l) b s.seat = runTask .lumbarNext b { s.seat with scanner := { sc with lumbar := L } }) ∧
    (∀ op r n, op.seed = false → op.origin = .support → op.step = some n →
      let left := sc.waiting.filter (fun y => y ≠ op.bladder)
      let waits : Seat := { s.seat with scanner := { sc with waiting := left } }
      (n ≠ sc.stepNo ∨ op.bladder ∉ sc.waiting → runTask (.opResult op r) b s.seat = (s.seat, [])) ∧
      (n = sc.stepNo → op.bladder ∈ sc.waiting →
        runTask (.opResult op r) b s.seat = (waits, if left = [] then [.lumbarNext] else []))) ∧
    (lumbar.cond = some .active → (∀ j, j ≠ l → (contactOf sc (.lumbar j)).cond ≠ some .active) →
      let off : ContactState := { lumbar with cond := some .heldOff }
      let asks := (lumbarAsks s.seat.gallery l).map Prod.fst
      let counted : Seat := { s.seat with scanner := { sc with stepNo := sc.stepNo + 1, waiting := asks } }
      (lumbarVerdict b s.seat.gallery l ≠ .taken → runTask .lumbarNext b s.seat = (put s.seat (.lumbar l) off, [])) ∧
      (lumbarVerdict b s.seat.gallery l = .taken → asks ≠ [] →
        runTask .lumbarNext b s.seat = lumbarStep counted l (some (sc.stepNo + 1))) ∧
      (lumbarVerdict b s.seat.gallery l = .taken → asks = [] →
        let g := s.seat.gallery
        let v := lumbarValues g l
        let aimed (i : Bladder) (t : Nat) : BladderState := { g.bladders.get i with comfort := some t }
        let h : Gallery := { g with bladders := (g.bladders.set .lu (aimed .lu v.1)).set .ll (aimed .ll v.2) }
        runTask .lumbarNext b s.seat = (put { counted with gallery := h } (.lumbar l) off, [.serve])))

/-! ### Configuration, park, resets -/

/-- R8, R43, R171, R172, R176, R177, R180, R181: WRITE CONFIG and SET VEHICLE STATE, every answer outside the restricted mode, and
STORE_WRITE_COMPLETE in every power state. An accepted item takes effect at once as its own rule says, and the configuration record is
queued. A write asked for a record replaces the entry queued for that record in its place, or enters at the back, and with no write in
flight the oldest entry begins at once. A vehicle that moves ends every learn run ABORTED. A completed write reads back as it was queued,
the axis whose dirty mark was QUEUED has it MARKED and raises its deferred claim, and the oldest queued write begins. With the last write
PARKING ends: the park is abandoned when a condition of BUSY holds, or the part enters PARKED with its climate off, its fan claims
released, its contacts RELEASED or STUCK, and its sampling stopped. What stops at that entry beyond the words of R181, the threshold
settle, the stagger window, the stuck measurements and a begun frame, is the model's reading (notes/assumptions/33.md); that a Fan claim
written for both fans makes one pass is its choice (notes/assumptions/63.md), and so are that of two fans at level 0 zone C raises its
claim first (notes/assumptions/76.md), that a safety frame or a reply in progress stays as it is for the wake to abandon
(notes/assumptions/70.md) and that a contact which is not STUCK counts as open from that entry to its first reading
(notes/assumptions/73.md). -/
def Obligations.ConfigurationAndWritesAreTaken : Prop :=
  (∀ (q : StoreQueue) (w : RecordWrite),
      let same (x : RecordWrite) : Prop := match w, x with
        | .axis a _, .axis c _ => a = c
        | .profile p _, .profile k _ => p = k
        | .pattern p _, .pattern k _ => p = k
        | .configuration _, .configuration _ => True
        | .crashLock _, .crashLock _ => True
        | _, _ => False
      let becomes (l : List RecordWrite) : Prop :=
        (q.inFlight.isSome = true → enterWrite q w = { q with queue := l }) ∧
        (∀ o rest, q.inFlight = none → l = o :: rest → enterWrite q w = { queue := rest, inFlight := some o })
      (∀ before x after, q.queue = before ++ x :: after → same x → (∀ y ∈ before ++ after, ¬ same y) →
        becomes (before ++ w :: after)) ∧
      ((∀ x ∈ q.queue, ¬ same x) → becomes (q.queue ++ [w]))) ∧
  ∀ (s : State) (item index v w : Nat),
    let o := openFrame s
    (Works s → s.seat.brace.mode = .idle ∨ s.seat.brace.mode = .releasing →
      (writeItem s.base.fit s.base.cfg item index v w = none → exec (.writeConfig item index v w) s = .next (refused s .range)) ∧
      (∀ c, writeItem s.base.fit s.base.cfg item index v w = some c →
        let full := s.seat.store.queue.any (sameRecord (.configuration c)) = false ∧ 9 ≤ s.seat.store.queue.length
        let b : Base := { o.base with cfg := c }
        let takes (y : Did) : Prop :=
          let t := settled b y
          let u : State := { o with base := b, seat := { t with store := enterWrite t.store (.configuration c) } }
          exec (.writeConfig item index v w) s = .next (closeFrame u .accepted [])
        let al := s.seat.alloc
        let claims (hit : Claim → Prop) [DecidablePred hit] (amount : Nat) : Seat :=
          { s.seat with alloc := { al with
              pending := al.pending.map (fun x => if hit x then { x with amount := amount } else x)
              granted := al.granted.map (fun g => if hit g.claim then { g with claim := { g.claim with amount := amount } } else g) } }
        (full → exec (.writeConfig item index v w) s = .next (refused s .busy)) ∧
        (¬ full →
          takes (itemEffect item index v b s.seat) ∧
          (item = 0x25 → index = 0 →
            let amounts : Did :=
              if (∃ x ∈ al.pending, (x.consumer = .fan .c ∨ x.consumer = .fan .b) ∧ x.level = 0) ∨
                  (∃ g ∈ al.granted, (g.claim.consumer = .fan .c ∨ g.claim.consumer = .fan .b) ∧ g.claim.level = 0) then
                (claims (fun x => (x.consumer = .fan .c ∨ x.consumer = .fan .b) ∧ x.level = 0) v, [.pass])
              else (s.seat, [])
            takes (andThen (andThen amounts (fun t => levelZeroClaim b t .c)) (fun t => levelZeroClaim b t .b))) ∧
          (item ∉ [0x01, 0x21, 0x22, 0x25, 0x26, 0x44, 0x57] → takes (s.seat, [])) ∧
          (item = 0x21 ∨ item = 0x22 → takes (s.seat, [.pass])) ∧
          (item = 0x44 → takes (s.seat, [.engineRetry])) ∧
          (item = 0x26 →
            (holdsClaim al .compressor = true → takes (claims (fun x => x.consumer = .compressor) v, [.pass])) ∧
            (holdsClaim al .compressor = false → takes (s.seat, []))) ∧
          (∀ a, item = 0x01 → index = axisCode a →
            (holdsClaim al (.axis a) = true → takes (claims (fun x => x.consumer = .axis a) v, [.pass])) ∧
            (holdsClaim al (.axis a) = false → takes (s.seat, []))) ∧
          (item = 0x25 → index ≠ 0 →
            let hit (x : Claim) : Prop := (x.consumer = .fan .c ∨ x.consumer = .fan .b) ∧ x.level = index
            ((∀ x ∈ al.pending, ¬ hit x) → (∀ g ∈ al.granted, ¬ hit g.claim) → takes (s.seat, [])) ∧
            ((∃ x ∈ al.pending, hit x) ∨ (∃ g ∈ al.granted, hit g.claim) →
              takes (claims (fun x => (x.consumer = .fan .c ∨ x.consumer = .fan .b) ∧ x.level = index) v, [.pass]))) ∧
          (item = 0x25 → index = 0 → (∀ z, holdsClaim al (.fan z) = false) →
            ((∀ z, (zoneOf s.seat z).fan ≠ 0) ∨ v = 0 → takes (s.seat, [])) ∧
            (∀ z, v ≠ 0 → (zoneOf s.seat z).fan = 0 → (∀ y, y ≠ z → (zoneOf s.seat y).fan ≠ 0) →
              let claim : Claim := { consumer := .fan z, cls := 3, amount := v, arrival := al.nextArrival, level := 0 }
              let raised : Alloc := { al with pending := insertClaim claim al.pending, nextArrival := al.nextArrival + 1 }
              takes ({ s.seat with alloc := raised }, [.pass]))) ∧
          (∀ z, item = 0x57 → (index = 0 ∧ z = Zone.c) ∨ (index = 1 ∧ z = Zone.b) →
            let due := v ≠ 0 ∧ (zoneOf s.seat z).heat = 3 ∧ v * 60000 ≤ (zoneOf s.seat z).level3
            (¬ due → takes (s.seat, [])) ∧
            (due →
              let y : ZoneState := { zoneOf s.seat z with heat := 2, level3 := 0 }
              takes (post { s.seat with zones := s.seat.zones.set z y } .heatStepdown (.zone z) 2, []))))) ∧
      (2 ≤ v → exec (.setVehicleState v) s = .next (refused s .range)) ∧
      ∀ n, (v = 0 ∧ n = Vehicle.parked) ∨ (v = 1 ∧ n = Vehicle.moving) →
        let link : Link := { o.base.link with vehicle := n }
        let u : State := { o with base := { o.base with link := link } }
        (n = .parked ∨ s.base.link.vehicle = .moving ∨ (∀ a, present s.base.fit a = true → (axisOf s.seat a).learn = .none) →
          exec (.setVehicleState v) s = .next (closeFrame u .accepted [])) ∧
        (n = .moving → s.base.link.vehicle = .parked →
          let learning := [Axis.slide, .lift, .tilt, .recline, .headrest, .extend].filter
            (fun a => decide (present s.base.fit a = true ∧ (axisOf s.seat a).learn ≠ .none))
          exec (.setVehicleState v) s =
            .next (closeFrame (actOn u (forEach learning (fun a t => endMove u.base t a .aborted false) s.seat)) .accepted []))) ∧
    (s.seat.store.inFlight = none → exec .storeWriteComplete s = .next s) ∧
    ∀ x, s.seat.store.inFlight = some x →
      let records := writeRecord s.base.records x
      let base : Base := { s.base with records := records }
      let rest : StoreQueue := { s.seat.store with inFlight := none }
      let next : StoreQueue := match s.seat.store.queue with
        | [] => { queue := [], inFlight := none }
        | y :: rest => { queue := rest, inFlight := some y }
      let told : Did := match x with
        | .axis a r =>
          let y := axisOf s.seat a
          let marked : AxisState := { y with dirty := .marked }
          let t : Seat := { s.seat with store := rest, axes := s.seat.axes.set a marked }
          if r.clean = false ∧ y.dirty = .queued then
            if y.drive = .waitGrant ∧ isPending s.seat.alloc (.axis a) = false then
              raiseClaim t (.axis a) (if y.owner = .brace then 0 else 1) (s.base.cfg.axis.get a).claim 0
            else (t, [])
          else ({ s.seat with store := rest }, [])
        | _ => ({ s.seat with store := rest }, [])
      let t := settled base told
      let u : State := { s with base := base, seat := { t with store := startWrite t.store } }
      let y := u.seat
      let busy :=
        (∃ a, present s.base.fit a = true ∧ (axisOf y a).drive ≠ .idle) ∨ y.recallCtx ≠ none ∨
        y.gallery.state ≠ .idle ∨ y.gallery.queue ≠ [] ∨ y.engine.state ≠ .off ∨ (y.brace.mode ≠ .idle ∧ y.brace.mode ≠ .locked) ∨
        (∃ c, contactPresent s.base.fit c = true ∧ (contactOf y.scanner c).pressed = true ∧
          ((contactOf y.scanner c).cond = some .active ∨ (contactOf y.scanner c).cond = some .heldOff)) ∨
        s.base.line.low = true ∨ s.base.line.driving ≠ none
      let empty := y.store.queue = [] ∧ y.store.inFlight = none
      (∀ a r, x = .axis a r → readCopies (records.axis.get a) = some r) ∧
      (∀ p r, x = .profile p r → readCopies (records.profile.get p) = some r) ∧
      (∀ p r, x = .pattern p r → readCopies (records.pattern.get p) = some r) ∧
      (∀ r, x = .configuration r → readCopies records.configuration = some r) ∧
      (∀ r, x = .crashLock r → readCopies records.crashLock = some r) ∧
      (s.base.power = .run → exec .storeWriteComplete s = .next u) ∧
      ((∀ a r, x = .axis a r → r.clean = true ∨ (axisOf s.seat a).dirty ≠ .queued) →
        u = { s with base := base, seat := { s.seat with store := next } }) ∧
      (s.base.power = .parking →
        (¬ empty → exec .storeWriteComplete s = .next u) ∧
        (empty → busy → exec .storeWriteComplete s = .next { u with base := { base with power := .run } }) ∧
        (empty → ¬ busy →
          let off := settled base (andThen (climateOff base y) releaseFans)
          let still (h : Hall) : Hall := { h with accepted := .unknown, runHigh := false, runLength := 0, lowMicros := 0 }
          ∃ sc : Scanner,
            (∀ c, contactOf sc c =
              if (contactOf off.scanner c).cond = some .stuck then { contactOf off.scanner c with debounce := none }
              else { closed := false, pressed := false, cond := none, debounce := none, stuckLeft := none }) ∧
            sc = { off.scanner with axes := sc.axes, lumbar := sc.lumbar, keys := sc.keys, window := none } ∧
            let parked : Base :=
              { base with
                power := .parked, wakeLeft := some s.base.cfg.wakeInterval, hall := s.base.hall.map still,
                monitor := { s.base.monitor with sampleLeft := none, settleLeft := none },
                link := { s.base.link with begun := false, captured := none } }
            let quiet : Seat :=
              { off with
                scanner := sc, alloc := { off.alloc with stagger := none },
                zones := { c := { off.zones.c with sampleLeft := none }, b := { off.zones.b with sampleLeft := none } } }
            exec .storeWriteComplete s = .next { s with base := parked, seat := quiet })) ∧
      (s.base.power = .draining →
        exec .storeWriteComplete s = .next { s with base := base, seat := { s.seat with store := next } }) ∧
      (s.base.power = .parked ∨ s.base.power = .off → exec .storeWriteComplete s = .next s)

/-- R176, R180 to R183, R26, R40, R47, R50, R62, R106, R122, R138, R158, R167: PARK, every answer outside the restricted mode, the resets,
the loss of power, and the wake-interval instants. PARK is BUSY in RELEASING and while the safety line is low, pulled by the other end or
by the part; in PARKING it is ACCEPTED all the same (the model's choice, notes/assumptions/68.md), and leaves a vehicle state MOVING as it
is (its choice too, notes/assumptions/75.md). A warm reset drains the store queue with everything else idle; its end, and a power-on
reset, load the records, post RECORD_DEFAULTED for each defaulted one in load order, place the patterns one after the other, take the
reset values, raise the level-0 fan claims where they are above 0 (notes/assumptions/18.md), zone C first (the model's choice,
notes/assumptions/76.md), and serve the first of the fourteen seeding operations; a power loss keeps the records alone, and a write cut
short spoils the copy it wrote and leaves the other to be read. The reset values that no table gives (the last direction, the comparator,
the run of a hall front end, the raw contacts, V of the last sample, the reply symbols, the header and its like) are the model's
(notes/assumptions/9.md); so are which copy is cut at equal numbers (notes/assumptions/8.md), the part without supply and a POWER_ON_RESET
with supply present, which loses it first (notes/assumptions/10.md), and the drain (notes/assumptions/11.md). An instant reads the
contacts and wakes the part when one that is not STUCK is closed, whose measurement starts at the wake; one read open loses STUCK, and a
key so read is armed at once, with no re-arm time (the model's reading, notes/assumptions/32.md); what an instant that changes the monitor
state does beyond the base is not stated here. An instant that finds RUN measures the contacts read closed (the model's reading,
notes/assumptions/57.md). -/
def Obligations.ParkAndResetsAct : Prop :=
  ∀ (s : State) (fit : Fitment) (high : Bool),
    let drains (t : State) : Prop :=
      t.base.power = .draining ∧ t.base.records = s.base.records ∧ t.base.cfg = s.base.cfg ∧ t.base.fit = s.base.fit ∧
      t.seat.store = s.seat.store ∧ t.pending = s.pending ∧ t.seat.alloc.granted = [] ∧ t.seat.recallCtx = none ∧
      (∀ a, (axisOf t.seat a).bridge = .released) ∧ t.seat.gallery.inFlight = none ∧ t.seat.notices.queue = []
    let resets (i : Instr) (records : Records) (f : Fitment) : Prop :=
      let cfg := (readCopies records.configuration).getD defaultSettings
      let lock := (readCopies records.crashLock).getD none
      let place (p : Patterns) (k : PatternNo) : Patterns := match readCopies (records.pattern.get k) with
        | some (some steps) =>
          if steps.length + p.steps.length ≤ 160 then
            let cells := steps.foldl (fun c st => if st.action ≤ 1 then c ||| st.cells else c) 0
            let entry : PatternEntry := { start := p.steps.length, length := steps.length, cells := cells }
            { p with directory := p.directory.set k (some entry), steps := p.steps ++ steps }
          else p
        | _ => p
      let numbers := [PatternNo.n1, .n2, .n3, .n4, .n5, .n6, .n7, .n8]
      let patterns := numbers.foldl place { directory := .all none, steps := [], staging := none }
      let tell (n : Notices) (bad : Bool) (about : Subject) (code : Nat) : Notices :=
        if bad then postTo n .recordDefaulted about (toWord code) else n
      let parts := tell (tell { queue := [], lost := false, captured := none } (readCopies records.configuration).isNone .none 0)
        (readCopies records.crashLock).isNone .none 1
      let seats := [Axis.slide, .lift, .tilt, .recline, .headrest, .extend].foldl
        (fun n a => tell n (present f a && (readCopies (records.axis.get a)).isNone) (.axis a) 2) parts
      let slots := [(Retained4.p1, 3), (.p2, 4), (.p3, 5), (.p4, 6)].foldl
        (fun n p => tell n (readCopies (records.profile.get p.1)).isNone .none p.2) seats
      let notices := numbers.foldl
        (fun n k => tell n (decide (readCopies (records.pattern.get k) ≠ some none) && (patterns.directory.get k).isNone) (.pattern k) 7)
        slots
      let still (p : Nat) (high : Option Nat) (c : Confidence) (up down : Nat) : AxisState :=
        { position := p, lowStop := if high.isSome then some 256 else none, highStop := high, confidence := c, drive := .idle,
          owner := .none, move := none, pending := none, leadUp := up, leadDown := down, disturbance := 0, lastResult := none,
          resync := 0, dirty := .notMarked, learn := .none, cause := none, bridge := .released, driveDir := .down, stallLeft := none,
          coastLeft := none, blankLeft := none, overcurrentLeft := none, comparator := false, coastResult := none,
          coastReport := false, afterShed := false }
      let open_ : ContactState := { closed := false, pressed := false, cond := none, debounce := none, stuckLeft := none }
      let empty : Profile := { valid := false, axes := .all none, support := .all none, climate := none }
      let load (p : Retained4) : Profile := (readCopies (records.profile.get p)).getD empty
      let zone (z : Zone) : ZoneState :=
        { heat := 0, fan := 0, mode := .off, ntc := none, temp := none, i16 := 0, capped := false, current := 0, demand := 0,
          grant := 0, loopDuty := 0, dutyOut := 0, level3 := 0, sampleLeft := some (cfg.zone.get z).heatPeriod, vUsed := 0 }
      let seed (k : OpKind) (b : Bladder) : Op :=
        { bladder := b, kind := k, target := 0, origin := .support, bursts := 0, seed := true, step := none }
      let gallery : Gallery :=
        { state := .idle, inFlight := none, burstLeft := none, waitLeft := none, settleLeft := none, lastReading := none,
          queue :=
            [Bladder.m1, .m2, .m3, .m4, .m5, .m6, .m7, .m8].map (seed .vent) ++
              [Bladder.lu, .ll, .bbl, .bbr, .cbl, .cbr].map (seed .measure)
          bladders := .all { measured := none, comfort := none, lastTarget := 0, lastResult := none } }
      let alloc : Alloc :=
        { pending := [], granted := [], nextArrival := 0, nextGrant := 0, cSet := 120, ceiling := 120, stagger := none }
      let claim (z : Zone) (n : Nat) : Claim :=
        { consumer := .fan z, cls := 3, amount := cfg.fanClaim.l0, arrival := n, level := 0 }
      ∃ (t : State) (r : Seat), exec i s = .next t ∧ t.pending = s.pending ∧
        (∀ a, t.base.hall.get a =
          { accepted := .unknown, runHigh := false, runLength := 0, lowMicros := 0, spacing := (cfg.axis.get a).hallInterval }) ∧
        t.base =
          { power := .run, wakeLeft := none, fit := f, cfg := cfg, hall := t.base.hall, patterns := patterns, records := records,
            monitor :=
              { window := [], v := 0, belowLow := 0, belowCutoff := 0, clearLow := 0, clearCutoff := 0, state := .normal,
                lowThreshold := 11000, cutoffThreshold := 8000, settleLeft := none, sampleLeft := some cfg.monitorInterval }
            line :=
              { receiver := if high then .waitLead else .waitHigh, w := none, symbols := [], replyFields := [], replyIndex := 0,
                stuck := false, record := none, low := !high, driving := none }
            link := { lastResult := .accepted, vehicle := .moving, header := 0, begun := false, captured := none, reply := [] } } ∧
        (∀ a, present f a = true →
          (∀ x, readCopies (records.axis.get a) = some x →
            axisOf r a =
              still x.position (if x.confidence = .unlearned then none else x.highStop)
                (if x.clean = true ∨ x.confidence = .unlearned then x.confidence else .suspect) x.leadUp x.leadDown) ∧
          (readCopies (records.axis.get a) = none →
            axisOf r a = still 8192 none .unlearned (cfg.axis.get a).initialLead (cfg.axis.get a).initialLead)) ∧
        r =
          { axes := r.axes, alloc := alloc, recallCtx := none, lastRecall := none, gallery := gallery, notices := notices
            scanner :=
              { axes := .all (.all open_), lumbar := .all open_, keys := .all open_, armed := .all true, rearm := .all none,
                window := none, stepNo := 0, waiting := [] }
            profiles := { p1 := load .p1, p2 := load .p2, p3 := load .p3, p4 := load .p4, ret := empty, brace := empty }
            engine :=
              { state := .off, pattern := none, index := 0, stack := [], intensity := 1, speed := 1, pendingIntensity := none,
                pendingSpeed := none, sessionLeft := 0, outstanding := 0, stillToAsk := 0, failed := 0, held := 0, endReason := none,
                asking := none, holdLeft := none, restLeft := none }
            zones := { c := zone .c, b := zone .b }
            brace :=
              { mode := if lock.isSome then .locked else .idle, grade := 0, holdLeft := none, driven := .all false,
                axisAction := .all .none, bolster := .all .none, vents := .all .none, crash := lock, restore := .none }
            store := { queue := [], inFlight := none } } ∧
        (cfg.fanClaim.l0 = 0 →
          let first : Op := { seed .vent .m1 with bursts := 1 }
          t.seat =
            { r with gallery :=
              { gallery with
                state := .venting, inFlight := some first, burstLeft := some cfg.burstTime, queue := gallery.queue.tail } }) ∧
        (cfg.fanClaim.l0 ≠ 0 →
          let claims : Alloc := { alloc with pending := [claim .c 0, claim .b 1], nextArrival := 2 }
          t.seat = settled t.base ({ r with alloc := claims }, [.pass, .pass, .serve]))
    (Works s → s.seat.brace.mode = .idle ∨ s.seat.brace.mode = .releasing → ∃ t, exec .reset s = .next t ∧ drains t) ∧
    (s.base.power = .run ∨ s.base.power = .parking ∨ s.base.power = .parked → ∃ t, exec .resetPin s = .next t ∧ drains t) ∧
    (s.base.power = .draining ∨ s.base.power = .off → exec .resetPin s = .next s) ∧
    (s.base.power = .draining →
      resets (.warmResetDrainEnd high) ((s.seat.store.inFlight.toList ++ s.seat.store.queue).foldl writeRecord s.base.records)
        s.base.fit) ∧
    (s.base.power ≠ .draining → exec (.warmResetDrainEnd high) s = .next s) ∧
    (s.base.power = .off → resets (.powerOnReset fit high) s.base.records fit) ∧
    (s.base.power ≠ .off → ∀ t, exec .powerLoss s = .next t →
      exec (.powerOnReset fit high) s = exec (.powerOnReset fit high) t) ∧
    (s.base.power = .off → exec .powerLoss s = .next s) ∧
    (s.base.power ≠ .off →
      ∃ t, exec .powerLoss s = .next t ∧ t.base.power = .off ∧ t.seat.store = { queue := [], inFlight := none } ∧
        (s.seat.store.inFlight = none → t.base.records = s.base.records) ∧
        let k := s.base.records
        let cut (α : Type) (c : Copies α) : Copies α :=
          if c.one.seq ≤ c.two.seq then { c with one := { c.one with good := false } }
          else { c with two := { c.two with good := false } }
        let kept (α : Type) (c : Copies α) : Prop :=
          c.one.seq < c.two.seq ∧ c.two.good = true ∨ c.two.seq < c.one.seq ∧ c.one.good = true →
            readCopies (cut α c) = readCopies c
        (∀ a r, s.seat.store.inFlight = some (.axis a r) →
          t.base.records = { k with axis := k.axis.set a (cut _ (k.axis.get a)) } ∧ kept _ (k.axis.get a)) ∧
        (∀ p r, s.seat.store.inFlight = some (.profile p r) →
          t.base.records = { k with profile := k.profile.set p (cut _ (k.profile.get p)) } ∧ kept _ (k.profile.get p)) ∧
        (∀ p r, s.seat.store.inFlight = some (.pattern p r) →
          t.base.records = { k with pattern := k.pattern.set p (cut _ (k.pattern.get p)) } ∧ kept _ (k.pattern.get p)) ∧
        (∀ r, s.seat.store.inFlight = some (.configuration r) →
          t.base.records = { k with configuration := cut _ k.configuration } ∧ kept _ k.configuration) ∧
        (∀ r, s.seat.store.inFlight = some (.crashLock r) →
          t.base.records = { k with crashLock := cut _ k.crashLock } ∧ kept _ k.crashLock)) ∧
    (Works s → s.seat.brace.mode = .idle ∨ s.seat.brace.mode = .releasing ∨ s.seat.brace.mode = .locked →
      let busy :=
        (∃ a, present s.base.fit a = true ∧ (axisOf s.seat a).drive ≠ .idle) ∨ s.seat.recallCtx ≠ none ∨
        s.seat.gallery.state ≠ .idle ∨ s.seat.gallery.queue ≠ [] ∨ s.seat.engine.state ≠ .off ∨ s.seat.brace.mode = .releasing ∨
        (∃ c, contactPresent s.base.fit c = true ∧ (contactOf s.seat.scanner c).pressed = true ∧
          ((contactOf s.seat.scanner c).cond = some .active ∨ (contactOf s.seat.scanner c).cond = some .heldOff)) ∨
        s.base.line.low = true ∨ s.base.line.driving ≠ none
      (s.base.power = .parking → exec .park s = .next (refused s .accepted)) ∧
      (s.base.power = .run → busy → exec .park s = .next (refused s .busy)) ∧
      (s.base.power = .run → ¬ busy →
        let o := openFrame s
        let link : Link := { o.base.link with vehicle := .parked }
        let b : Base := { o.base with link := link }
        let t := settled b (climateOff b s.seat)
        let u := settled b ({ t with alloc := { t.alloc with cSet := b.cfg.parkCeiling } }, [.pass])
        ∃ axes : PerAxis AxisState,
          (∀ a, axes.get a = if present b.fit a = true then { axisOf u a with dirty := .notMarked } else axisOf u a) ∧
          let final : State :=
            { o with
              base := { b with power := .parking },
              seat := { u with
                axes := axes, scanner := { u.scanner with window := none },
                store := (presentIn b.fit axisOrder).foldl (fun q a => enterWrite q (.axis a (recordOf (axisOf u a) true))) u.store } }
          exec .park s = .next (closeFrame final .accepted []))) ∧
    (∀ closed mv, s.base.power = .parked →
      ∃ t, exec (.wakeIntervalInstant closed mv) s = .next t ∧ t.base.link = s.base.link ∧ t.base.cfg = s.base.cfg ∧
        t.base.records = s.base.records ∧
        let m := takeSample s.base.monitor mv
        let wakes := ∃ c, c ∈ closed ∧ contactPresent s.base.fit c = true ∧ (contactOf s.seat.scanner c).cond ≠ some .stuck
        (wakes → t.base.power = .run ∧ t.base.wakeLeft = none ∧
          t.base.monitor = { m with sampleLeft := some s.base.cfg.monitorInterval } ∧
          ∀ a, (t.base.hall.get a).accepted = .unknown) ∧
        (¬ wakes → t.base.power = .parked ∧ t.base.wakeLeft = some s.base.cfg.wakeInterval ∧
          t.base.monitor = { m with sampleLeft := none }) ∧
        (m.state = s.base.monitor.state → s.base.cfg.fanClaim.l0 = 0 → (∀ z, holdsClaim s.seat.alloc (.fan z) = false) →
          (∀ c, let x := contactOf s.seat.scanner c
            let shut := c ∈ closed
            contactOf t.seat.scanner c =
              if contactPresent s.base.fit c = false then x
              else if x.cond = some .stuck then
                if shut then { x with closed := true }
                else { closed := false, pressed := false, cond := none, debounce := none, stuckLeft := none }
              else if shut then { x with closed := true, debounce := some s.base.cfg.debounce }
              else { x with closed := false }) ∧
          ∀ k, t.seat.scanner.armed.get k =
            (s.seat.scanner.armed.get k ||
              decide ((contactOf s.seat.scanner (.key k)).cond = some .stuck ∧ Contact.key k ∉ closed)))) ∧
    (∀ closed mv, Works s → ∃ sc : Scanner,
      (∀ c, let x := contactOf s.seat.scanner c
        contactOf sc c =
          if contactPresent s.base.fit c = true ∧ c ∈ closed ∧ x.pressed = false ∧ x.closed = false then
            { x with closed := true, debounce := some s.base.cfg.debounce }
          else x) ∧
      sc = { s.seat.scanner with axes := sc.axes, lumbar := sc.lumbar, keys := sc.keys } ∧
      exec (.wakeIntervalInstant closed mv) s = .next { s with seat := { s.seat with scanner := sc } }) ∧
    (∀ closed mv, s.base.power = .draining ∨ s.base.power = .off → exec (.wakeIntervalInstant closed mv) s = .next s)
end

