-- ==== Sys2Proof/Laws/State.lean ====
section
/-! SUPPORT. One lemma per field per update of the state, true by definition, so that no proof unfolds a record update, and the
get and set lemmas of the fixed tables. -/
namespace Sys2Proof

/-! ### Tables -/

@[simp] theorem PerAxis.get_set_same {α : Type} (t : PerAxis α) (x : Axis) (v : α) : (t.set x v).get x = v := by cases x <;> rfl
theorem PerAxis.get_set_ne {α : Type} (t : PerAxis α) {x y : Axis} (v : α) (h : y ≠ x) : (t.set x v).get y = t.get y := by
  cases x <;> cases y <;> first | rfl | exact absurd rfl h
theorem PerAxis.get_set {α : Type} (t : PerAxis α) (x y : Axis) (v : α) : (t.set x v).get y = if y = x then v else t.get y := by
  cases x <;> cases y <;> rfl
@[simp] theorem PerAxis.get_all {α : Type} (v : α) (x : Axis) : (PerAxis.all v).get x = v := by cases x <;> rfl

@[simp] theorem PerZone.get_set_same {α : Type} (t : PerZone α) (x : Zone) (v : α) : (t.set x v).get x = v := by cases x <;> rfl
theorem PerZone.get_set_ne {α : Type} (t : PerZone α) {x y : Zone} (v : α) (h : y ≠ x) : (t.set x v).get y = t.get y := by
  cases x <;> cases y <;> first | rfl | exact absurd rfl h
theorem PerZone.get_set {α : Type} (t : PerZone α) (x y : Zone) (v : α) : (t.set x v).get y = if y = x then v else t.get y := by
  cases x <;> cases y <;> rfl
@[simp] theorem PerZone.get_all {α : Type} (v : α) (x : Zone) : (PerZone.all v).get x = v := by cases x <;> rfl

@[simp] theorem PerDir.get_set_same {α : Type} (t : PerDir α) (x : Dir) (v : α) : (t.set x v).get x = v := by cases x <;> rfl
theorem PerDir.get_set_ne {α : Type} (t : PerDir α) {x y : Dir} (v : α) (h : y ≠ x) : (t.set x v).get y = t.get y := by
  cases x <;> cases y <;> first | rfl | exact absurd rfl h
theorem PerDir.get_set {α : Type} (t : PerDir α) (x y : Dir) (v : α) : (t.set x v).get y = if y = x then v else t.get y := by
  cases x <;> cases y <;> rfl
@[simp] theorem PerDir.get_all {α : Type} (v : α) (x : Dir) : (PerDir.all v).get x = v := by cases x <;> rfl

@[simp] theorem PerBladder.get_set_same {α : Type} (t : PerBladder α) (x : Bladder) (v : α) : (t.set x v).get x = v := by cases x <;> rfl
theorem PerBladder.get_set_ne {α : Type} (t : PerBladder α) {x y : Bladder} (v : α) (h : y ≠ x) : (t.set x v).get y = t.get y := by
  cases x <;> cases y <;> first | rfl | exact absurd rfl h
theorem PerBladder.get_set {α : Type} (t : PerBladder α) (x y : Bladder) (v : α) : (t.set x v).get y = if y = x then v else t.get y := by
  cases x <;> cases y <;> rfl
@[simp] theorem PerBladder.get_all {α : Type} (v : α) (x : Bladder) : (PerBladder.all v).get x = v := by cases x <;> rfl

@[simp] theorem PerBolster.get_set_same {α : Type} (t : PerBolster α) (x : Bolster) (v : α) : (t.set x v).get x = v := by cases x <;> rfl
theorem PerBolster.get_set_ne {α : Type} (t : PerBolster α) {x y : Bolster} (v : α) (h : y ≠ x) : (t.set x v).get y = t.get y := by
  cases x <;> cases y <;> first | rfl | exact absurd rfl h
theorem PerBolster.get_set {α : Type} (t : PerBolster α) (x y : Bolster) (v : α) : (t.set x v).get y = if y = x then v else t.get y := by
  cases x <;> cases y <;> rfl
@[simp] theorem PerBolster.get_all {α : Type} (v : α) (x : Bolster) : (PerBolster.all v).get x = v := by cases x <;> rfl

@[simp] theorem PerLumbar.get_set_same {α : Type} (t : PerLumbar α) (x : LumbarStep) (v : α) : (t.set x v).get x = v := by cases x <;> rfl
theorem PerLumbar.get_set_ne {α : Type} (t : PerLumbar α) {x y : LumbarStep} (v : α) (h : y ≠ x) : (t.set x v).get y = t.get y := by
  cases x <;> cases y <;> first | rfl | exact absurd rfl h
theorem PerLumbar.get_set {α : Type} (t : PerLumbar α) (x y : LumbarStep) (v : α) : (t.set x v).get y = if y = x then v else t.get y := by
  cases x <;> cases y <;> rfl
@[simp] theorem PerLumbar.get_all {α : Type} (v : α) (x : LumbarStep) : (PerLumbar.all v).get x = v := by cases x <;> rfl

@[simp] theorem PerKey.get_put_same {α : Type} (t : PerKey α) (x : Key) (v : α) : (t.put x v).get x = v := by cases x <;> rfl
theorem PerKey.get_put_ne {α : Type} (t : PerKey α) {x y : Key} (v : α) (h : y ≠ x) : (t.put x v).get y = t.get y := by
  cases x <;> cases y <;> first | rfl | exact absurd rfl h
theorem PerKey.get_put {α : Type} (t : PerKey α) (x y : Key) (v : α) : (t.put x v).get y = if y = x then v else t.get y := by
  cases x <;> cases y <;> rfl
@[simp] theorem PerKey.get_all {α : Type} (v : α) (x : Key) : (PerKey.all v).get x = v := by cases x <;> rfl

@[simp] theorem PerSlot.get_set_same {α : Type} (t : PerSlot α) (x : Slot) (v : α) : (t.set x v).get x = v := by cases x <;> rfl
theorem PerSlot.get_set_ne {α : Type} (t : PerSlot α) {x y : Slot} (v : α) (h : y ≠ x) : (t.set x v).get y = t.get y := by
  cases x <;> cases y <;> first | rfl | exact absurd rfl h
theorem PerSlot.get_set {α : Type} (t : PerSlot α) (x y : Slot) (v : α) : (t.set x v).get y = if y = x then v else t.get y := by
  cases x <;> cases y <;> rfl
@[simp] theorem PerSlot.get_all {α : Type} (v : α) (x : Slot) : (PerSlot.all v).get x = v := by cases x <;> rfl

@[simp] theorem PerProfile.get_set_same {α : Type} (t : PerProfile α) (x : Retained4) (v : α) : (t.set x v).get x = v := by cases x <;> rfl
theorem PerProfile.get_set_ne {α : Type} (t : PerProfile α) {x y : Retained4} (v : α) (h : y ≠ x) : (t.set x v).get y = t.get y := by
  cases x <;> cases y <;> first | rfl | exact absurd rfl h
theorem PerProfile.get_set {α : Type} (t : PerProfile α) (x y : Retained4) (v : α) : (t.set x v).get y = if y = x then v else t.get y := by
  cases x <;> cases y <;> rfl
@[simp] theorem PerProfile.get_all {α : Type} (v : α) (x : Retained4) : (PerProfile.all v).get x = v := by cases x <;> rfl

@[simp] theorem PerPattern.get_set_same {α : Type} (t : PerPattern α) (x : PatternNo) (v : α) : (t.set x v).get x = v := by cases x <;> rfl
theorem PerPattern.get_set_ne {α : Type} (t : PerPattern α) {x y : PatternNo} (v : α) (h : y ≠ x) : (t.set x v).get y = t.get y := by
  cases x <;> cases y <;> first | rfl | exact absurd rfl h
theorem PerPattern.get_set {α : Type} (t : PerPattern α) (x y : PatternNo) (v : α) : (t.set x v).get y = if y = x then v else t.get y := by
  cases x <;> cases y <;> rfl
@[simp] theorem PerPattern.get_all {α : Type} (v : α) (x : PatternNo) : (PerPattern.all v).get x = v := by cases x <;> rfl

@[simp] theorem PerAxis.get_map {α β : Type} (f : α → β) (t : PerAxis α) (a : Axis) : (t.map f).get a = f (t.get a) := by
  cases a <;> rfl

end Sys2Proof
namespace Sys2Proof.Machine

@[simp] theorem tabulate_get {α : Type} (f : Axis → α) (a : Axis) : (tabulate f).get a = f a := by cases a <;> rfl

/-! ### State, base and seat -/

@[simp] theorem withBase_pending (s : State) (b : Base) : (withBase s b).pending = s.pending := rfl
@[simp] theorem withBase_base (s : State) (b : Base) : (withBase s b).base = b := rfl
@[simp] theorem withBase_seat (s : State) (b : Base) : (withBase s b).seat = s.seat := rfl
@[simp] theorem withSeat_pending (s : State) (t : Seat) : (withSeat s t).pending = s.pending := rfl
@[simp] theorem withSeat_base (s : State) (t : Seat) : (withSeat s t).base = s.base := rfl
@[simp] theorem withSeat_seat (s : State) (t : Seat) : (withSeat s t).seat = t := rfl
@[simp] theorem withPending_pending (s : State) (q : List Instr) : (s.withPending q).pending = q := rfl
@[simp] theorem withPending_base (s : State) (q : List Instr) : (s.withPending q).base = s.base := rfl
@[simp] theorem withPending_seat (s : State) (q : List Instr) : (s.withPending q).seat = s.seat := rfl
@[simp] theorem actOn_pending (s : State) (y : Did) : (actOn s y).pending = s.pending := rfl
@[simp] theorem actOn_base (s : State) (y : Did) : (actOn s y).base = s.base := rfl
@[simp] theorem actOn_seat (s : State) (y : Did) : (actOn s y).seat = settled s.base y := rfl
@[simp] theorem withLine_pending (s : State) (x : SafetyLine) : (withLine s x).pending = s.pending := rfl
@[simp] theorem withLine_seat (s : State) (x : SafetyLine) : (withLine s x).seat = s.seat := rfl
@[simp] theorem withLine_power (s : State) (x : SafetyLine) : (withLine s x).base.power = s.base.power := rfl
@[simp] theorem withLine_wakeLeft (s : State) (x : SafetyLine) : (withLine s x).base.wakeLeft = s.base.wakeLeft := rfl
@[simp] theorem withLine_fit (s : State) (x : SafetyLine) : (withLine s x).base.fit = s.base.fit := rfl
@[simp] theorem withLine_cfg (s : State) (x : SafetyLine) : (withLine s x).base.cfg = s.base.cfg := rfl
@[simp] theorem withLine_hall (s : State) (x : SafetyLine) : (withLine s x).base.hall = s.base.hall := rfl
@[simp] theorem withLine_monitor (s : State) (x : SafetyLine) : (withLine s x).base.monitor = s.base.monitor := rfl
@[simp] theorem withLine_patterns (s : State) (x : SafetyLine) : (withLine s x).base.patterns = s.base.patterns := rfl
@[simp] theorem withLine_line (s : State) (x : SafetyLine) : (withLine s x).base.line = x := rfl
@[simp] theorem withLine_link (s : State) (x : SafetyLine) : (withLine s x).base.link = s.base.link := rfl
@[simp] theorem withLine_records (s : State) (x : SafetyLine) : (withLine s x).base.records = s.base.records := rfl
@[simp] theorem withLink_pending (s : State) (x : Link) : (withLink s x).pending = s.pending := rfl
@[simp] theorem withLink_seat (s : State) (x : Link) : (withLink s x).seat = s.seat := rfl
@[simp] theorem withLink_power (s : State) (x : Link) : (withLink s x).base.power = s.base.power := rfl
@[simp] theorem withLink_wakeLeft (s : State) (x : Link) : (withLink s x).base.wakeLeft = s.base.wakeLeft := rfl
@[simp] theorem withLink_fit (s : State) (x : Link) : (withLink s x).base.fit = s.base.fit := rfl
@[simp] theorem withLink_cfg (s : State) (x : Link) : (withLink s x).base.cfg = s.base.cfg := rfl
@[simp] theorem withLink_hall (s : State) (x : Link) : (withLink s x).base.hall = s.base.hall := rfl
@[simp] theorem withLink_monitor (s : State) (x : Link) : (withLink s x).base.monitor = s.base.monitor := rfl
@[simp] theorem withLink_patterns (s : State) (x : Link) : (withLink s x).base.patterns = s.base.patterns := rfl
@[simp] theorem withLink_line (s : State) (x : Link) : (withLink s x).base.line = s.base.line := rfl
@[simp] theorem withLink_link (s : State) (x : Link) : (withLink s x).base.link = x := rfl
@[simp] theorem withLink_records (s : State) (x : Link) : (withLink s x).base.records = s.base.records := rfl
@[simp] theorem withMonitor_pending (s : State) (x : Monitor) : (withMonitor s x).pending = s.pending := rfl
@[simp] theorem withMonitor_seat (s : State) (x : Monitor) : (withMonitor s x).seat = s.seat := rfl
@[simp] theorem withMonitor_power (s : State) (x : Monitor) : (withMonitor s x).base.power = s.base.power := rfl
@[simp] theorem withMonitor_wakeLeft (s : State) (x : Monitor) : (withMonitor s x).base.wakeLeft = s.base.wakeLeft := rfl
@[simp] theorem withMonitor_fit (s : State) (x : Monitor) : (withMonitor s x).base.fit = s.base.fit := rfl
@[simp] theorem withMonitor_cfg (s : State) (x : Monitor) : (withMonitor s x).base.cfg = s.base.cfg := rfl
@[simp] theorem withMonitor_hall (s : State) (x : Monitor) : (withMonitor s x).base.hall = s.base.hall := rfl
@[simp] theorem withMonitor_monitor (s : State) (x : Monitor) : (withMonitor s x).base.monitor = x := rfl
@[simp] theorem withMonitor_patterns (s : State) (x : Monitor) : (withMonitor s x).base.patterns = s.base.patterns := rfl
@[simp] theorem withMonitor_line (s : State) (x : Monitor) : (withMonitor s x).base.line = s.base.line := rfl
@[simp] theorem withMonitor_link (s : State) (x : Monitor) : (withMonitor s x).base.link = s.base.link := rfl
@[simp] theorem withMonitor_records (s : State) (x : Monitor) : (withMonitor s x).base.records = s.base.records := rfl
@[simp] theorem withPatterns_pending (s : State) (x : Patterns) : (withPatterns s x).pending = s.pending := rfl
@[simp] theorem withPatterns_seat (s : State) (x : Patterns) : (withPatterns s x).seat = s.seat := rfl
@[simp] theorem withPatterns_power (s : State) (x : Patterns) : (withPatterns s x).base.power = s.base.power := rfl
@[simp] theorem withPatterns_wakeLeft (s : State) (x : Patterns) : (withPatterns s x).base.wakeLeft = s.base.wakeLeft := rfl
@[simp] theorem withPatterns_fit (s : State) (x : Patterns) : (withPatterns s x).base.fit = s.base.fit := rfl
@[simp] theorem withPatterns_cfg (s : State) (x : Patterns) : (withPatterns s x).base.cfg = s.base.cfg := rfl
@[simp] theorem withPatterns_hall (s : State) (x : Patterns) : (withPatterns s x).base.hall = s.base.hall := rfl
@[simp] theorem withPatterns_monitor (s : State) (x : Patterns) : (withPatterns s x).base.monitor = s.base.monitor := rfl
@[simp] theorem withPatterns_patterns (s : State) (x : Patterns) : (withPatterns s x).base.patterns = x := rfl
@[simp] theorem withPatterns_line (s : State) (x : Patterns) : (withPatterns s x).base.line = s.base.line := rfl
@[simp] theorem withPatterns_link (s : State) (x : Patterns) : (withPatterns s x).base.link = s.base.link := rfl
@[simp] theorem withPatterns_records (s : State) (x : Patterns) : (withPatterns s x).base.records = s.base.records := rfl

/-! ### Seat updates -/

@[simp] theorem putAxis_axes (s : Seat) (a : Axis) (x : AxisState) : (putAxis s a x).axes = s.axes.set a x := rfl
@[simp] theorem putAxis_alloc (s : Seat) (a : Axis) (x : AxisState) : (putAxis s a x).alloc = s.alloc := rfl
@[simp] theorem putAxis_scanner (s : Seat) (a : Axis) (x : AxisState) : (putAxis s a x).scanner = s.scanner := rfl
@[simp] theorem putAxis_profiles (s : Seat) (a : Axis) (x : AxisState) : (putAxis s a x).profiles = s.profiles := rfl
@[simp] theorem putAxis_recallCtx (s : Seat) (a : Axis) (x : AxisState) : (putAxis s a x).recallCtx = s.recallCtx := rfl
@[simp] theorem putAxis_lastRecall (s : Seat) (a : Axis) (x : AxisState) : (putAxis s a x).lastRecall = s.lastRecall := rfl
@[simp] theorem putAxis_gallery (s : Seat) (a : Axis) (x : AxisState) : (putAxis s a x).gallery = s.gallery := rfl
@[simp] theorem putAxis_engine (s : Seat) (a : Axis) (x : AxisState) : (putAxis s a x).engine = s.engine := rfl
@[simp] theorem putAxis_zones (s : Seat) (a : Axis) (x : AxisState) : (putAxis s a x).zones = s.zones := rfl
@[simp] theorem putAxis_brace (s : Seat) (a : Axis) (x : AxisState) : (putAxis s a x).brace = s.brace := rfl
@[simp] theorem putAxis_notices (s : Seat) (a : Axis) (x : AxisState) : (putAxis s a x).notices = s.notices := rfl
@[simp] theorem putAxis_store (s : Seat) (a : Axis) (x : AxisState) : (putAxis s a x).store = s.store := rfl

@[simp] theorem post_axes (s : Seat) (k : NoticeKind) (sub : Subject) (d : Word16) : (post s k sub d).axes = s.axes := rfl
@[simp] theorem post_alloc (s : Seat) (k : NoticeKind) (sub : Subject) (d : Word16) : (post s k sub d).alloc = s.alloc := rfl
@[simp] theorem post_scanner (s : Seat) (k : NoticeKind) (sub : Subject) (d : Word16) : (post s k sub d).scanner = s.scanner := rfl
@[simp] theorem post_profiles (s : Seat) (k : NoticeKind) (sub : Subject) (d : Word16) : (post s k sub d).profiles = s.profiles := rfl
@[simp] theorem post_recallCtx (s : Seat) (k : NoticeKind) (sub : Subject) (d : Word16) : (post s k sub d).recallCtx = s.recallCtx := rfl
@[simp] theorem post_lastRecall (s : Seat) (k : NoticeKind) (sub : Subject) (d : Word16) : (post s k sub d).lastRecall = s.lastRecall := rfl
@[simp] theorem post_gallery (s : Seat) (k : NoticeKind) (sub : Subject) (d : Word16) : (post s k sub d).gallery = s.gallery := rfl
@[simp] theorem post_engine (s : Seat) (k : NoticeKind) (sub : Subject) (d : Word16) : (post s k sub d).engine = s.engine := rfl
@[simp] theorem post_zones (s : Seat) (k : NoticeKind) (sub : Subject) (d : Word16) : (post s k sub d).zones = s.zones := rfl
@[simp] theorem post_brace (s : Seat) (k : NoticeKind) (sub : Subject) (d : Word16) : (post s k sub d).brace = s.brace := rfl
@[simp] theorem post_notices (s : Seat) (k : NoticeKind) (sub : Subject) (d : Word16) : (post s k sub d).notices = postTo s.notices k sub d := rfl
@[simp] theorem post_store (s : Seat) (k : NoticeKind) (sub : Subject) (d : Word16) : (post s k sub d).store = s.store := rfl

@[simp] theorem queueWrite_axes (s : Seat) (w : RecordWrite) : (queueWrite s w).axes = s.axes := rfl
@[simp] theorem queueWrite_alloc (s : Seat) (w : RecordWrite) : (queueWrite s w).alloc = s.alloc := rfl
@[simp] theorem queueWrite_scanner (s : Seat) (w : RecordWrite) : (queueWrite s w).scanner = s.scanner := rfl
@[simp] theorem queueWrite_profiles (s : Seat) (w : RecordWrite) : (queueWrite s w).profiles = s.profiles := rfl
@[simp] theorem queueWrite_recallCtx (s : Seat) (w : RecordWrite) : (queueWrite s w).recallCtx = s.recallCtx := rfl
@[simp] theorem queueWrite_lastRecall (s : Seat) (w : RecordWrite) : (queueWrite s w).lastRecall = s.lastRecall := rfl
@[simp] theorem queueWrite_gallery (s : Seat) (w : RecordWrite) : (queueWrite s w).gallery = s.gallery := rfl
@[simp] theorem queueWrite_engine (s : Seat) (w : RecordWrite) : (queueWrite s w).engine = s.engine := rfl
@[simp] theorem queueWrite_zones (s : Seat) (w : RecordWrite) : (queueWrite s w).zones = s.zones := rfl
@[simp] theorem queueWrite_brace (s : Seat) (w : RecordWrite) : (queueWrite s w).brace = s.brace := rfl
@[simp] theorem queueWrite_notices (s : Seat) (w : RecordWrite) : (queueWrite s w).notices = s.notices := rfl
@[simp] theorem queueWrite_store (s : Seat) (w : RecordWrite) : (queueWrite s w).store = enterWrite s.store w := rfl

@[simp] theorem withGallery_axes (s : Seat) (g : Gallery) : (withGallery s g).axes = s.axes := rfl
@[simp] theorem withGallery_alloc (s : Seat) (g : Gallery) : (withGallery s g).alloc = s.alloc := rfl
@[simp] theorem withGallery_scanner (s : Seat) (g : Gallery) : (withGallery s g).scanner = s.scanner := rfl
@[simp] theorem withGallery_profiles (s : Seat) (g : Gallery) : (withGallery s g).profiles = s.profiles := rfl
@[simp] theorem withGallery_recallCtx (s : Seat) (g : Gallery) : (withGallery s g).recallCtx = s.recallCtx := rfl
@[simp] theorem withGallery_lastRecall (s : Seat) (g : Gallery) : (withGallery s g).lastRecall = s.lastRecall := rfl
@[simp] theorem withGallery_gallery (s : Seat) (g : Gallery) : (withGallery s g).gallery = g := rfl
@[simp] theorem withGallery_engine (s : Seat) (g : Gallery) : (withGallery s g).engine = s.engine := rfl
@[simp] theorem withGallery_zones (s : Seat) (g : Gallery) : (withGallery s g).zones = s.zones := rfl
@[simp] theorem withGallery_brace (s : Seat) (g : Gallery) : (withGallery s g).brace = s.brace := rfl
@[simp] theorem withGallery_notices (s : Seat) (g : Gallery) : (withGallery s g).notices = s.notices := rfl
@[simp] theorem withGallery_store (s : Seat) (g : Gallery) : (withGallery s g).store = s.store := rfl

@[simp] theorem withEngine_axes (s : Seat) (e : Engine) : (withEngine s e).axes = s.axes := rfl
@[simp] theorem withEngine_alloc (s : Seat) (e : Engine) : (withEngine s e).alloc = s.alloc := rfl
@[simp] theorem withEngine_scanner (s : Seat) (e : Engine) : (withEngine s e).scanner = s.scanner := rfl
@[simp] theorem withEngine_profiles (s : Seat) (e : Engine) : (withEngine s e).profiles = s.profiles := rfl
@[simp] theorem withEngine_recallCtx (s : Seat) (e : Engine) : (withEngine s e).recallCtx = s.recallCtx := rfl
@[simp] theorem withEngine_lastRecall (s : Seat) (e : Engine) : (withEngine s e).lastRecall = s.lastRecall := rfl
@[simp] theorem withEngine_gallery (s : Seat) (e : Engine) : (withEngine s e).gallery = s.gallery := rfl
@[simp] theorem withEngine_engine (s : Seat) (e : Engine) : (withEngine s e).engine = e := rfl
@[simp] theorem withEngine_zones (s : Seat) (e : Engine) : (withEngine s e).zones = s.zones := rfl
@[simp] theorem withEngine_brace (s : Seat) (e : Engine) : (withEngine s e).brace = s.brace := rfl
@[simp] theorem withEngine_notices (s : Seat) (e : Engine) : (withEngine s e).notices = s.notices := rfl
@[simp] theorem withEngine_store (s : Seat) (e : Engine) : (withEngine s e).store = s.store := rfl

@[simp] theorem withBrace_axes (s : Seat) (x : Brace) : (withBrace s x).axes = s.axes := rfl
@[simp] theorem withBrace_alloc (s : Seat) (x : Brace) : (withBrace s x).alloc = s.alloc := rfl
@[simp] theorem withBrace_scanner (s : Seat) (x : Brace) : (withBrace s x).scanner = s.scanner := rfl
@[simp] theorem withBrace_profiles (s : Seat) (x : Brace) : (withBrace s x).profiles = s.profiles := rfl
@[simp] theorem withBrace_recallCtx (s : Seat) (x : Brace) : (withBrace s x).recallCtx = s.recallCtx := rfl
@[simp] theorem withBrace_lastRecall (s : Seat) (x : Brace) : (withBrace s x).lastRecall = s.lastRecall := rfl
@[simp] theorem withBrace_gallery (s : Seat) (x : Brace) : (withBrace s x).gallery = s.gallery := rfl
@[simp] theorem withBrace_engine (s : Seat) (x : Brace) : (withBrace s x).engine = s.engine := rfl
@[simp] theorem withBrace_zones (s : Seat) (x : Brace) : (withBrace s x).zones = s.zones := rfl
@[simp] theorem withBrace_brace (s : Seat) (x : Brace) : (withBrace s x).brace = x := rfl
@[simp] theorem withBrace_notices (s : Seat) (x : Brace) : (withBrace s x).notices = s.notices := rfl
@[simp] theorem withBrace_store (s : Seat) (x : Brace) : (withBrace s x).store = s.store := rfl

@[simp] theorem putZone_axes (s : Seat) (z : Zone) (x : ZoneState) : (putZone s z x).axes = s.axes := rfl
@[simp] theorem putZone_alloc (s : Seat) (z : Zone) (x : ZoneState) : (putZone s z x).alloc = s.alloc := rfl
@[simp] theorem putZone_scanner (s : Seat) (z : Zone) (x : ZoneState) : (putZone s z x).scanner = s.scanner := rfl
@[simp] theorem putZone_profiles (s : Seat) (z : Zone) (x : ZoneState) : (putZone s z x).profiles = s.profiles := rfl
@[simp] theorem putZone_recallCtx (s : Seat) (z : Zone) (x : ZoneState) : (putZone s z x).recallCtx = s.recallCtx := rfl
@[simp] theorem putZone_lastRecall (s : Seat) (z : Zone) (x : ZoneState) : (putZone s z x).lastRecall = s.lastRecall := rfl
@[simp] theorem putZone_gallery (s : Seat) (z : Zone) (x : ZoneState) : (putZone s z x).gallery = s.gallery := rfl
@[simp] theorem putZone_engine (s : Seat) (z : Zone) (x : ZoneState) : (putZone s z x).engine = s.engine := rfl
@[simp] theorem putZone_zones (s : Seat) (z : Zone) (x : ZoneState) : (putZone s z x).zones = s.zones.set z x := rfl
@[simp] theorem putZone_brace (s : Seat) (z : Zone) (x : ZoneState) : (putZone s z x).brace = s.brace := rfl
@[simp] theorem putZone_notices (s : Seat) (z : Zone) (x : ZoneState) : (putZone s z x).notices = s.notices := rfl
@[simp] theorem putZone_store (s : Seat) (z : Zone) (x : ZoneState) : (putZone s z x).store = s.store := rfl

@[simp] theorem putProfile_axes (s : Seat) (k : Slot) (p : Profile) : (putProfile s k p).axes = s.axes := rfl
@[simp] theorem putProfile_alloc (s : Seat) (k : Slot) (p : Profile) : (putProfile s k p).alloc = s.alloc := rfl
@[simp] theorem putProfile_scanner (s : Seat) (k : Slot) (p : Profile) : (putProfile s k p).scanner = s.scanner := rfl
@[simp] theorem putProfile_profiles (s : Seat) (k : Slot) (p : Profile) : (putProfile s k p).profiles = s.profiles.set k p := rfl
@[simp] theorem putProfile_recallCtx (s : Seat) (k : Slot) (p : Profile) : (putProfile s k p).recallCtx = s.recallCtx := rfl
@[simp] theorem putProfile_lastRecall (s : Seat) (k : Slot) (p : Profile) : (putProfile s k p).lastRecall = s.lastRecall := rfl
@[simp] theorem putProfile_gallery (s : Seat) (k : Slot) (p : Profile) : (putProfile s k p).gallery = s.gallery := rfl
@[simp] theorem putProfile_engine (s : Seat) (k : Slot) (p : Profile) : (putProfile s k p).engine = s.engine := rfl
@[simp] theorem putProfile_zones (s : Seat) (k : Slot) (p : Profile) : (putProfile s k p).zones = s.zones := rfl
@[simp] theorem putProfile_brace (s : Seat) (k : Slot) (p : Profile) : (putProfile s k p).brace = s.brace := rfl
@[simp] theorem putProfile_notices (s : Seat) (k : Slot) (p : Profile) : (putProfile s k p).notices = s.notices := rfl
@[simp] theorem putProfile_store (s : Seat) (k : Slot) (p : Profile) : (putProfile s k p).store = s.store := rfl

@[simp] theorem withContact_axes (s : Seat) (c : Contact) (x : ContactState) : (withContact s c x).axes = s.axes := rfl
@[simp] theorem withContact_alloc (s : Seat) (c : Contact) (x : ContactState) : (withContact s c x).alloc = s.alloc := rfl
@[simp] theorem withContact_scanner (s : Seat) (c : Contact) (x : ContactState) : (withContact s c x).scanner = putContact s.scanner c x := rfl
@[simp] theorem withContact_profiles (s : Seat) (c : Contact) (x : ContactState) : (withContact s c x).profiles = s.profiles := rfl
@[simp] theorem withContact_recallCtx (s : Seat) (c : Contact) (x : ContactState) : (withContact s c x).recallCtx = s.recallCtx := rfl
@[simp] theorem withContact_lastRecall (s : Seat) (c : Contact) (x : ContactState) : (withContact s c x).lastRecall = s.lastRecall := rfl
@[simp] theorem withContact_gallery (s : Seat) (c : Contact) (x : ContactState) : (withContact s c x).gallery = s.gallery := rfl
@[simp] theorem withContact_engine (s : Seat) (c : Contact) (x : ContactState) : (withContact s c x).engine = s.engine := rfl
@[simp] theorem withContact_zones (s : Seat) (c : Contact) (x : ContactState) : (withContact s c x).zones = s.zones := rfl
@[simp] theorem withContact_brace (s : Seat) (c : Contact) (x : ContactState) : (withContact s c x).brace = s.brace := rfl
@[simp] theorem withContact_notices (s : Seat) (c : Contact) (x : ContactState) : (withContact s c x).notices = s.notices := rfl
@[simp] theorem withContact_store (s : Seat) (c : Contact) (x : ContactState) : (withContact s c x).store = s.store := rfl

/-! ### Reading back what was put -/

@[simp] theorem axisOf_putAxis_same (s : Seat) (a : Axis) (x : AxisState) : axisOf (putAxis s a x) a = x := by
  simp [axisOf]

theorem axisOf_putAxis_ne (s : Seat) {a c : Axis} (x : AxisState) (h : c ≠ a) : axisOf (putAxis s a x) c = axisOf s c := by
  simp [axisOf, PerAxis.get_set_ne _ _ h]

@[simp] theorem axisOf_post (s : Seat) (k : NoticeKind) (sub : Subject) (d : Word16) (a : Axis) :
    axisOf (post s k sub d) a = axisOf s a := rfl

@[simp] theorem axisOf_queueWrite (s : Seat) (w : RecordWrite) (a : Axis) : axisOf (queueWrite s w) a = axisOf s a := rfl

@[simp] theorem zoneOf_putZone_same (s : Seat) (z : Zone) (x : ZoneState) : zoneOf (putZone s z x) z = x := by simp [zoneOf]

@[simp] theorem profileOf_putProfile_same (s : Seat) (k : Slot) (p : Profile) : profileOf (putProfile s k p) k = p := by
  simp [profileOf]

@[simp] theorem contactOf_putContact_same (sc : Scanner) (c : Contact) (x : ContactState) :
    contactOf (putContact sc c x) c = x := by cases c <;> simp [contactOf, putContact]

@[simp] theorem bladderOf_putBladder_same (g : Gallery) (x : Bladder) (r : BladderState) :
    bladderOf (putBladder g x r) x = r := by simp [bladderOf, putBladder]

end Sys2Proof.Machine
end

