-- ==== Sys2Proof/Laws/Claims.lean ====
section
/-! SUPPORT. Every operation on the claims keeps them lawful: the claim list stays in its order, and no consumer claims twice. -/
namespace Sys2Proof.Machine

/-! ### The order of the claim list (R28) -/

theorem ahead_trans {x y z : Claim} (h : ahead x y = true) (k : ahead y z = true) : ahead x z = true := by
  simp only [ahead, Bool.or_eq_true, Bool.and_eq_true, decide_eq_true_eq] at *
  omega

theorem ahead_of_not {x y : Claim} (h : ¬ ahead x y = true) : ahead y x = true := by
  simp only [ahead, Bool.or_eq_true, Bool.and_eq_true, decide_eq_true_eq] at *
  omega

theorem mem_insertClaim {c x : Claim} {l : List Claim} : x ∈ insertClaim c l ↔ x = c ∨ x ∈ l := by
  induction l with
  | nil => simp [insertClaim]
  | cons y rest ih =>
    simp only [insertClaim]
    split
    · simp only [List.mem_cons, ih]; tauto
    · simp only [List.mem_cons]

theorem insertClaim_ordered {c : Claim} {l : List Claim} (h : l.Pairwise (fun x y => ahead x y = true)) :
    (insertClaim c l).Pairwise (fun x y => ahead x y = true) := by
  induction l with
  | nil => simp [insertClaim]
  | cons y rest ih =>
    rw [List.pairwise_cons] at h
    simp only [insertClaim]
    split
    · rename_i hy
      rw [List.pairwise_cons]
      refine ⟨?_, ih h.2⟩
      intro z hz
      rcases mem_insertClaim.mp hz with rfl | hz
      · exact hy
      · exact h.1 z hz
    · rename_i hy
      have hc := ahead_of_not hy
      rw [List.pairwise_cons, List.pairwise_cons]
      refine ⟨?_, h.1, h.2⟩
      intro z hz
      rcases List.mem_cons.mp hz with rfl | hz
      · exact hc
      · exact ahead_trans hc (h.1 z hz)

theorem insertClaim_perm (c : Claim) (l : List Claim) : List.Perm (insertClaim c l) (c :: l) := by
  induction l with
  | nil => exact List.Perm.refl _
  | cons y rest ih =>
    simp only [insertClaim]
    split
    · exact (List.Perm.cons y ih).trans (List.Perm.swap c y rest)
    · exact List.Perm.refl _

theorem insertClaim_once {c : Claim} {l : List Claim} (h : (l.map Claim.consumer).Nodup)
    (hc : c.consumer ∉ l.map Claim.consumer) : ((insertClaim c l).map Claim.consumer).Nodup := by
  rw [List.Perm.nodup_iff ((insertClaim_perm c l).map Claim.consumer)]
  exact List.nodup_cons.mpr ⟨hc, h⟩

/-! ### Membership -/

theorem isPending_iff {al : Alloc} {c : Consumer} : isPending al c = true ↔ c ∈ al.pending.map Claim.consumer := by
  simp [isPending, List.any_eq_true, List.mem_map]

theorem isGranted_iff {al : Alloc} {c : Consumer} :
    isGranted al c = true ↔ c ∈ al.granted.map (fun g => g.claim.consumer) := by
  simp [isGranted, List.any_eq_true, List.mem_map]

theorem not_isGranted_iff {al : Alloc} {c : Consumer} :
    isGranted al c = false ↔ c ∉ al.granted.map (fun g => g.claim.consumer) := by
  rw [← isGranted_iff]; simp

/-- Lawfulness, said of the lists. -/
theorem claimsLawful_iff (al : Alloc) : ClaimsLawful al ↔
    al.pending.Pairwise (fun x y => ahead x y = true) ∧ (al.pending.map Claim.consumer).Nodup ∧
    (al.granted.map (fun g => g.claim.consumer)).Nodup ∧
    ∀ c, isFan c = false → c ∈ al.pending.map Claim.consumer → c ∉ al.granted.map (fun g => g.claim.consumer) := by
  constructor
  · intro h
    exact ⟨h.ordered, h.onePending, h.oneGranted, fun c hf hp => not_isGranted_iff.mp (h.notBoth c hf (isPending_iff.mpr hp))⟩
  · intro h
    exact ⟨h.1, h.2.1, h.2.2.1, fun c hf hp => not_isGranted_iff.mpr (h.2.2.2 c hf (isPending_iff.mp hp))⟩

variable {al : Alloc}

/-- Lawful claims depend on the two lists alone. -/
theorem claims_same {al' : Alloc} (h : ClaimsLawful al) (hp : al'.pending = al.pending) (hg : al'.granted = al.granted) :
    ClaimsLawful al' := by
  rw [claimsLawful_iff] at *
  rw [hp, hg]
  exact h

/-! ### The operations -/

/-- A claim enters for a consumer that has none, or for a fan that has none pending. -/
theorem claims_insert {c : Claim} {p : List Claim} {g : List Grant} {al' : Alloc} (h : ClaimsLawful al)
    (hp : p.Sublist al.pending) (hg : g.Sublist al.granted) (hc : c.consumer ∉ p.map Claim.consumer)
    (hb : isFan c.consumer = false → c.consumer ∉ g.map (fun x => x.claim.consumer))
    (h1 : al'.pending = insertClaim c p) (h2 : al'.granted = g) : ClaimsLawful al' := by
  rw [claimsLawful_iff] at *
  rw [h1, h2]
  obtain ⟨o, n, m, b⟩ := h
  refine ⟨insertClaim_ordered (o.sublist hp), insertClaim_once (n.sublist (hp.map _)) hc, m.sublist (hg.map _), ?_⟩
  intro d hd hm
  rw [List.Perm.mem_iff ((insertClaim_perm c p).map Claim.consumer)] at hm
  rcases List.mem_cons.mp hm with rfl | hm
  · exact hb hd
  · intro hx
    exact b d hd ((hp.map _).subset hm) ((hg.map _).subset hx)

/-- Claims may leave. -/
theorem claims_sublists {al' : Alloc} (h : ClaimsLawful al) (hp : al'.pending.Sublist al.pending)
    (hg : al'.granted.Sublist al.granted) : ClaimsLawful al' := by
  rw [claimsLawful_iff] at *
  obtain ⟨o, n, m, b⟩ := h
  exact ⟨o.sublist hp, n.sublist (hp.map _), m.sublist (hg.map _),
    fun d hd hm hx => b d hd ((hp.map _).subset hm) ((hg.map _).subset hx)⟩

/-- Claims may change where they stand, in all but their consumer, class and stamp. -/
theorem claims_map {al' : Alloc} (f : Claim → Claim) (k : Grant → Grant) (h : ClaimsLawful al)
    (hf : ∀ c, (f c).consumer = c.consumer ∧ (f c).cls = c.cls ∧ (f c).arrival = c.arrival)
    (hk : ∀ g, (k g).claim.consumer = g.claim.consumer)
    (h1 : al'.pending = al.pending.map f) (h2 : al'.granted = al.granted.map k) : ClaimsLawful al' := by
  rw [claimsLawful_iff] at *
  rw [h1, h2]
  have e1 : (al.pending.map f).map Claim.consumer = al.pending.map Claim.consumer := by
    rw [List.map_map]; exact List.map_congr_left (fun c _ => (hf c).1)
  have e2 : (al.granted.map k).map (fun g => g.claim.consumer) = al.granted.map (fun g => g.claim.consumer) := by
    rw [List.map_map]; exact List.map_congr_left (fun g _ => hk g)
  rw [e1, e2]
  refine ⟨?_, h.2⟩
  rw [List.pairwise_map]
  refine h.1.imp ?_
  intro x y hxy
  simpa only [ahead, (hf x).2.1, (hf x).2.2, (hf y).2.1, (hf y).2.2] using hxy

theorem claims_mapClaims (c : Consumer) (f : Claim → Claim) (h : ClaimsLawful al)
    (hf : ∀ x, (f x).consumer = x.consumer ∧ (f x).cls = x.cls ∧ (f x).arrival = x.arrival) :
    ClaimsLawful (mapClaims al c f) := by
  refine claims_map (fun p => if p.consumer = c then f p else p)
    (fun g => if g.claim.consumer = c then { g with claim := f g.claim } else g) h ?_ ?_ rfl rfl
  · intro x
    split
    · exact hf x
    · exact ⟨rfl, rfl, rfl⟩
  · intro g
    split
    · exact (hf g.claim).1
    · rfl

theorem claims_arrive (c : Consumer) (k n l : Nat) (h : ClaimsLawful al) (hp : isPending al c = false)
    (hb : isFan c = false → isGranted al c = false) : ClaimsLawful (arrive al c k n l) := by
  refine claims_insert (c := { consumer := c, cls := k, amount := n, arrival := al.nextArrival, level := l }) h
    (List.Sublist.refl _) (List.Sublist.refl _) ?_ (fun hf => not_isGranted_iff.mp (hb hf)) rfl rfl
  intro hm
  rw [← isPending_iff, hp] at hm
  cases hm

theorem claims_dropClaims (c : Consumer) (h : ClaimsLawful al) : ClaimsLawful (dropClaims al c) :=
  claims_sublists h List.filter_sublist List.filter_sublist

theorem claims_dropPending (c : Consumer) (h : ClaimsLawful al) : ClaimsLawful (dropPending al c) :=
  claims_sublists h List.filter_sublist (List.Sublist.refl _)

theorem not_mem_filter_consumer (l : List Claim) (c : Consumer) :
    c ∉ (l.filter (fun p => p.consumer ≠ c)).map Claim.consumer := by
  intro h
  obtain ⟨x, hx, rfl⟩ := List.mem_map.mp h
  simp at hx

theorem not_mem_filter_granted (l : List Grant) (c : Consumer) :
    c ∉ (l.filter (fun g => g.claim.consumer ≠ c)).map (fun g => g.claim.consumer) := by
  intro h
  obtain ⟨x, hx, rfl⟩ := List.mem_map.mp h
  simp at hx

theorem isPending_dropPending (c : Consumer) : isPending (dropPending al c) c = false := by
  rw [Bool.eq_false_iff]
  intro h
  rw [isPending_iff] at h
  exact not_mem_filter_consumer _ _ h

theorem pendingClaim_spec {c : Consumer} {p : Claim} (h : pendingClaim al c = some p) : p ∈ al.pending ∧ p.consumer = c := by
  refine ⟨List.mem_of_find?_eq_some h, ?_⟩
  simpa using List.find?_some h

theorem claims_setClass (c : Consumer) (k : Nat) (h : ClaimsLawful al) :
    ClaimsLawful (setClass al c k) := by
  unfold setClass
  split
  · rename_i p e
    obtain ⟨hm, rfl⟩ := pendingClaim_spec e
    refine claims_insert (c := { p with cls := k }) h List.filter_sublist (List.Sublist.refl _)
      (not_mem_filter_consumer _ _) ?_ rfl rfl
    intro hf
    exact not_isGranted_iff.mp (h.notBoth _ hf (isPending_iff.mpr (List.mem_map.mpr ⟨p, hm, rfl⟩)))
  · rename_i e
    -- no claim of the consumer is pending, so the list keeps its order
    have hn : ∀ x ∈ al.pending, x.consumer ≠ c := by
      intro x hx hc
      have := List.find?_eq_none.mp e x hx
      simp [hc] at this
    rw [claimsLawful_iff] at *
    have e1 : (mapClaims al c (fun x => { x with cls := k })).pending = al.pending := by
      simp only [mapClaims]
      conv_rhs => rw [← List.map_id al.pending]
      apply List.map_congr_left
      intro x hx
      simp [hn x hx]
    have e2 : (mapClaims al c (fun x => { x with cls := k })).granted.map (fun g => g.claim.consumer)
        = al.granted.map (fun g => g.claim.consumer) := by
      simp only [mapClaims, List.map_map]
      apply List.map_congr_left
      intro g _
      simp only [Function.comp]
      split <;> rfl
    rw [e1, e2]
    exact h

/-- R36: a shed claim returns to the list. -/
theorem claims_unGrant (c : Claim) (h : ClaimsLawful al) : ClaimsLawful (unGrant al c) := by
  have hr : (returned al c).consumer = c.consumer := by
    unfold returned
    split
    · rename_i up e; exact (pendingClaim_spec e).2
    · rfl
  refine claims_insert (c := returned al c) h (p := al.pending.filter (fun p => p.consumer ≠ c.consumer))
    (g := al.granted.filter (fun g => g.claim.consumer ≠ c.consumer)) List.filter_sublist List.filter_sublist ?_ ?_ rfl rfl
  · rw [hr]; exact not_mem_filter_consumer _ _
  · intro _; rw [hr]; exact not_mem_filter_granted _ _

/-- R37: a grant moves a claim to the granted set. -/
theorem claims_grant (cfg : Settings) (c : Claim) (h : ClaimsLawful al) : ClaimsLawful (grant cfg al c) := by
  rw [claimsLawful_iff] at *
  obtain ⟨o, n, m, b⟩ := h
  simp only [grant]
  refine ⟨o.sublist List.filter_sublist, n.sublist (List.filter_sublist.map _), ?_, ?_⟩
  · rw [List.map_append, List.nodup_append]
    refine ⟨m.sublist (List.filter_sublist.map _), by simp, ?_⟩
    intro x hx y hy e
    subst e
    simp only [List.map_cons, List.map_nil, List.mem_singleton] at hy
    subst hy
    exact not_mem_filter_granted _ _ hx
  · intro d hd hm hx
    rw [List.map_append, List.mem_append] at hx
    rcases hx with hx | hx
    · exact b d hd ((List.filter_sublist.map _).subset hm) ((List.filter_sublist.map _).subset hx)
    · simp only [List.map_cons, List.map_nil, List.mem_singleton] at hx
      subst hx
      exact not_mem_filter_consumer _ _ hm

/-! ### Fans (R40) -/

theorem claims_setPending (cfg : Settings) (z : Zone) (l : Nat) (h : ClaimsLawful al) : ClaimsLawful (setPending cfg al z l) := by
  refine claims_map (fun p => if p.consumer = .fan z then atLevel cfg l p else p) id h ?_ (fun _ => rfl) rfl ?_
  · intro x
    split <;> exact ⟨rfl, rfl, rfl⟩
  · simp [setPending]

theorem claims_fanArrives (cfg : Settings) (z : Zone) (l : Nat) (h : ClaimsLawful al) (hp : isPending al (.fan z) = false) :
    ClaimsLawful (fanArrives cfg al z l) := claims_arrive _ _ _ _ h hp (fun hf => by simp [isFan] at hf)

theorem claims_fanRise (cfg : Settings) (z : Zone) (l : Nat) (h : ClaimsLawful al) : ClaimsLawful (fanRise cfg al z l) := by
  unfold fanRise
  split
  · exact claims_fanArrives _ _ _ (claims_dropPending _ h) (isPending_dropPending _)
  · rename_i hp
    exact claims_fanArrives _ _ _ h (by simpa using hp)

theorem claims_fanFall (cfg : Settings) (z : Zone) (l : Nat) (h : ClaimsLawful al) : ClaimsLawful (fanFall cfg al z l) := by
  unfold fanFall
  repeat' split
  · exact claims_setPending _ _ _ h
  · exact claims_mapClaims _ _ (claims_dropPending _ h) (fun _ => ⟨rfl, rfl, rfl⟩)
  · exact claims_dropPending _ h
  · exact claims_mapClaims _ _ h (fun _ => ⟨rfl, rfl, rfl⟩)

end Sys2Proof.Machine
end

