-- ==== Sys2Proof/Laws/Settle.lean ====
section
/-! SUPPORT. What carrying out the hand-overs of a step can do: nothing when there is none, one at a time otherwise; whatever every
hand-over keeps, the step keeps. -/
namespace Sys2Proof.Machine

/-! ### Composition -/

@[simp] theorem andThen_fst (x : Did) (f : Seat → Did) : (andThen x f).1 = (f x.1).1 := rfl
@[simp] theorem andThen_snd (x : Did) (f : Seat → Did) : (andThen x f).2 = x.2 ++ (f x.1).2 := rfl
@[simp] theorem done_fst (s : Seat) : (done s).1 = s := rfl
@[simp] theorem done_snd (s : Seat) : (done s).2 = [] := rfl

/-- What a test starts from and every member keeps holds at the end. -/
theorem forEach_keeps {α : Type} (P : Seat → Prop) (f : α → Seat → Did) (hf : ∀ i s, P s → P (f i s).1) (l : List α) (s : Seat)
    (h : P s) : P (forEach l f s).1 := by
  have aux : ∀ (l : List α) (x : Did), P x.1 → P (l.foldl (fun x i => andThen x (f i)) x).1 := by
    intro l
    induction l with
    | nil => intro x hx; exact hx
    | cons i rest ih => intro x hx; exact ih _ (hf i x.1 hx)
  exact aux l (s, []) h

@[simp] theorem forEach_nil {α : Type} (f : α → Seat → Did) (s : Seat) : forEach [] f s = (s, []) := rfl

/-- A fold of updates keeps what each update keeps. -/
theorem foldl_keeps {α β : Type} (P : β → Prop) (f : β → α → β) (hf : ∀ s i, P s → P (f s i)) (l : List α) (s : β) (h : P s) :
    P (l.foldl f s) := by
  induction l generalizing s with
  | nil => exact h
  | cons i rest ih => exact ih _ (hf s i h)

/-! ### Settling -/

@[simp] theorem settle_nil (n : Nat) (b : Base) (s : Seat) : settle n [] b s = s := by cases n <;> rfl

/-- One hand-over is carried out, those that it calls for going before those that wait. -/
theorem settle_cons (n : Nat) (t : Task) (rest : List Task) (b : Base) (s : Seat)
    (h : ¬ (t = .pass ∧ passInProgress rest = true)) :
    settle (n + 1) (t :: rest) b s = settle n ((runTask t b s).2 ++ rest) b (runTask t b s).1 := by
  simp only [settle, h, if_false]

/-- A deferred pass stands behind the first share that waits (R32). -/
theorem deferPass_behind (before : List Task) (c b : Nat) (after : List Task) (h : ∀ x y, Task.share x y ∉ before) :
    deferPass (before ++ .share c b :: after) = before ++ .share c b :: .pass :: after := by
  induction before with
  | nil => rfl
  | cons t rest ih =>
    have ht : isShare t = false := by
      cases t <;> first | rfl | exact absurd (List.mem_cons_self ..) (h _ _)
    simp [deferPass, ht, ih fun x y hm => h x y (List.mem_cons_of_mem _ hm)]

/-- A pass is in progress while a share of it waits. -/
theorem passInProgress_iff (l : List Task) : passInProgress l = true ↔ ∃ x y, Task.share x y ∈ l := by
  simp only [passInProgress, List.any_eq_true]
  constructor
  · rintro ⟨t, hm, ht⟩
    cases t <;> first | exact ⟨_, _, hm⟩ | cases ht
  · rintro ⟨x, y, hm⟩; exact ⟨_, hm, rfl⟩

/-- A pass called for inside a pass is made after it. -/
theorem settle_pass_deferred (n : Nat) (rest : List Task) (b : Base) (s : Seat) (h : passInProgress rest = true) :
    settle (n + 1) (.pass :: rest) b s = settle n (deferPass rest) b s := by
  simp only [settle, h, and_self, if_true]

/-- Whatever every hand-over keeps, settling keeps. -/
theorem settle_keeps (P : Seat → Prop) (b : Base) (hP : ∀ t s, P s → P (runTask t b s).1) (n : Nat) (l : List Task) (s : Seat)
    (h : P s) : P (settle n l b s) := by
  induction n generalizing l s with
  | zero => simpa only [settle] using h
  | succ n ih =>
    cases l with
    | nil => simpa only [settle] using h
    | cons t rest =>
      simp only [settle]
      split
      · exact ih _ _ h
      · exact ih _ _ (hP t s h)

theorem settled_keeps (P : Seat → Prop) (b : Base) (hP : ∀ t s, P s → P (runTask t b s).1) (y : Did) (h : P y.1) :
    P (settled b y) := settle_keeps P b hP fuel y.2 y.1 h

@[simp] theorem settled_done (b : Base) (s : Seat) : settled b (done s) = s := settle_nil _ _ _
@[simp] theorem settled_nil (b : Base) (s : Seat) : settled b (s, []) = s := settle_nil _ _ _

/-- There is room for one hand-over more than any number the proofs name. -/
theorem fuel_eq : fuel = 999999999999 + 1 := rfl

end Sys2Proof.Machine
end

