-- ==== Sys2Proof/Laws/Frames.lean ====
section
/-! SUPPORT. What a comfort frame around a command changes, selectors of axes, how acting on one axis leaves the others and the
other blocks, and what the end of moves, recalls and massages does to the engine, the gallery and the notices, and what
the store queue takes. -/
namespace Sys2Proof.Machine

/-- A part that works is in RUN or in PARKING. -/
theorem works_power {s : State} (h : Works s) : s.base.power = .run ∨ s.base.power = .parking := by
  unfold Works running at h; cases hp : s.base.power <;> simp [hp] at h ⊢
/-- A frame that reaches a part that works is decoded. -/
theorem frame_works {s : State} (h : Works s) (f) : frame s f = .next (f s) := by
  rcases works_power h with h | h <;> simp [frame, h]
/-- The header captured at the start of a frame changes nothing but the link. -/
theorem openFrame_seat (s : State) : (openFrame s).seat = s.seat := by unfold openFrame; split <;> rfl
/-- What the start of a frame changes outside the seat is the link, and not the vehicle state. -/
theorem openFrame_base (s : State) : ∃ l : Link, l.vehicle = s.base.link.vehicle ∧ (openFrame s).base = { s.base with link := l } := by
  unfold openFrame; split
  · exact ⟨s.base.link, rfl, rfl⟩
  · exact ⟨{ s.base.link with begun := true, header := statusHeader s.base s.seat, captured := none }, rfl, rfl⟩
/-- A command that passes the restricted mode acts, and its frame ends. -/
theorem comfort_run {s : State} (h : Works s) {k act} (hp : passes s.seat.brace.mode k = true) :
    comfort k act s = .next (closeFrame (act (openFrame s)).2 (act (openFrame s)).1 []) := by
  unfold comfort; rw [frame_works h]; simp only [guarded, openFrame_seat, hp, if_true]

/-- A command of the seat that refuses, whatever the link holds, changes nothing but the link. -/
theorem comfort_refuses {s : State} (h : Works s) {k f r} (hp : passes s.seat.brace.mode k = true)
    (hf : ∀ l : Link, l.vehicle = s.base.link.vehicle → f { s.base with link := l } s.seat = refuse r s.seat) : comfort k (onSeat f) s = .next (refused s r) := by
  rw [comfort_run h hp]
  obtain ⟨l, hl, e⟩ := openFrame_base s
  simp only [onSeat, e, openFrame_seat, hf l hl, refuse]
  simp only [refused, actOn, settled_done]
  congr 2
  have := openFrame_seat s
  cases h2 : openFrame s; simp_all
/-- A command of the seat that is taken, whatever the link holds: what it hands over is carried out, and its frame ends. -/
theorem comfort_takes {s : State} (h : Works s) {k f y r} (hp : passes s.seat.brace.mode k = true)
    (hf : ∀ l : Link, l.vehicle = s.base.link.vehicle → f { s.base with link := l } s.seat = (r, y)) : comfort k (onSeat f) s = .next (answered s r y) := by
  rw [comfort_run h hp]
  obtain ⟨l, hl, e⟩ := openFrame_base s
  simp only [onSeat, e, openFrame_seat, hf l hl, answered]
/-- The selector of an axis selects it. -/
theorem axisOfCode_axisCode (a : Axis) : axisOfCode (axisCode a) = some a := by cases a <;> rfl
/-- The selector of a present axis selects it. -/
theorem presentAxis_code {f : Fitment} {a : Axis} (h : present f a = true) : presentAxis f (axisCode a) = some a := by
  simp [presentAxis, axisOfCode_axisCode, Option.filter, h]
/-- A selector that selects an axis is its code. -/
theorem axisCode_of {n : Nat} {a : Axis} (h : axisOfCode n = some a) : n = axisCode a := by
  unfold axisOfCode axisOrder at h
  match n, h with
  | 0, h => simp at h; subst h; rfl
  | 1, h => simp at h; subst h; rfl
  | 2, h => simp at h; subst h; rfl
  | 3, h => simp at h; subst h; rfl
  | 4, h => simp at h; subst h; rfl
  | 5, h => simp at h; subst h; rfl
  | n+6, h => simp at h
/-- A number that is the code of no present axis selects nothing. -/
theorem presentAxis_absent {f : Fitment} {n : Nat} (h : ∀ a, present f a = true → n ≠ axisCode a) : presentAxis f n = none := by
  unfold presentAxis
  cases e : axisOfCode n with
  | none => rfl
  | some a =>
    have := h a
    by_cases hp : present f a = true
    · exact absurd (axisCode_of e) (this hp)
    · simp [Option.filter, hp]

/-- The code of a direction gives it back. -/
theorem dirOfCode_dirCode (d : Dir) : dirOfCode (dirCode d) = some d := by cases d <;> rfl

/-- Ending a move leaves the recall context to the hand-overs. -/
theorem endMove_recall (b : Base) (s : Seat) (a r rep) : (endMove b s a r rep).1.recallCtx = s.recallCtx := by
  have h1 : (loseLearn s a).recallCtx = s.recallCtx := by unfold loseLearn; simp only; split <;> rfl
  have rel : ∀ s c, (releaseClaim s c).1.recallCtx = s.recallCtx := by intro s c; unfold releaseClaim; split <;> rfl
  have fin : ∀ s r rep, (finishAtOnce s a r rep).1.recallCtx = s.recallCtx := by
    intro s r rep; unfold finishAtOnce; simp only [rel]; split <;> rfl
  have sw : ∀ s c r rep, (switchOff b s a c r rep).1.recallCtx = s.recallCtx := by
    intro s c r rep; unfold switchOff; simp only; split <;> simp [rel, putAxis]
  have ec : ∀ s r rep, (endCoasting s a r rep).1.recallCtx = s.recallCtx := by
    intro s r rep; unfold endCoasting; simp only; split
    · simp [rel, putAxis]
    · split <;> simp [rel, putAxis]
  unfold endMove
  simp only
  split <;> simp only [fin, sw, ec, done_fst, putAxis]
  all_goals (split <;> first | exact h1 | rfl)
/-- A frame that changes nothing but the link. -/
theorem refused_eq_answered {s : State} {r : Result} : refused s r = answered s r (s.seat, []) := by
  simp only [refused, answered, actOn, settled_nil]
  congr 1
  have := openFrame_seat s
  cases h2 : openFrame s; simp_all
/-- Members that all do nothing do nothing together. -/
theorem forEach_nothing {α : Type} (f : α → Seat → Did) (l : List α) (s : Seat) (h : ∀ i ∈ l, f i s = (s, [])) : forEach l f s = (s, []) := by
  unfold forEach
  have : ∀ l : List α, (∀ i ∈ l, f i s = (s, [])) → l.foldl (fun x i => andThen x (f i)) (s, []) = (s, []) := by
    intro l; induction l with
    | nil => intro _; rfl
    | cons i r ih => intro h; simp only [List.foldl_cons]; rw [show andThen (s, []) (f i) = (s, []) by simp [andThen, h i (by simp)]]; exact ih (fun j hj => h j (by simp [hj]))
  exact this l h
/-- Writing one axis leaves the others. -/
theorem putAxis_other (s : Seat) (a c : Axis) (x) (h : c ≠ a) : axisOf (putAxis s a x) c = axisOf s c := by
  cases a <;> cases c <;> first | exact absurd rfl h | rfl
/-- Ending a move touches no other axis, and not the brace controller. -/
theorem endMove_other (b : Base) (s : Seat) (a c r rep) (h : c ≠ a) : axisOf (endMove b s a r rep).1 c = axisOf s c ∧ (endMove b s a r rep).1.brace = s.brace := by
  have P : ∀ s x, axisOf (putAxis s a x) c = axisOf s c := fun s x => putAxis_other s a c x h
  have h1 : axisOf (loseLearn s a) c = axisOf s c ∧ (loseLearn s a).brace = s.brace := by
    unfold loseLearn; simp only; split
    · exact ⟨rfl, rfl⟩
    · exact ⟨P s _, rfl⟩
  have rel : ∀ s d, axisOf (releaseClaim s d).1 c = axisOf s c ∧ (releaseClaim s d).1.brace = s.brace := by intro s c; unfold releaseClaim; split <;> exact ⟨rfl, rfl⟩
  have fin : ∀ s r rep, axisOf (finishAtOnce s a r rep).1 c = axisOf s c ∧ (finishAtOnce s a r rep).1.brace = s.brace := by
    intro s r rep; unfold finishAtOnce; simp only [rel]; split
    · refine ⟨?_, rfl⟩; unfold completeLearn; simp only; exact (P _ _).trans (P s _)
    · exact ⟨P s _, rfl⟩
  have sw : ∀ s k r rep, axisOf (switchOff b s a k r rep).1 c = axisOf s c ∧ (switchOff b s a k r rep).1.brace = s.brace := by
    intro s k r rep; unfold switchOff; simp only; split
    · exact ⟨P s _, rfl⟩
    · simp only [rel]; exact ⟨P s _, rfl⟩
  have ec : ∀ s r rep, axisOf (endCoasting s a r rep).1 c = axisOf s c ∧ (endCoasting s a r rep).1.brace = s.brace := by
    intro s r rep; unfold endCoasting; simp only; split
    · simp only [rel]; exact ⟨P s _, rfl⟩
    · split
      · simp only [rel]; exact ⟨P s _, rfl⟩
      · exact ⟨P s _, rfl⟩
  have h2 : axisOf (if ownerMet s.brace.mode (axisOf s a) = .learn then loseLearn s a else s) c = axisOf s c ∧ (if ownerMet s.brace.mode (axisOf s a) = .learn then loseLearn s a else s).brace = s.brace := by
    split
    · exact h1
    · exact ⟨rfl, rfl⟩
  unfold endMove
  simp only
  split
  · exact ⟨(fin _ _ _).1.trans h2.1, (fin _ _ _).2.trans h2.2⟩
  · exact ⟨(sw _ _ _ _).1.trans ((P _ _).trans h2.1), (sw _ _ _ _).2.trans h2.2⟩
  · exact ⟨(ec _ _ _).1.trans h2.1, (ec _ _ _).2.trans h2.2⟩
  · exact h2
/-- Where one member alone acts, all together act as it does. -/
theorem forEach_one (f : Axis → Seat → Did) (a : Axis) (l : List Axis) (s : Seat) (nd : l.Nodup) (hin : a ∈ l)
    (h1 : ∀ i ∈ l, i ≠ a → f i s = (s, [])) (h2 : ∀ i ∈ l, i ≠ a → f i (f a s).1 = ((f a s).1, [])) : forEach l f s = f a s := by
  unfold forEach
  have step : ∀ l : List Axis, (∀ i ∈ l, i ≠ a → f i (f a s).1 = ((f a s).1, [])) → a ∉ l → l.foldl (fun x i => andThen x (f i)) (f a s) = f a s := by
    intro l; induction l with
    | nil => intro _ _; rfl
    | cons i r ih =>
      intro h hn
      have hne : i ≠ a := by rintro rfl; simp at hn
      simp only [List.foldl_cons]
      rw [show andThen (f a s) (f i) = f a s by simp [andThen, h i (by simp) hne]]
      exact ih (fun j hj => h j (by simp [hj])) (by simp at hn; exact hn.2)
  have go : ∀ l : List Axis, l.Nodup → a ∈ l → (∀ i ∈ l, i ≠ a → f i s = (s, [])) → (∀ i ∈ l, i ≠ a → f i (f a s).1 = ((f a s).1, [])) →
      l.foldl (fun x i => andThen x (f i)) (s, []) = f a s := by
    intro l; induction l with
    | nil => intro _ h; simp at h
    | cons i r ih =>
      intro nd hin h1 h2
      simp only [List.foldl_cons]
      by_cases hi : i = a
      · subst hi
        rw [show andThen (s, []) (f i) = f i s by simp [andThen]]
        exact step r (fun j hj hne => h2 j (by simp [hj]) hne) (by simp at nd; exact nd.1)
      · rw [show andThen (s, []) (f i) = (s, []) by simp [andThen, h1 i (by simp) hi]]
        exact ih (by simp at nd; exact nd.2) (by simp at hin; rcases hin with h | h; exact absurd h.symm hi; exact h) (fun j hj => h1 j (by simp [hj])) (fun j hj => h2 j (by simp [hj]))
  exact go l nd hin h1 h2

/-- The state after a frame that changes nothing but the link, field by field. -/
theorem refused_explicit (s : State) (r : Result) :
    refused s r = { s with base := { s.base with link := { lastResult := r, vehicle := s.base.link.vehicle, header := (if s.base.link.begun then s.base.link.header else statusHeader s.base s.seat), begun := false, captured := none, reply := [] } }, seat := { s.seat with notices := { s.seat.notices with captured := none } } } := by
  unfold refused closeFrame openFrame
  by_cases h : s.base.link.begun = true <;> simp [h, withLink, withBase, withSeat]

/-- A reply reads nothing of the link but the vehicle state. -/
theorem replyOf_link (f : ReadFrame) (s : State) (l : Link) (hv : l.vehicle = s.base.link.vehicle) : replyOf f {s.base with link := l} s.seat = replyOf f s.base s.seat := by
  cases f <;> simp [replyOf, statusReply, hv, allocationReply, galleryReply, massageReply, braceReply, readiness, recallReply, patternEndReply] <;> rfl

/-- An event that reaches a part that works acts. -/
theorem event_works {s : State} (h : Works s) (f : Base → Seat → Did) : event s f = .next (actOn s (f s.base s.seat)) := by
  unfold event; rw [if_pos (show running s.base.power = true from h)]
/-- An event that can come, and reaches a part that works, acts. -/
theorem eventIf_works {s : State} (h : Works s) {c : Bool} (hc : c = true) (f : Base → Seat → Did) :
    eventIf s c f = .next (actOn s (f s.base s.seat)) := by
  simp only [eventIf, hc, if_true, event_works h]
/-- An event of a present axis that can come acts. -/
theorem axisEvent_works {s : State} (h : Works s) {a : Axis} {can : AxisState → Bool} {f : Base → Seat → Did}
    (hp : present s.base.fit a = true) (hc : can (axisOf s.seat a) = true) :
    axisEvent s a can f = .next (actOn s (f s.base s.seat)) := by
  simp only [axisEvent, eventIf, hp, hc, Bool.and_self, if_true, event_works h]
/-- With nothing to hand over, the seat is what the block left. -/
theorem actOn_done (s : State) (t : Seat) : actOn s (done t) = { s with seat := t } := by simp [actOn]
/-- What a block left with no hand-overs. -/
theorem actOn_nil (s : State) (t : Seat) : actOn s (t, []) = { s with seat := t } := by simp [actOn]
/-- Writing an axis as it stands changes nothing. -/
theorem set_get_axis {α : Type} (t : PerAxis α) (a : Axis) : t.set a (t.get a) = t := by cases a <;> rfl
/-- The last write of an axis stands. -/
theorem set_set_axis {α : Type} (t : PerAxis α) (a : Axis) (x y : α) : (t.set a x).set a y = t.set a y := by cases a <;> rfl
/-- An axis reads as it was written. -/
theorem axisOf_putAxis (s : Seat) (a : Axis) (x : AxisState) : axisOf (putAxis s a x) a = x := by cases a <;> rfl

/-! ### What acting on axes keeps -/

/-- Acting on axes: nothing but axes, claims, notices and the store queue may differ. -/
structure KeepsRest (s t : Seat) : Prop where
  scanner : t.scanner = s.scanner
  profiles : t.profiles = s.profiles
  recallCtx : t.recallCtx = s.recallCtx
  lastRecall : t.lastRecall = s.lastRecall
  gallery : t.gallery = s.gallery
  engine : t.engine = s.engine
  zones : t.zones = s.zones
  brace : t.brace = s.brace

/-- Nothing differs. -/
theorem KeepsRest.same (s : Seat) : KeepsRest s s := ⟨rfl, rfl, rfl, rfl, rfl, rfl, rfl, rfl⟩
/-- One act after another. -/
theorem KeepsRest.after {s t u : Seat} (h : KeepsRest s t) (k : KeepsRest t u) : KeepsRest s u :=
  ⟨k.scanner.trans h.scanner, k.profiles.trans h.profiles, k.recallCtx.trans h.recallCtx, k.lastRecall.trans h.lastRecall,
   k.gallery.trans h.gallery, k.engine.trans h.engine, k.zones.trans h.zones, k.brace.trans h.brace⟩
/-- A release of a claim. -/
theorem releaseClaim_keeps (s : Seat) (c : Consumer) : KeepsRest s (releaseClaim s c).1 := by
  unfold releaseClaim; split <;> exact ⟨rfl, rfl, rfl, rfl, rfl, rfl, rfl, rfl⟩
/-- Ending a move. -/
theorem endMove_keeps (b : Base) (s : Seat) (a r rep) : KeepsRest s (endMove b s a r rep).1 := by
  have R := releaseClaim_keeps
  have put : ∀ s x, KeepsRest s (putAxis s a x) := fun s x => ⟨rfl, rfl, rfl, rfl, rfl, rfl, rfl, rfl⟩
  have lose : ∀ s, KeepsRest s (loseLearn s a) := by
    intro s; unfold loseLearn; simp only; split
    · exact .same s
    · exact ⟨rfl, rfl, rfl, rfl, rfl, rfl, rfl, rfl⟩
  have fin : ∀ s r rep, KeepsRest s (finishAtOnce s a r rep).1 := by
    intro s r rep; unfold finishAtOnce; simp only
    refine KeepsRest.after ?_ (R _ _)
    split <;> exact ⟨rfl, rfl, rfl, rfl, rfl, rfl, rfl, rfl⟩
  have sw : ∀ s k r rep, KeepsRest s (switchOff b s a k r rep).1 := by
    intro s k r rep; unfold switchOff; simp only; split
    · exact ⟨rfl, rfl, rfl, rfl, rfl, rfl, rfl, rfl⟩
    · exact (put _ _).after (R _ _)
  have ec : ∀ s r rep, KeepsRest s (endCoasting s a r rep).1 := by
    intro s r rep; unfold endCoasting; simp only; split
    · exact (put _ _).after (R _ _)
    · split
      · exact (put _ _).after (R _ _)
      · exact put _ _
  have h2 : KeepsRest s (if ownerMet s.brace.mode (axisOf s a) = .learn then loseLearn s a else s) := by
    split
    · exact lose s
    · exact .same s
  unfold endMove; simp only; split
  · exact h2.after (fin _ _ _)
  · exact h2.after ((put _ _).after (sw _ _ _ _))
  · exact h2.after (ec _ _ _)
  · exact h2
/-- Doing for each member what keeps the rest. -/
theorem KeepsRest.forEach {α : Type} (l : List α) (f : α → Seat → Did) (s : Seat) (h : ∀ i t, KeepsRest t (f i t).1) :
    KeepsRest s (forEach l f s).1 :=
  forEach_keeps (KeepsRest s) f (fun i t ht => ht.after (h i t)) l s (.same s)

/-! ### What a brace and a crash leave of the massage and the notices -/

/-- A release posts nothing. -/
theorem releaseClaim_notices (s : Seat) (c : Consumer) : (releaseClaim s c).1.notices = s.notices := by
  unfold releaseClaim; split <;> rfl

/-- A lost learn run posts nothing. -/
theorem loseLearn_notices (s : Seat) (a : Axis) : (loseLearn s a).notices = s.notices := by
  unfold loseLearn; simp only; split <;> rfl

/-- A move that ends at once before its target posts nothing. -/
theorem finishAtOnce_notices (s : Seat) (a : Axis) (r : MoveResult) (rep : Bool) (hr : r ≠ .reached) :
    (finishAtOnce s a r rep).1.notices = s.notices := by
  unfold finishAtOnce; simp only [hr, and_false, if_false, releaseClaim_notices]; rfl

/-- A bridge that is switched off posts nothing. -/
theorem switchOff_notices (b : Base) (s : Seat) (a : Axis) (k : Cause) (r : Option MoveResult) (rep : Bool) :
    (switchOff b s a k r rep).1.notices = s.notices := by
  unfold switchOff; simp only; split
  · rfl
  · rw [releaseClaim_notices]; rfl

/-- The end of a coasting axis's move posts nothing. -/
theorem endCoasting_notices (s : Seat) (a : Axis) (r : MoveResult) (rep : Bool) : (endCoasting s a r rep).1.notices = s.notices := by
  unfold endCoasting; simp only; split
  · rw [releaseClaim_notices]; rfl
  · split
    · rw [releaseClaim_notices]; rfl
    · rfl

/-- A move that ends before its target posts nothing, the interruption of a learn run included (R17, R24). -/
theorem endMove_notices (b : Base) (s : Seat) (a : Axis) (r : MoveResult) (rep : Bool) (hr : r ≠ .reached) :
    (endMove b s a r rep).1.notices = s.notices := by
  have h2 : (if ownerMet s.brace.mode (axisOf s a) = .learn then loseLearn s a else s).notices = s.notices := by
    split
    · exact loseLearn_notices s a
    · rfl
  unfold endMove; simp only
  generalize (if ownerMet s.brace.mode (axisOf s a) = .learn then loseLearn s a else s) = t at h2 ⊢
  split
  · exact (finishAtOnce_notices t a r rep hr).trans h2
  · exact (switchOff_notices b _ a _ _ _).trans h2
  · exact (endCoasting_notices t a r rep).trans h2
  · exact h2

/-- A cell is in a union when it is in one part. -/
theorem inSet_or (c d : CellSet) (i : Bladder) : inSet (c ||| d) i = (inSet c i || inSet d i) := by
  simp [inSet]

/-- The cells that a test picks. -/
theorem inSet_cellsWhere (f : Bladder → Bool) : ∀ i ∈ cellOrder, inSet (cellsWhere f) i = f i := by
  intro i hi
  simp only [cellOrder, List.mem_cons, List.not_mem_nil, or_false] at hi
  rcases hi with rfl | rfl | rfl | rfl | rfl | rfl | rfl | rfl <;>
  · simp only [cellsWhere, cellOrder, List.foldl]
    cases f .m1 <;> cases f .m2 <;> cases f .m3 <;> cases f .m4 <;> cases f .m5 <;> cases f .m6 <;> cases f .m7 <;> cases f .m8 <;> rfl

/-- R120: the held cells are those filled, and those whose vents are withdrawn. -/
theorem heldCells_mem (s : Seat) (i : Bladder) (hi : i ∈ cellOrder) :
    inSet (heldCells s) i = true ↔
      0 < (bladderOf s.gallery i).lastTarget ∨
        (asksVents s.engine = true ∧ (inSet s.engine.outstanding i = true ∨ inSet s.engine.stillToAsk i = true)) := by
  unfold heldCells filledCells
  rw [inSet_or, Bool.or_eq_true, inSet_cellsWhere _ i hi, decide_eq_true_iff]
  cases asksVents s.engine
  · simp [inSet]
  · simp [inSet_or]

/-- An engine that is OFF stays as it is. -/
theorem engineEnd_keeps_off (s : Seat) (r : EndReason) (h : s.engine.state = .off) : engineEnd s r = s := by
  simp [engineEnd, h]

/-- R120: an ending without a stop is told. -/
theorem engineEnd_notices (s : Seat) (r : EndReason) (h : s.engine.state ≠ .off) :
    (engineEnd s r).notices = postTo s.notices .massageStopped (patternSubject s.engine.pattern) (toWord (reasonCode r)) := by
  simp [engineEnd, h, engineOff]

/-- R120: an ending without a stop leaves the engine OFF, with the cells it holds. -/
theorem engineEnd_engine (s : Seat) (r : EndReason) (h : s.engine.state ≠ .off) :
    (engineEnd s r).engine =
      { s.engine with
        state := .off, held := heldCells s, outstanding := 0, stillToAsk := 0, endReason := some r, asking := none, holdLeft := none,
        restLeft := none } := by
  simp [engineEnd, h, engineOff]

/-- The massage engine, the gallery and the notices are the same. -/
structure KeepsMassage (s t : Seat) : Prop where
  engine : t.engine = s.engine
  gallery : t.gallery = s.gallery
  notices : t.notices = s.notices

/-- Doing for each member what keeps the massage. -/
theorem forEach_massage {α : Type} (l : List α) (f : α → Seat → Did) (s : Seat) (h : ∀ i t, KeepsMassage t (f i t).1) :
    KeepsMassage s (forEach l f s).1 :=
  forEach_keeps (KeepsMassage s) f
    (fun i t ht =>
      ⟨(h i t).engine.trans ht.engine, (h i t).gallery.trans ht.gallery, (h i t).notices.trans ht.notices⟩)
    l s ⟨rfl, rfl, rfl⟩

/-- A move that ends before its target. -/
theorem endMove_massage (b : Base) (s a r rep) (hr : r ≠ .reached) : KeepsMassage s (endMove b s a r rep).1 :=
  ⟨(endMove_keeps b s a r rep).engine, (endMove_keeps b s a r rep).gallery, endMove_notices b s a r rep hr⟩

/-- Noting the outcome of a restore. -/
theorem noteRestore_massage (s : Seat) (k : Source) (o : RecallOutcome) : KeepsMassage s (noteRestore s k o) := by
  unfold noteRestore; split <;> exact ⟨rfl, rfl, rfl⟩

/-- A move of an aborted recall has not reached its target. -/
theorem abortResult_ne (x : AxisState) (o : RecallOutcome) : abortResult x o ≠ .reached := by
  unfold abortResult; split <;> exact fun h => nomatch h

/-- R77: an aborted recall posts RECALL_DONE and nothing else, and keeps engine and gallery. -/
theorem abortRecall_massage (b : Base) (s : Seat) (o : RecallOutcome) :
    (abortRecall b s o).1.engine = s.engine ∧ (abortRecall b s o).1.gallery = s.gallery ∧
    (abortRecall b s o).1.notices = match s.recallCtx with
      | some r => postTo s.notices .recallDone .none (pairWord (slotCode r.slot * 16 + sourceCode r.source) (outcomeCode o))
      | none => s.notices := by
  unfold abortRecall
  cases h : s.recallCtx with
  | none => exact ⟨rfl, rfl, rfl⟩
  | some r =>
    simp only
    have k := forEach_massage (recallOrder.filter (fun a => r.result.get a = .running))
      (fun a t => endMove b t a (abortResult (axisOf s a) o) false) s (fun i t => endMove_massage b t i _ _ (abortResult_ne _ _))
    generalize forEach (recallOrder.filter (fun a => r.result.get a = .running))
      (fun a t => endMove b t a (abortResult (axisOf s a) o) false) s = y at k
    have q := noteRestore_massage
      (closeRecall y.1 { r with result := tabulate (fun a => abortedResult s o a (r.result.get a)) } .aborted o) r.source o
    exact ⟨q.engine.trans k.engine, q.gallery.trans k.gallery, q.notices.trans (congrArg (fun n => postTo n _ _ _) k.notices)⟩

/-- Holding every ACTIVE contact off. -/
theorem holdOffAll_massage (s : Seat) : KeepsMassage s (closeWindow (holdOffAll s)) := by
  have h : KeepsMassage s (contactOrder.foldl holdOff s) :=
    foldl_keeps (KeepsMassage s) holdOff
      (fun t c ht => by unfold holdOff; split <;> exact ⟨ht.engine, ht.gallery, ht.notices⟩) contactOrder s ⟨rfl, rfl, rfl⟩
  unfold closeWindow holdOffAll
  generalize contactOrder.foldl holdOff s = t at h
  exact ⟨h.engine, h.gallery, h.notices⟩

/-! ### The store queue (R177) -/

/-- R177: with a write in flight the queue waits. -/
theorem startWrite_waits (q : StoreQueue) (h : q.inFlight.isSome = true) : startWrite q = q := by
  unfold startWrite; cases hq : q.inFlight <;> simp_all

/-- R177: with no write in flight the oldest entry begins. -/
theorem startWrite_begins (q : StoreQueue) (w : RecordWrite) (rest : List RecordWrite) (h : q.inFlight = none) (hq : q.queue = w :: rest) :
    startWrite q = { queue := rest, inFlight := some w } := by
  simp [startWrite, h, hq]

/-- R177: a write whose record no entry names enters at the back. -/
theorem enterWrite_appends (q : StoreQueue) (w : RecordWrite) (h : ∀ x ∈ q.queue, sameRecord w x = false) :
    enterWrite q w = startWrite { q with queue := q.queue ++ [w] } := by
  unfold enterWrite
  rw [if_neg (by simpa using h)]

/-- R177: a write whose record an entry names takes its place. -/
theorem enterWrite_replaces (q : StoreQueue) (w x : RecordWrite) (before after : List RecordWrite) (h : q.queue = before ++ x :: after)
    (hx : sameRecord w x = true) (hn : ∀ y ∈ before ++ after, sameRecord w y = false) :
    enterWrite q w = startWrite { q with queue := before ++ w :: after } := by
  have m : ∀ l : List RecordWrite, (∀ y ∈ l, sameRecord w y = false) → l.map (fun x => if sameRecord w x then w else x) = l := by
    intro l hl
    refine (List.map_congr_left fun y hy => ?_).trans (List.map_id l)
    simp [hl y hy]
  unfold enterWrite
  rw [if_pos (by rw [h]; simp [hx]), h, List.map_append, List.map_cons, m before (fun y hy => hn y (by simp [hy])),
    m after (fun y hy => hn y (by simp [hy])), if_pos hx]

end Sys2Proof.Machine
end

