-- ==== Sys2Proof/Laws/Held.lean ====
section
/-! SUPPORT. What every operation keeps: the claims are lawful, and the outputs of every axis are as its drive state allows. One
lemma per operation, up to the hand-overs of a step. -/
namespace Sys2Proof.Machine

/-- The claims and the axes of a seat are lawful. -/
def Held (s : Seat) : Prop := ClaimsLawful s.alloc ∧ AxesLawful s

variable {s : Seat} {b : Base}

theorem held_post (k : NoticeKind) (sub : Subject) (d : Word16) (h : Held s) : Held (post s k sub d) := h
theorem held_queue (w : RecordWrite) (h : Held s) : Held (queueWrite s w) := h
theorem held_axisRecord (a : Axis) (c : Bool) (h : Held s) : Held (queueAxisRecord s a c) := h

theorem held_each {α : Type} (f : α → Seat → Did) (hf : ∀ i s, Held s → Held (f i s).1) (l : List α) (h : Held s) :
    Held (forEach l f s).1 := forEach_keeps Held f hf l s h

theorem held_fold {α : Type} (f : Seat → α → Seat) (hf : ∀ s i, Held s → Held (f s i)) (l : List α) (h : Held s) :
    Held (l.foldl f s) := foldl_keeps Held f hf l s h

theorem held_setCondition (c : Contact) (k : Condition) (h : Held s) : Held (setCondition s c k) := h
theorem held_holdOff (c : Contact) (h : Held s) : Held (holdOff s c) := by unfold holdOff; split <;> exact h

/-! ### Claims and passes -/

theorem held_alloc (al : Alloc) (h : Held s) (ha : ClaimsLawful al) : Held { s with alloc := al } := ⟨ha, h.2⟩

theorem held_raise (c : Consumer) (k n l : Nat) (h : Held s) : Held (raiseClaim s c k n l).1 := by
  unfold raiseClaim; split
  · exact held_alloc _ h (claims_mapClaims _ _ h.1 (fun _ => ⟨rfl, rfl, rfl⟩))
  · rename_i hc
    simp only [holdsClaim, Bool.or_eq_true, not_or, Bool.not_eq_true] at hc
    exact held_alloc _ h (claims_arrive _ _ _ _ h.1 hc.2 (fun _ => hc.1))
theorem held_release (c : Consumer) (h : Held s) : Held (releaseClaim s c).1 := by
  unfold releaseClaim; split
  · exact held_alloc _ h (claims_dropClaims _ h.1)
  · exact h
theorem held_amount (c : Consumer) (n : Nat) (h : Held s) : Held (changeAmount s c n).1 := by
  unfold changeAmount; split
  · exact held_alloc _ h (claims_mapClaims _ _ h.1 (fun _ => ⟨rfl, rfl, rfl⟩))
  · exact h
theorem held_class (c : Consumer) (n : Nat) (h : Held s) : Held (changeClass s c n).1 := by
  unfold changeClass; split
  · exact held_alloc _ h (claims_setClass _ _ h.1)
  · exact h
theorem held_shedOne (c : Claim) (k : ShedCause) (h : Held s) : Held (shedOne s c k).1 := by
  unfold shedOne; exact held_post _ _ _ (held_alloc _ h (claims_unGrant _ h.1))
theorem held_shed (h : Held s) : Held (shed b s).1 := by
  unfold shed; split
  · exact h
  · exact held_shedOne _ _ h
theorem held_walk (h : Held s) : Held (walk b s).1 := by
  unfold walk; split
  · exact h
  · exact held_alloc _ h (claims_grant _ _ h.1)
theorem held_share (c d : Nat) (h : Held s) : Held (share s c d) := by unfold share; simp only; split <;> exact h
theorem held_pass (h : Held s) : Held (allocationPass b s).1 := by
  unfold allocationPass; exact held_alloc _ h (claims_same h.1 rfl rfl)
theorem held_fanLevel (z : Zone) (o l : Nat) (h : Held s) : Held (fanLevelChange b s z o l).1 := by
  unfold fanLevelChange
  repeat' split
  · exact h
  · exact held_release _ h
  · exact held_alloc _ h (claims_fanRise _ _ _ h.1)
  · exact held_alloc _ h (claims_fanFall _ _ _ h.1)
  · rename_i hc
    simp only [holdsClaim, Bool.or_eq_true, not_or, Bool.not_eq_true] at hc
    exact held_alloc _ h (claims_fanArrives _ _ _ h.1 hc.2)
theorem held_levelZero (z : Zone) (h : Held s) : Held (levelZeroClaim b s z).1 := by
  unfold levelZeroClaim
  repeat' split
  · exact h
  · exact held_release _ h
  · exact h
  · rename_i hc
    simp only [holdsClaim, Bool.or_eq_true, not_or, Bool.not_eq_true] at hc
    exact held_alloc _ h (claims_fanArrives _ _ _ h.1 hc.2)
theorem held_fanAmount (c : Settings) (l : Nat) (h : Held s) : Held (changeFanAmount c s l).1 := by
  unfold changeFanAmount; simp only; split
  · refine held_alloc _ h (claims_map _ _ h.1 ?_ ?_ rfl rfl)
    · intro x; split <;> exact ⟨rfl, rfl, rfl⟩
    · intro g; split <;> rfl
  · exact h

/-! ### Axes -/

theorem held_put (a : Axis) (x : AxisState) (h : Held s) (hx : AxisLawful x) : Held (putAxis s a x) := by
  refine ⟨h.1, fun c => ?_⟩
  by_cases hc : c = a
  · subst hc; simpa using hx
  · rw [axisOf_putAxis_ne _ _ hc]; exact h.2 c

/-- A change of an axis that keeps its drive state, its bridge and its timers. -/
theorem held_keep (a : Axis) (x : AxisState) (h : Held s) (h1 : x.drive = (axisOf s a).drive) (h2 : x.bridge = (axisOf s a).bridge)
    (h3 : x.driveDir = (axisOf s a).driveDir) (h4 : x.stallLeft = (axisOf s a).stallLeft)
    (h5 : x.blankLeft = (axisOf s a).blankLeft) (h6 : x.overcurrentLeft = (axisOf s a).overcurrentLeft) : Held (putAxis s a x) := by
  have ha := h.2 a
  refine held_put a x h ⟨?_, ?_, ?_, ?_⟩
  · simpa only [bridgeAllowed, h1, h2, h3] using ha.bridge
  · rw [h1, h4]; exact ha.stall
  · rw [h1, h5]; exact ha.blanking
  · rw [h1, h6]; exact ha.measured

theorem lawful_toIdle (x : AxisState) : AxisLawful (toIdle x) := by constructor <;> simp [bridgeAllowed, toIdle]
theorem lawful_coasting (cf : AxisSettings) (x : AxisState) (c : Cause) (m : Option MoveResult) (rep : Bool) :
    AxisLawful (coasting cf x c m rep) := by
  constructor <;> simp only [coasting, bridgeAllowed]
  · cases cf.stopMode <;> simp [stopBridge]
  all_goals simp
theorem lawful_waiting (x : AxisState) (m : Move) : AxisLawful (waiting x m) := by constructor <;> simp [bridgeAllowed, waiting]

theorem held_loseLearn (a : Axis) (h : Held s) : Held (loseLearn s a) := by
  unfold loseLearn; simp only; split
  · exact h
  · exact held_axisRecord _ _ (held_keep _ _ h rfl rfl rfl rfl rfl rfl)
theorem held_completeLearn (a : Axis) (h : Held s) : Held (completeLearn s a) :=
  held_post _ _ _ (held_axisRecord _ _ (held_keep _ _ h rfl rfl rfl rfl rfl rfl))
theorem held_toIdle (a : Axis) (m : Option MoveResult) (x : AxisState) (h : Held s) :
    Held (putAxis s a { toIdle x with lastResult := m }) :=
  held_put _ _ h ⟨(lawful_toIdle x).bridge, (lawful_toIdle x).stall, (lawful_toIdle x).blanking, (lawful_toIdle x).measured⟩
theorem held_atOnce (a : Axis) (m : MoveResult) (rep : Bool) (h : Held s) : Held (finishAtOnce s a m rep).1 := by
  unfold finishAtOnce; simp only; split
  · exact held_release _ (held_completeLearn _ (held_toIdle _ _ _ h))
  · exact held_release _ (held_toIdle _ _ _ h)
theorem held_switchOff (a : Axis) (c : Cause) (m : Option MoveResult) (rep : Bool) (h : Held s) :
    Held (switchOff b s a c m rep).1 := by
  unfold switchOff; simp only; split
  · exact held_put _ _ h (lawful_coasting _ _ _ _ _)
  · exact held_release _ (held_put _ _ h (lawful_coasting _ _ _ _ _))
theorem held_endCoasting (a : Axis) (m : MoveResult) (rep : Bool) (h : Held s) : Held (endCoasting s a m rep).1 := by
  unfold endCoasting; simp only
  repeat' split
  · exact held_release _ (held_keep _ _ h rfl rfl rfl rfl rfl rfl)
  · exact held_release _ (held_keep _ _ h rfl rfl rfl rfl rfl rfl)
  · exact held_keep _ _ h rfl rfl rfl rfl rfl rfl
theorem held_endMove (a : Axis) (m : MoveResult) (rep : Bool) (h : Held s) : Held (endMove b s a m rep).1 := by
  unfold endMove; simp only
  have h1 : Held (if ownerMet s.brace.mode (axisOf s a) = .learn then loseLearn s a else s) := by
    split
    · exact held_loseLearn _ h
    · exact h
  generalize (if ownerMet s.brace.mode (axisOf s a) = .learn then loseLearn s a else s) = s1 at h1 ⊢
  split
  · exact held_atOnce _ _ _ h1
  · exact held_switchOff _ _ _ _ (held_keep _ _ h1 rfl rfl rfl rfl rfl rfl)
  · exact held_endCoasting _ _ _ h1
  · exact h1
theorem held_startDrive (a : Axis) (m : Move) (h : Held s) : Held (startDrive b s a m) :=
  held_put _ _ h (by constructor <;> simp [bridgeAllowed])
theorem held_raiseAxis (a : Axis) (h : Held s) : Held (raiseAxis b s a).1 := by
  unfold raiseAxis; simp only
  repeat' split
  all_goals first | exact h | exact held_raise _ _ _ _ h
theorem held_prepare (a : Axis) (m : Move) (h : Held s) : Held (prepare b s a m).1 := by
  unfold prepare; simp only
  repeat' split
  · exact held_atOnce _ _ _ h
  · exact held_startDrive _ _ h
  · exact held_raiseAxis _ (held_put _ _ h (lawful_waiting _ _))
theorem held_markDirty (a : Axis) (h : Held s) : Held (markDirty s a) := by
  unfold markDirty; simp only; split
  · exact held_axisRecord _ _ (held_keep _ _ h rfl rfl rfl rfl rfl rfl)
  · exact h
theorem held_loseReturn (h : Held s) : Held (loseReturn s) := h
theorem held_spoil (a : Axis) (o : Owner) (h : Held s) : Held (spoilReturn s a o) := by unfold spoilReturn; split <;> exact h
theorem held_takeOver (a : Axis) (o p : Owner) (h : Held s) : Held (takeOver s a o p).1 := by
  unfold takeOver; simp only
  repeat' split
  · exact h
  · exact held_keep _ _ (held_loseLearn _ h) rfl rfl rfl rfl rfl rfl
  · exact held_keep _ _ h rfl rfl rfl rfl rfl rfl
theorem held_takeCoasting (a : Axis) (o p : Owner) (m : Move) (h : Held s) : Held (takeCoasting s a o p m) := by
  unfold takeCoasting; simp only
  repeat' split
  all_goals exact held_keep _ _ h rfl rfl rfl rfl rfl rfl
theorem held_takeMove (a : Axis) (o : Owner) (m : Move) (h : Held s) : Held (takeMove b s a o m).1 := by
  unfold takeMove; simp only
  have h0 : Held (spoilReturn (markDirty s a) a o) := held_spoil _ _ (held_markDirty _ h)
  generalize spoilReturn (markDirty s a) a o = t at h0 ⊢
  split
  · exact held_prepare _ _ (held_keep _ _ h0 rfl rfl rfl rfl rfl rfl)
  · exact held_prepare _ _ (held_class _ _ (held_keep _ _ (held_takeOver _ _ _ h0) rfl rfl rfl rfl rfl rfl))
  · split
    · exact held_class _ _ (held_keep _ _ (held_takeOver _ _ _ h0) rfl rfl rfl rfl rfl rfl)
    · exact held_switchOff _ _ _ _ (held_class _ _ (held_keep _ _ (held_takeOver _ _ _ h0) rfl rfl rfl rfl rfl rfl))
  · split
    · exact held_class _ _ (held_takeCoasting _ _ _ _ (held_loseLearn _ h0))
    · exact held_class _ _ (held_takeCoasting _ _ _ _ h0)
  · exact h
theorem held_granted (a : Axis) (h : Held s) : Held (axisGranted b s a).1 := by
  unfold axisGranted; simp only
  repeat' split
  · exact held_atOnce _ _ _ h
  · exact held_startDrive _ _ h
  · exact h
theorem held_axisShed (a : Axis) (h : Held s) : Held (axisShed b s a).1 := by
  unfold axisShed; simp only; split
  · refine held_put _ _ h ?_
    have := lawful_coasting (b.cfg.axis.get a) (axisOf s a) .shed none false
    exact ⟨this.bridge, this.stall, this.blanking, this.measured⟩
  · exact held_keep _ _ h rfl rfl rfl rfl rfl rfl
  · exact h
theorem held_disturb (a : Axis) (h : Held s) : Held (disturb b s a) := by
  unfold disturb; simp only; split
  · exact held_post _ _ _ (held_keep _ _ h rfl rfl rfl rfl rfl rfl)
  · exact held_keep _ _ h rfl rfl rfl rfl rfl rfl
theorem held_count (a : Axis) (h : Held s) : Held (countPulse s a) := by
  unfold countPulse; simp only; split
  · exact held_post _ _ _ (held_keep _ _ h rfl rfl rfl rfl rfl rfl)
  · exact held_keep _ _ h rfl rfl rfl rfl rfl rfl
theorem count_drive (a : Axis) : (axisOf (countPulse s a) a).drive = (axisOf s a).drive := by
  unfold countPulse; simp only; split <;> simp
theorem held_driven (a : Axis) (h : Held s) (hd : (axisOf s a).drive = .driving) : Held (drivenPulse b s a).1 := by
  unfold drivenPulse; simp only
  have hp : Held (putAxis s a { axisOf s a with stallLeft := some (b.cfg.axis.get a).stallTimeout }) := by
    have ha := h.2 a
    refine held_put _ _ h ⟨?_, ?_, ?_, ?_⟩
    · exact ha.bridge
    · simp [hd]
    · exact ha.blanking
    · exact ha.measured
  repeat' split
  · exact hp
  · exact held_switchOff _ _ _ _ hp
  · exact held_switchOff _ _ _ _ hp
  · exact hp
theorem held_pulse (a : Axis) (h : Held s) : Held (pulse b s a).1 := by
  unfold pulse; split
  · rename_i hd
    exact held_driven _ (held_count _ h) (by rw [count_drive]; exact hd)
  · exact held_count _ h
  · exact held_disturb _ h
theorem held_failLearn (a : Axis) (d : Nat) (h : Held s) : Held (failLearn s a d) := held_post _ _ _ (held_loseLearn _ h)
theorem held_anchor (a : Axis) (p : Nat) (h : Held s) : Held (anchor s a p) := by
  unfold anchor; simp only
  refine held_post _ _ _ ?_
  split <;> exact held_keep _ _ h rfl rfl rfl rfl rfl rfl
theorem held_classify (a : Axis) (h : Held s) : Held (classifyStall b s a).1 := by
  unfold classifyStall; simp only
  repeat' split
  · exact h
  · exact held_anchor _ _ h
  · exact held_post _ _ _ h
theorem held_learnStall (a : Axis) (h : Held s) : Held (learnStall b s a).1 := by
  unfold learnStall; simp only
  repeat' split
  · exact held_keep _ _ h rfl rfl rfl rfl rfl rfl
  · exact held_failLearn _ _ h
  · exact held_keep _ _ h rfl rfl rfl rfl rfl rfl
  · exact held_failLearn _ _ h
theorem held_stalled (a : Axis) (h : Held s) : Held (stalled b s a).1 := by
  unfold stalled; simp only; split
  · exact held_switchOff _ _ _ _ (held_classify _ h)
  · exact held_switchOff _ _ _ _ (held_learnStall _ h)
theorem held_startPending (a : Axis) (o : Owner) (m : Move) (h : Held s) : Held (startPending b s a o m).1 := by
  unfold startPending; exact held_prepare _ _ (held_keep _ _ h rfl rfl rfl rfl rfl rfl)
theorem held_coastToIdle (a : Axis) (h : Held s) : Held (coastToIdle s a) := by
  unfold coastToIdle; simp only; split
  · exact held_put _ _ (held_completeLearn _ h) (lawful_toIdle _)
  · exact held_put _ _ h (lawful_toIdle _)
/-- The lead and the result of a coast leave the outputs alone. -/
theorem outcome_keeps (cf : AxisSettings) (x : AxisState) :
    (coastOutcome cf x).1.drive = x.drive ∧ (coastOutcome cf x).1.bridge = x.bridge ∧
    (coastOutcome cf x).1.driveDir = x.driveDir ∧ (coastOutcome cf x).1.stallLeft = x.stallLeft ∧
    (coastOutcome cf x).1.blankLeft = x.blankLeft ∧ (coastOutcome cf x).1.overcurrentLeft = x.overcurrentLeft := by
  unfold coastOutcome
  repeat' split
  · unfold adaptLead; split <;> simp
  · simp
  · simp
theorem held_endCoast (a : Axis) (h : Held s) : Held (endCoast b s a).1 := by
  unfold endCoast; simp only; split
  · exact h
  · obtain ⟨h1, h2, h3, h4, h5, h6⟩ := outcome_keeps (b.cfg.axis.get a) (axisOf s a)
    have hp : ∀ r, Held (putAxis s a { (coastOutcome (b.cfg.axis.get a) (axisOf s a)).1 with lastResult := r }) :=
      fun r => held_keep _ _ h h1 h2 h3 h4 h5 h6
    split
    · exact held_startPending _ _ _ (hp _)
    · split
      · split
        · exact held_startPending _ _ _ (hp _)
        · exact hp _
      · split
        · refine held_startPending _ _ _ (held_keep _ _ (hp _) ?_ ?_ ?_ ?_ ?_ ?_) <;> simp
        · exact held_coastToIdle _ (hp _)
theorem held_overcurrent (a : Axis) (h : Held s) : Held (overcurrent s a).1 := by
  unfold overcurrent; simp only
  have hp : Held (putAxis s a { toIdle (axisOf s a) with
      drive := .fault, lastResult := some .fault, confidence := doubt (axisOf s a).confidence }) :=
    held_put _ _ h (by constructor <;> simp [bridgeAllowed, toIdle])
  split
  · exact held_release _ (held_post _ _ _ hp)
  · exact held_release _ (held_failLearn _ _ (held_post _ _ _ hp))
theorem held_clearFault (a : Axis) (h : Held s) (hf : (axisOf s a).drive = .fault) : Held (clearFault s a) := by
  have ha := h.2 a
  refine held_put _ _ h ⟨?_, ?_, ?_, ?_⟩
  · have := ha.bridge; simp only [bridgeAllowed, hf] at this; simpa [bridgeAllowed] using this
  · have := ha.stall; rw [hf] at this; simpa using this
  · have := ha.blanking; rw [hf] at this; simpa using this
  · have := ha.measured; rw [hf] at this; simpa using this
theorem held_startLearn (a : Axis) (h : Held s) : Held (startLearn b s a).1 := by
  unfold startLearn; simp only; split
  · exact held_takeMove _ _ _ (held_keep _ _ (held_loseReturn h) rfl rfl rfl rfl rfl rfl)
  · exact held_takeMove _ _ _ (held_keep _ _ h rfl rfl rfl rfl rfl rfl)
theorem held_crashAxis (a : Axis) (h : Held s) : Held (crashAxis b s a).1 := by
  unfold crashAxis; simp only; split
  · rename_i hc
    have h1 := held_endMove (b := b) a .aborted false h
    have ha := h1.2 a
    refine held_put _ _ h1 ⟨?_, ?_, ?_, ?_⟩
    · simp [bridgeAllowed, hc]
    · exact ha.stall
    · exact ha.blanking
    · exact ha.measured
  · exact held_endMove _ _ _ h

/-! ### Gallery -/

theorem held_gallery (g : Gallery) (h : Held s) : Held (withGallery s g) := h
theorem held_endNotice (x : Bladder) (o : OpResult) (h : Held s) : Held (endNotice s x o) := by
  unfold endNotice; split
  · exact held_post _ _ _ h
  · exact held_post _ _ _ h
  · exact h
theorem held_endFlight (o : OpResult) (h : Held s) : Held (endFlight s o).1 := by
  unfold endFlight; simp only; split
  · exact h
  · exact held_release _ (held_endNotice _ _ (held_gallery _ h))
theorem held_removeQueued (f : Op → Bool) (o : OpResult) (h : Held s) : Held (removeQueued s f o).1 := h
theorem held_galleryIdle (h : Held s) : Held (galleryIdle s).1 := by unfold galleryIdle; split <;> exact h
theorem held_burst (o : Op) (h : Held s) : Held (beginBurst b s o).1 := by
  unfold beginBurst; simp only
  repeat' split
  all_goals first | exact h | exact held_raise _ _ _ _ (held_gallery _ h)
theorem held_settle (h : Held s) : Held (beginSettle b s) := h
theorem held_service (o : Op) (h : Held s) : Held (beginService b s o).1 := by
  unfold beginService; simp only
  repeat' split
  · exact held_endFlight _ (held_gallery _ h)
  · exact h
  · exact held_burst _ h
theorem held_serve (h : Held s) : Held (serve b s).1 := by
  unfold serve; simp only
  repeat' split
  · exact h
  · exact h
  · exact held_service _ (held_gallery _ h)
theorem held_compGranted (h : Held s) : Held (compressorGranted s) := by unfold compressorGranted; split <;> exact h
theorem held_compShed (h : Held s) : Held (compressorShed s) := by unfold compressorShed; split <;> exact h
theorem held_after (o : Op) (p : Nat) (h : Held s) : Held (afterReading b s o p).1 := by
  unfold afterReading
  repeat' split
  · exact held_endFlight _ h
  · exact held_burst _ h
  · exact held_endFlight _ h
theorem held_sensorFault (c : Nat) (h : Held s) : Held (sensorFault s c).1 := by
  unfold sensorFault; exact held_removeQueued _ _ (held_endFlight _ (held_gallery _ h))
theorem held_sensorNotice (c : Nat) (h : Held s) : Held (sensorNotice s c) := held_post _ _ _ h
theorem held_reading (c : Nat) (h : Held s) : Held (reading b s c).1 := by
  unfold reading; simp only
  repeat' split
  · exact h
  · exact held_sensorFault _ (held_gallery _ h)
  · exact held_after _ _ (held_gallery _ h)
theorem held_enterOp (o : Op) (h : Held s) : Held (enterOp s o).1 := by unfold enterOp; split <;> exact h
theorem held_askOp (o : Op) (h : Held s) : Held (askOp s o).1 := held_enterOp _ h
theorem held_makeRoom (h : Held s) : Held (makeRoom b s).1 := by
  unfold makeRoom
  repeat' split
  all_goals exact h
theorem held_enterBrace (o : Op) (h : Held s) : Held (enterBrace b s o).1 := by
  unfold enterBrace; split
  · exact held_enterOp _ h
  · exact held_gallery _ (held_makeRoom h)
theorem held_askBrace (o : Op) (h : Held s) : Held (askBrace b s o).1 := by
  unfold askBrace; simp only [andThen_fst]
  apply held_enterBrace
  apply held_removeQueued
  apply held_removeQueued
  repeat' split
  · exact h
  · exact held_endFlight _ h
  · exact h
theorem held_withdraw (h : Held s) : Held (withdrawMassage s).1 := by
  unfold withdrawMassage; simp only [andThen_fst]
  repeat' split
  · exact held_endFlight _ (held_removeQueued _ _ h)
  · exact h
  · exact h
theorem held_crashGallery (h : Held s) : Held (crashGallery s).1 := held_removeQueued _ _ (held_endFlight _ h)
theorem held_comfort (x : Bladder) (t : Nat) (h : Held s) : Held (setComfort s x t) := h
theorem held_askSupport (x : Bladder) (t : Nat) (h : Held s) : Held (askSupport s x t).1 := held_askOp _ (held_comfort _ _ h)
theorem held_applySupport (x : Bladder) (t : Nat) (h : Held s) : Held (applySupport b s x t).1 := by
  unfold applySupport; split
  · exact held_askSupport _ _ h
  · exact h
theorem held_lumbarStep (l : LumbarStep) (t : Option Nat) (h : Held s) : Held (lumbarStep s l t).1 := by
  unfold lumbarStep; simp only [andThen_fst]
  exact held_each _ (fun _ _ h => held_enterOp _ h) _ (held_comfort _ _ (held_comfort _ _ h))

/-! ### Massage engine -/

theorem held_engine (e : Engine) (h : Held s) : Held (withEngine s e) := h
theorem held_runStep (e : Engine) (st : StepRec) (h : Held s) : Held (runStep b s e st).1 := by
  unfold runStep; split <;> exact h
theorem held_begin (h : Held s) : Held (engineBegin b s).1 := by
  unfold engineBegin; simp only
  repeat' split
  · exact h
  · exact held_runStep _ _ h
  · exact h
theorem held_engineOff (e : EndReason) (h : Held s) : Held (engineOff s e) := held_post _ _ _ h
theorem held_engineEnd (e : EndReason) (h : Held s) : Held (engineEnd s e) := by
  unfold engineEnd; split
  · exact h
  · exact held_engineOff _ (held_engine _ h)
theorem held_engineAsk (h : Held s) : Held (engineAsk b s).1 := by
  unfold engineAsk
  repeat' split
  all_goals first | exact h | exact held_engineEnd _ h | exact held_askOp _ (held_engine _ h)
theorem held_retry (h : Held s) : Held (engineRetry s).1 := by
  unfold engineRetry
  repeat' split
  all_goals exact h
theorem held_check (h : Held s) : Held (engineCheck s).1 := by
  unfold engineCheck
  repeat' split
  all_goals exact h
theorem held_beginStop (c : CellSet) (e : EndReason) (h : Held s) : Held (beginStop s c e) := h
theorem held_engineStop (e : EndReason) (h : Held s) : Held (engineStop s e).1 := held_withdraw (held_beginStop _ _ h)
theorem held_stopHeld (e : EndReason) (h : Held s) : Held (stopHeld s e).1 := h
theorem held_massageResult (x : Bladder) (o : OpResult) (h : Held s) : Held (massageResult b s x o).1 := by
  unfold massageResult; simp only
  repeat' split
  all_goals first | exact h | exact held_engineEnd _ h | exact held_engineStop _ (held_engine _ h)
theorem held_engineStart (n : PatternNo) (i v : Nat) (h : Held s) : Held (engineStart b s n i v).1 := by
  unfold engineStart; simp only; split
  · exact h
  · exact held_withdraw (held_engine _ h)

/-! ### Zones -/

theorem held_putZone (z : Zone) (x : ZoneState) (h : Held s) : Held (putZone s z x) := h
theorem held_demand (o n : Nat) (h : Held s) : Held (passIfDemand s o n).1 := by unfold passIfDemand; split <;> exact h
theorem held_runLoop (z : Zone) (h : Held s) : Held (runLoop b s z).1 := held_demand _ _ (held_putZone _ _ h)
theorem held_heaterOff (z : Zone) (x : ZoneState) (h : Held s) : Held (switchHeaterOff s z x).1 :=
  held_demand _ _ (held_putZone _ _ h)
theorem held_zoneFault (z : Zone) (c : Nat) (h : Held s) : Held (zoneFault s z c).1 := by
  unfold zoneFault; simp only; split
  · exact h
  · exact held_heaterOff _ _ (held_post _ _ _ h)
theorem held_overheat (z : Zone) (x : ZoneState) (t : Int) (h : Held s) : Held (overheat s z x t).1 :=
  held_heaterOff _ _ (held_post _ _ _ h)
theorem held_judgeSample (z : Zone) (x : ZoneState) (t : Int) (h : Held s) : Held (judgeSample b s z x t).1 := by
  unfold judgeSample; simp only
  repeat' split
  all_goals first | exact h | exact held_overheat _ _ _ h | exact held_runLoop _ (held_putZone _ _ h)
theorem held_heatSample (z : Zone) (c : Nat) (h : Held s) : Held (heatSample b s z c).1 := by
  unfold heatSample; simp only; split
  · exact held_zoneFault _ _ (held_putZone _ _ h)
  · exact held_judgeSample _ _ _ (held_putZone _ _ h)
theorem held_setHeat (z : Zone) (l : Nat) (h : Held s) : Held (setHeat s z l).1 := by
  unfold setHeat; simp only
  repeat' split
  · exact h
  · exact held_heaterOff _ _ h
  · exact h
theorem held_setFan (z : Zone) (l : Nat) (h : Held s) : Held (setFan b s z l).1 := held_fanLevel _ _ _ (held_putZone _ _ h)
theorem held_climateOff (h : Held s) : Held (climateOff b s).1 := by
  unfold climateOff
  exact held_each (fun z t => andThen (setHeat t z 0) (fun u => setFan b u z 0))
    (fun _ _ h => held_setFan _ _ (held_setHeat _ _ h)) _ h
theorem held_releaseFans (h : Held s) : Held (releaseFans s).1 := held_each _ (fun _ _ h => held_release _ h) _ h
theorem held_stepDown (z : Zone) (h : Held s) : Held (stepDown s z).1 := held_post _ _ _ (held_setHeat _ _ h)
theorem held_loopEnd (z : Zone) (h : Held s) : Held (loopEnd s z) := h

/-! ### Recalls -/

theorem held_profile (k : Slot) (p : Profile) (h : Held s) : Held (putProfile s k p) := h
theorem held_storeSlot (k : Retained4) (p : Profile) (h : Held s) : Held (storeSlot s k p) := held_queue _ h
theorem held_recallHand (a : Axis) (h : Held s) : Held (recallHand b s a).1 := by
  unfold recallHand
  repeat' split
  all_goals first
    | exact h
    | (simp only
       repeat' split
       all_goals first | exact h | exact held_takeMove (s := { s with recallCtx := _ }) _ _ _ h)
theorem held_closeRecall (x : Recall) (p : Phase) (o : RecallOutcome) (h : Held s) : Held (closeRecall s x p o) :=
  held_post _ _ _ h
theorem held_noteRestore (k : Source) (o : RecallOutcome) (h : Held s) : Held (noteRestore s k o) := by
  unfold noteRestore; split <;> exact h
theorem held_afterEntry (k : Option Slot) (h : Held s) : Held (afterEntry s k) := by unfold afterEntry; split <;> exact h
theorem held_finishRecall (x : Recall) (h : Held s) : Held (finishRecall s x).1 :=
  held_noteRestore _ _ (held_afterEntry _ (held_closeRecall _ _ _ h))
theorem held_recallCheck (h : Held s) : Held (recallCheck s).1 := by
  unfold recallCheck
  repeat' split
  all_goals first | exact h | exact held_finishRecall _ h
theorem held_abortRecall (o : RecallOutcome) (h : Held s) : Held (abortRecall b s o).1 := by
  unfold abortRecall; split
  · exact h
  · exact held_noteRestore _ _ (held_closeRecall _ _ _ (held_each _ (fun _ _ h => held_endMove _ _ _ h) _ h))
theorem held_recallSpoils (k : Source) (p : Profile) (h : Held s) : Held (recallSpoils s k p) := by
  unfold recallSpoils; split <;> exact h
theorem held_recallStart (k : Slot) (o : Source) (d : Option Key) (h : Held s) : Held (recallStart b s k o d).1 := by
  unfold recallStart; exact held_recallSpoils _ _ h
theorem held_supersede (k : Slot) (o : Source) (d : Option Key) (h : Held s) : Held (supersede b s k o d).1 :=
  held_abortRecall _ h
theorem held_restoreStart (h : Held s) : Held (restoreStart b s).1 := h
theorem held_exitStart (h : Held s) : Held (exitStart b s).1 := h

/-! ### Brace -/

theorem held_brace (x : Brace) (h : Held s) : Held (withBrace s x) := h
theorem held_postBrace (o : RestoreOutcome) (h : Held s) : Held (postBrace s o) := held_post _ _ _ h
theorem held_holdOffAll (h : Held s) : Held (holdOffAll s) := by
  have h1 : Held (contactOrder.foldl holdOff s) := held_fold holdOff (fun _ _ h => held_holdOff _ h) contactOrder h
  unfold holdOffAll
  generalize contactOrder.foldl holdOff s = t at h1 ⊢
  exact h1
theorem held_closeWindow (h : Held s) : Held (closeWindow s) := h
theorem held_braceMove (a : Axis) (t : Nat) (h : Held s) : Held (braceMove b s a t).1 := held_takeMove _ _ _ (held_brace _ h)
theorem held_braceFill (x : Bolster) (h : Held s) : Held (braceFill b s x).1 := by
  unfold braceFill; split
  · exact h
  · exact held_askBrace _ h
theorem held_braceCheck (h : Held s) : Held (braceCheck b s).1 := by
  unfold braceCheck; simp only; split
  · exact held_postBrace _ h
  · exact h
theorem held_braceEntered (h : Held s) : Held (braceEntered b s).1 := held_postBrace _ h
theorem held_restartHold (h : Held s) : Held (restartHold b s) := h
theorem held_endForBrace (l : List Axis) (a : Axis) (h : Held s) : Held (endForBrace b l a s).1 := by
  unfold endForBrace
  repeat' split
  all_goals first | exact h | exact held_endMove _ _ _ h
theorem held_enterBracing (g : Nat) (h : Held s) : Held (enterBracing b s g).1 := by
  unfold enterBracing
  apply held_closeWindow
  apply held_holdOffAll
  apply held_engineEnd
  simp only [andThen_fst]
  apply held_each
  · intro i s h
    exact held_endForBrace _ _ h
  · apply held_abortRecall
    exact h
theorem held_upgradeBrace (g : Nat) (h : Held s) : Held (upgradeBrace b s g).1 := by
  unfold upgradeBrace; simp only; split
  · exact held_postBrace _ (held_restartHold h)
  · exact h
theorem held_reBrace (g : Nat) (h : Held s) : Held (reBrace b s g).1 := by
  unfold reBrace
  apply held_closeWindow
  apply held_holdOffAll
  exact held_engineEnd _ (held_abortRecall _ (held_brace _ h))
theorem held_takeBrace (g : Nat) (h : Held s) : Held (takeBrace b s g).1 := by
  unfold takeBrace
  repeat' split
  · exact held_enterBracing _ h
  · exact held_upgradeBrace _ h
  · exact held_restartHold h
  · exact held_upgradeBrace _ h
  · exact held_restartHold h
  · exact held_reBrace _ h
  · exact h
theorem held_takeHold (h : Held s) : Held (takeHold b s) := by unfold takeHold; split <;> exact h
theorem held_standDownVent (x : Bolster) (h : Held s) : Held (standDownVent b s x).1 := by
  unfold standDownVent; split
  · exact h
  · exact held_askBrace _ h
theorem held_massageStop (h : Held s) : Held (massageStop s).1 := by unfold massageStop; split <;> exact h
theorem held_standDown (h : Held s) : Held (standDown b s).1 := by
  unfold standDown; exact held_each _ (fun _ _ h => held_endMove _ _ _ h) _ (held_brace _ h)
theorem held_takeStandDown (h : Held s) : Held (takeStandDown b s).1 := by
  unfold takeStandDown; split
  · exact held_standDown h
  · exact held_standDown h
  · exact h
theorem held_releasingEntered (h : Held s) : Held (releasingEntered s).1 := by
  unfold releasingEntered; split
  · exact held_postBrace _ h
  · exact h
theorem held_toIdleBrace (o : RestoreOutcome) (h : Held s) : Held (braceToIdle s o).1 := held_postBrace _ (held_brace _ h)
theorem held_releasingCheck (h : Held s) : Held (releasingCheck s).1 := by
  unfold releasingCheck; simp only; split
  · exact held_toIdleBrace _ h
  · exact h
theorem held_pressEnds (h : Held s) : Held (pressEndsRestore b s).1 := held_toIdleBrace _ (held_abortRecall _ h)
theorem held_braceResult (o : Op) (x : OpResult) (h : Held s) : Held (braceResult s o x).1 := by
  unfold braceResult; split <;> exact h
theorem held_braceMoveEnded (a : Axis) (m : MoveResult) (h : Held s) : Held (braceMoveEnded s a m).1 := by
  unfold braceMoveEnded
  repeat' split
  all_goals exact h
theorem held_takeCrash (k : CrashKind) (h : Held s) : Held (takeCrash b s k).1 := by
  unfold takeCrash; split
  · exact h
  · dsimp only
    apply held_postBrace
    apply held_queue
    apply held_profile
    apply held_closeWindow
    apply held_holdOffAll
    simp only [andThen_fst]
    apply held_releaseFans
    apply held_climateOff
    apply held_crashGallery
    apply held_engineEnd
    apply held_each
    · intro i s h
      exact held_crashAxis _ h
    · exact held_abortRecall _ (held_brace _ h)
theorem held_unlock (h : Held s) : Held (unlock b s).1 := by
  unfold unlock
  rw [andThen_fst]
  exact held_each _ (fun _ _ h => held_levelZero _ h) _ (held_postBrace _ (held_queue _ (held_brace _ h)))

/-! ### Contacts -/

theorem held_contact (c : Contact) (x : ContactState) (h : Held s) : Held (withContact s c x) := h
theorem held_endManual (a : Axis) (h : Held s) : Held (endManual b s a).1 := by
  unfold endManual; split
  · exact held_endMove _ _ _ h
  · exact h
theorem held_pairHeldOff (a : Axis) (d : Dir) (h : Held s) : Held (pairHeldOff b s a d).1 := by
  unfold pairHeldOff; simp only; split
  · exact held_holdOff _ (held_contact _ _ (held_endManual _ h))
  · exact held_holdOff _ (held_contact _ _ h)
theorem held_axisPress (a : Axis) (d : Dir) (h : Held s) : Held (axisPress b s a d).1 := by
  unfold axisPress; simp only; split
  · exact h
  · exact held_takeMove _ _ _ (held_setCondition _ _ h)
theorem held_pressAxis (a : Axis) (d : Dir) (h : Held s) : Held (pressAxis b s a d).1 := by
  unfold pressAxis; simp only
  repeat' split
  · exact held_pairHeldOff _ _ h
  · exact held_abortRecall _ (held_contact _ _ h)
  · exact held_pressEnds (held_contact _ _ h)
  · exact h
  · exact h
theorem held_refuseKey (k : Key) (x : Result) (h : Held s) : Held (refuseKey s k x) := held_post _ _ _ h
theorem held_memAct (k : Key) (p : Retained4) (h : Held s) : Held (memAct b s k p).1 := by
  unfold memAct; simp only
  repeat' split
  all_goals first
    | exact held_refuseKey _ _ h
    | exact held_storeSlot _ _ h
    | exact held_supersede _ _ _ h
theorem held_keyAct (k : Key) (h : Held s) : Held (keyAct b s k).1 := by
  unfold keyAct; simp only; split
  · exact held_memAct (s := { setCondition s _ _ with scanner := _ }) _ _ h
  · exact h
theorem held_pressKey (k : Key) (h : Held s) : Held (pressKey b s k).1 := by
  unfold pressKey; simp only
  repeat' split
  · exact h
  · exact h
  · exact held_pressEnds (held_contact _ _ h)
  · exact h
theorem held_deadMan (k : Key) (h : Held s) : Held (deadManEnds b s k).1 := by
  unfold deadManEnds
  repeat' split
  · exact held_abortRecall _ h
  · exact h
  · exact h
theorem held_lumbarNext (h : Held s) : Held (lumbarNext b s).1 := by
  unfold lumbarNext
  split
  · exact h
  · simp only
    repeat' split
    · exact held_holdOff _ h
    · exact held_holdOff _ (held_lumbarStep (s := { s with scanner := _ }) _ _ h)
    · exact held_lumbarStep (s := { s with scanner := _ }) _ _ h
theorem held_lumbarResult (x : Bladder) (n : Nat) (h : Held s) : Held (lumbarResult s x n).1 := by
  unfold lumbarResult; simp only; split <;> exact h
theorem held_lumbarAct (l : LumbarStep) (h : Held s) : Held (lumbarAct b s l).1 := by
  unfold lumbarAct; simp only
  exact held_lumbarNext (held_setCondition _ _
    (held_fold (fun t k => holdOff t (.lumbar k)) (fun _ _ h => held_holdOff _ h) lumbarOrder h))
theorem held_pressLumbar (l : LumbarStep) (h : Held s) : Held (pressLumbar b s l).1 := by
  unfold pressLumbar; simp only
  repeat' split
  · exact h
  · exact held_pressEnds (held_contact _ _ h)
  · exact h
theorem held_handRelease (c : Contact) (h : Held s) : Held (handRelease b s c).1 := by
  unfold handRelease; split
  · exact held_endManual _ h
  · exact held_deadMan _ h
  · exact h
theorem held_releaseContact (c : Contact) (h : Held s) : Held (release b s c).1 := by
  unfold release; simp only; split
  · exact held_handRelease _ (held_contact _ _ h)
  · exact h
theorem held_stuckContact (c : Contact) (h : Held s) : Held (stuckContact b s c).1 := by
  unfold stuckContact; simp only; split
  · exact held_handRelease _ (held_post _ _ _ (held_contact _ _ h))
  · exact held_post _ _ _ (held_contact _ _ h)

/-! ### Hand-overs -/

theorem held_handGrant (c : Consumer) (h : Held s) : Held (handGrant b s c).1 := by
  unfold handGrant; split
  · exact held_granted _ h
  · exact held_compGranted h
  · exact h
theorem held_moveEnded (a : Axis) (o : Owner) (m : MoveResult) (h : Held s) : Held (moveEnded s a o m).1 := by
  unfold moveEnded
  repeat' split
  all_goals first | exact h | exact held_holdOff _ (held_holdOff _ h) | exact held_braceMoveEnded _ _ h
theorem held_handResult (o : Op) (x : OpResult) (h : Held s) : Held (handResult b s o x).1 := by
  unfold handResult
  repeat' split
  all_goals first | exact h | exact held_lumbarResult _ _ h | exact held_massageResult _ _ h | exact held_braceResult _ _ h
theorem held_startFrom (k : Slot) (o : Source) (d : Option Key) (h : Held s) : Held (startFrom b s k o d).1 := by
  unfold startFrom; split
  · exact held_restoreStart h
  · exact held_recallStart _ _ _ h

/-- Every hand-over posts and asks writes only. -/
theorem held_runTask (t : Task) (h : Held s) : Held (runTask t b s).1 := by
  cases t with
  | pass => exact held_pass h
  | shed => exact held_shed h
  | walk => exact held_walk h
  | granted c => exact held_handGrant _ h
  | axisShed a => exact held_axisShed _ h
  | compressorShed => exact held_compShed h
  | share c d => exact held_share _ _ h
  | coastEnd a => exact held_endCoast _ h
  | moveEnded a o m => exact held_moveEnded _ _ _ h
  | recallHand a => exact held_recallHand _ h
  | recallCheck => exact held_recallCheck h
  | recallStart k o d => exact held_startFrom _ _ _ h
  | applySupport x t => exact held_applySupport _ _ h
  | applyHeat z l => exact held_setHeat _ _ h
  | applyFan z l => exact held_setFan _ _ h
  | serve => exact held_serve h
  | galleryIdle => exact held_galleryIdle h
  | opResult o x => exact held_handResult _ _ h
  | sensorNotice c => exact held_sensorNotice _ h
  | engineBegin => exact held_begin h
  | engineAsk => exact held_engineAsk h
  | engineCheck => exact held_check h
  | engineRetry => exact held_retry h
  | lumbarNext => exact held_lumbarNext h
  | axisPress a d => exact held_axisPress _ _ h
  | keyAct k => exact held_keyAct _ h
  | lumbarAct l => exact held_lumbarAct _ h
  | braceFill x => exact held_braceFill _ h
  | braceMove a t => exact held_braceMove _ _ h
  | braceEntered => exact held_braceEntered h
  | braceCheck => exact held_braceCheck h
  | standDownVent x => exact held_standDownVent _ h
  | massageStop => exact held_massageStop h
  | releasingEntered => exact held_releasingEntered h
  | releasingCheck => exact held_releasingCheck h
  | loopEnd z => exact held_loopEnd _ h

/-- So does carrying out what a block answered. -/
theorem held_settled (y : Did) (h : Held y.1) : Held (settled b y) :=
  settled_keeps Held b (fun t _ h => held_runTask t h) y h

end Sys2Proof.Machine
end

