-- ==== Sys2Proof/Laws/Logs.lean ====
section
/-! SUPPORT. What the blocks do to the notice queue and to the store queue: they post notices (R173) and ask writes (R177), and
nothing else. One lemma per operation, up to the hand-overs of a step. -/
namespace Sys2Proof.Machine

/-- The queues reached from `n0` and `q0` by posting and asking writes. -/
inductive Log (n0 : Notices) (q0 : StoreQueue) : Notices → StoreQueue → Prop
  | start : Log n0 q0 n0 q0
  | post {n : Notices} {q : StoreQueue} (k : NoticeKind) (sub : Subject) (d : Word16) :
      Log n0 q0 n q → Log n0 q0 (postTo n k sub d) q
  | write {n : Notices} {q : StoreQueue} (w : RecordWrite) : Log n0 q0 n q → Log n0 q0 n (enterWrite q w)

/-- From seat `r` to seat `s` the blocks have only posted and asked writes. -/
def Logs (r s : Seat) : Prop := Log r.notices r.store s.notices s.store

variable {r s : Seat} {b : Base}

theorem Logs.refl (s : Seat) : Logs s s := Log.start

theorem logs_post (k : NoticeKind) (sub : Subject) (d : Word16) (h : Logs r s) : Logs r (post s k sub d) := Log.post k sub d h
theorem logs_queue (w : RecordWrite) (h : Logs r s) : Logs r (queueWrite s w) := Log.write w h
theorem logs_axisRecord (a : Axis) (c : Bool) (h : Logs r s) : Logs r (queueAxisRecord s a c) := logs_queue _ h

theorem logs_each {α : Type} (f : α → Seat → Did) (hf : ∀ i s, Logs r s → Logs r (f i s).1) (l : List α) (h : Logs r s) :
    Logs r (forEach l f s).1 := forEach_keeps (Logs r) f hf l s h

theorem logs_fold {α : Type} (f : Seat → α → Seat) (hf : ∀ s i, Logs r s → Logs r (f s i)) (l : List α) (h : Logs r s) :
    Logs r (l.foldl f s) := foldl_keeps (Logs r) f hf l s h

theorem logs_setCondition (c : Contact) (k : Condition) (h : Logs r s) : Logs r (setCondition s c k) := h
theorem logs_holdOff (c : Contact) (h : Logs r s) : Logs r (holdOff s c) := by unfold holdOff; split <;> exact h

/-! ### Claims and passes -/

theorem logs_raise (c : Consumer) (k n l : Nat) (h : Logs r s) : Logs r (raiseClaim s c k n l).1 := by
  unfold raiseClaim; split <;> exact h
theorem logs_release (c : Consumer) (h : Logs r s) : Logs r (releaseClaim s c).1 := by unfold releaseClaim; split <;> exact h
theorem logs_amount (c : Consumer) (n : Nat) (h : Logs r s) : Logs r (changeAmount s c n).1 := by unfold changeAmount; split <;> exact h
theorem logs_class (c : Consumer) (n : Nat) (h : Logs r s) : Logs r (changeClass s c n).1 := by unfold changeClass; split <;> exact h
theorem logs_shedOne (c : Claim) (k : ShedCause) (h : Logs r s) : Logs r (shedOne s c k).1 := by
  unfold shedOne; exact logs_post _ _ _ h
theorem logs_shed (h : Logs r s) : Logs r (shed b s).1 := by
  unfold shed; split
  · exact h
  · exact logs_shedOne _ _ h
theorem logs_walk (h : Logs r s) : Logs r (walk b s).1 := by unfold walk; split <;> exact h
theorem logs_share (c d : Nat) (h : Logs r s) : Logs r (share s c d) := by unfold share; simp only; split <;> exact h
theorem logs_pass (h : Logs r s) : Logs r (allocationPass b s).1 := by
  unfold allocationPass; exact h
theorem logs_fanLevel (z : Zone) (o l : Nat) (h : Logs r s) : Logs r (fanLevelChange b s z o l).1 := by
  unfold fanLevelChange
  repeat' split
  all_goals first | exact h | exact logs_release _ h
theorem logs_levelZero (z : Zone) (h : Logs r s) : Logs r (levelZeroClaim b s z).1 := by
  unfold levelZeroClaim
  repeat' split
  all_goals first | exact h | exact logs_release _ h
theorem logs_fanAmount (c : Settings) (l : Nat) (h : Logs r s) : Logs r (changeFanAmount c s l).1 := by
  unfold changeFanAmount; simp only; split <;> exact h

/-! ### Axes -/

theorem logs_put (a : Axis) (x : AxisState) (h : Logs r s) : Logs r (putAxis s a x) := h
theorem logs_loseLearn (a : Axis) (h : Logs r s) : Logs r (loseLearn s a) := by
  unfold loseLearn; simp only; split
  · exact h
  · exact logs_axisRecord _ _ (logs_put _ _ h)
theorem logs_completeLearn (a : Axis) (h : Logs r s) : Logs r (completeLearn s a) :=
  logs_post _ _ _ (logs_axisRecord _ _ (logs_put _ _ h))
theorem logs_atOnce (a : Axis) (m : MoveResult) (rep : Bool) (h : Logs r s) : Logs r (finishAtOnce s a m rep).1 := by
  unfold finishAtOnce; simp only; split
  · exact logs_release _ (logs_completeLearn _ (logs_put _ _ h))
  · exact logs_release _ (logs_put _ _ h)
theorem logs_switchOff (a : Axis) (c : Cause) (m : Option MoveResult) (rep : Bool) (h : Logs r s) :
    Logs r (switchOff b s a c m rep).1 := by
  unfold switchOff; simp only; split
  · exact h
  · exact logs_release _ (logs_put _ _ h)
theorem logs_endCoasting (a : Axis) (m : MoveResult) (rep : Bool) (h : Logs r s) : Logs r (endCoasting s a m rep).1 := by
  unfold endCoasting; simp only
  repeat' split
  all_goals first | exact h | exact logs_release _ (logs_put _ _ h)
theorem logs_endMove (a : Axis) (m : MoveResult) (rep : Bool) (h : Logs r s) : Logs r (endMove b s a m rep).1 := by
  unfold endMove; simp only
  have h1 : Logs r (if ownerMet s.brace.mode (axisOf s a) = .learn then loseLearn s a else s) := by
    split
    · exact logs_loseLearn _ h
    · exact h
  generalize (if ownerMet s.brace.mode (axisOf s a) = .learn then loseLearn s a else s) = s1 at h1 ⊢
  split
  · exact logs_atOnce _ _ _ h1
  · exact logs_switchOff _ _ _ _ (logs_put _ _ h1)
  · exact logs_endCoasting _ _ _ h1
  · exact h1
theorem logs_startDrive (a : Axis) (m : Move) (h : Logs r s) : Logs r (startDrive b s a m) := h
theorem logs_raiseAxis (a : Axis) (h : Logs r s) : Logs r (raiseAxis b s a).1 := by
  unfold raiseAxis; simp only
  repeat' split
  all_goals first | exact h | exact logs_raise _ _ _ _ h
theorem logs_prepare (a : Axis) (m : Move) (h : Logs r s) : Logs r (prepare b s a m).1 := by
  unfold prepare; simp only
  repeat' split
  · exact logs_atOnce _ _ _ h
  · exact h
  · exact logs_raiseAxis _ (logs_put _ _ h)
theorem logs_markDirty (a : Axis) (h : Logs r s) : Logs r (markDirty s a) := by
  unfold markDirty; simp only; split
  · exact logs_axisRecord _ _ (logs_put _ _ h)
  · exact h
theorem logs_loseReturn (h : Logs r s) : Logs r (loseReturn s) := h
theorem logs_spoil (a : Axis) (o : Owner) (h : Logs r s) : Logs r (spoilReturn s a o) := by unfold spoilReturn; split <;> exact h
theorem logs_takeOver (a : Axis) (o p : Owner) (h : Logs r s) : Logs r (takeOver s a o p).1 := by
  unfold takeOver; simp only
  repeat' split
  · exact h
  · exact logs_loseLearn _ h
  · exact h
theorem logs_takeCoasting (a : Axis) (o p : Owner) (m : Move) (h : Logs r s) : Logs r (takeCoasting s a o p m) := by
  unfold takeCoasting; simp only
  repeat' split
  all_goals exact h
theorem logs_takeMove (a : Axis) (o : Owner) (m : Move) (h : Logs r s) : Logs r (takeMove b s a o m).1 := by
  unfold takeMove; simp only
  have h0 : Logs r (spoilReturn (markDirty s a) a o) := logs_spoil _ _ (logs_markDirty _ h)
  generalize spoilReturn (markDirty s a) a o = t at h0 ⊢
  split
  · exact logs_prepare _ _ (logs_put _ _ h0)
  · exact logs_prepare _ _ (logs_class _ _ (logs_put _ _ (logs_takeOver _ _ _ h0)))
  · split
    · exact logs_class _ _ (logs_put _ _ (logs_takeOver _ _ _ h0))
    · exact logs_switchOff _ _ _ _ (logs_class _ _ (logs_put _ _ (logs_takeOver _ _ _ h0)))
  · split
    · exact logs_class _ _ (logs_takeCoasting _ _ _ _ (logs_loseLearn _ h0))
    · exact logs_class _ _ (logs_takeCoasting _ _ _ _ h0)
  · exact h
theorem logs_granted (a : Axis) (h : Logs r s) : Logs r (axisGranted b s a).1 := by
  unfold axisGranted; simp only
  repeat' split
  all_goals first | exact h | exact logs_atOnce _ _ _ h
theorem logs_axisShed (a : Axis) (h : Logs r s) : Logs r (axisShed b s a).1 := by
  unfold axisShed; simp only; split <;> exact h
theorem logs_disturb (a : Axis) (h : Logs r s) : Logs r (disturb b s a) := by
  unfold disturb; simp only; split
  · exact logs_post _ _ _ h
  · exact h
theorem logs_count (a : Axis) (h : Logs r s) : Logs r (countPulse s a) := by
  unfold countPulse; simp only; split
  · exact logs_post _ _ _ h
  · exact h
theorem logs_driven (a : Axis) (h : Logs r s) : Logs r (drivenPulse b s a).1 := by
  unfold drivenPulse; simp only
  repeat' split
  all_goals first | exact h | exact logs_switchOff _ _ _ _ h
theorem logs_pulse (a : Axis) (h : Logs r s) : Logs r (pulse b s a).1 := by
  unfold pulse; split
  · exact logs_driven _ (logs_count _ h)
  · exact logs_count _ h
  · exact logs_disturb _ h
theorem logs_failLearn (a : Axis) (d : Nat) (h : Logs r s) : Logs r (failLearn s a d) := logs_post _ _ _ (logs_loseLearn _ h)
theorem logs_anchor (a : Axis) (p : Nat) (h : Logs r s) : Logs r (anchor s a p) := logs_post _ _ _ h
theorem logs_classify (a : Axis) (h : Logs r s) : Logs r (classifyStall b s a).1 := by
  unfold classifyStall; simp only
  repeat' split
  · exact h
  · exact logs_anchor _ _ h
  · exact logs_post _ _ _ h
theorem logs_learnStall (a : Axis) (h : Logs r s) : Logs r (learnStall b s a).1 := by
  unfold learnStall; simp only
  repeat' split
  all_goals first | exact h | exact logs_failLearn _ _ h
theorem logs_stalled (a : Axis) (h : Logs r s) : Logs r (stalled b s a).1 := by
  unfold stalled; simp only; split
  · exact logs_switchOff _ _ _ _ (logs_classify _ h)
  · exact logs_switchOff _ _ _ _ (logs_learnStall _ h)
theorem logs_startPending (a : Axis) (o : Owner) (m : Move) (h : Logs r s) : Logs r (startPending b s a o m).1 := by
  unfold startPending; exact logs_prepare _ _ (logs_put _ _ h)
theorem logs_toIdle (a : Axis) (h : Logs r s) : Logs r (coastToIdle s a) := by
  unfold coastToIdle; simp only; split
  · exact logs_put _ _ (logs_completeLearn _ h)
  · exact h
theorem logs_endCoast (a : Axis) (h : Logs r s) : Logs r (endCoast b s a).1 := by
  unfold endCoast; simp only; split
  · exact h
  · split
    · exact logs_startPending _ _ _ (logs_put _ _ h)
    · split
      · split
        · exact logs_startPending _ _ _ (logs_put _ _ h)
        · exact h
      · split
        · exact logs_startPending _ _ _ (logs_put _ _ (logs_put _ _ h))
        · exact logs_toIdle _ (logs_put _ _ h)
theorem logs_overcurrent (a : Axis) (h : Logs r s) : Logs r (overcurrent s a).1 := by
  unfold overcurrent; simp only; split
  · exact logs_release _ (logs_post _ _ _ (logs_put _ _ h))
  · exact logs_release _ (logs_failLearn _ _ (logs_post _ _ _ (logs_put _ _ h)))
theorem logs_startLearn (a : Axis) (h : Logs r s) : Logs r (startLearn b s a).1 := by
  unfold startLearn; simp only; split
  · exact logs_takeMove _ _ _ (logs_put _ _ (logs_loseReturn h))
  · exact logs_takeMove _ _ _ (logs_put _ _ h)
theorem logs_crashAxis (a : Axis) (h : Logs r s) : Logs r (crashAxis b s a).1 := by
  unfold crashAxis; simp only; split
  · exact logs_put _ _ (logs_endMove _ _ _ h)
  · exact logs_endMove _ _ _ h

/-! ### Gallery -/

theorem logs_gallery (g : Gallery) (h : Logs r s) : Logs r (withGallery s g) := h
theorem logs_endNotice (x : Bladder) (o : OpResult) (h : Logs r s) : Logs r (endNotice s x o) := by
  unfold endNotice; split
  · exact logs_post _ _ _ h
  · exact logs_post _ _ _ h
  · exact h
theorem logs_endFlight (o : OpResult) (h : Logs r s) : Logs r (endFlight s o).1 := by
  unfold endFlight; simp only; split
  · exact h
  · exact logs_release _ (logs_endNotice _ _ (logs_gallery _ h))
theorem logs_removeQueued (f : Op → Bool) (o : OpResult) (h : Logs r s) : Logs r (removeQueued s f o).1 := h
theorem logs_galleryIdle (h : Logs r s) : Logs r (galleryIdle s).1 := by unfold galleryIdle; split <;> exact h
theorem logs_burst (o : Op) (h : Logs r s) : Logs r (beginBurst b s o).1 := by
  unfold beginBurst; simp only
  repeat' split
  all_goals first | exact h | exact logs_raise _ _ _ _ (logs_gallery _ h)
theorem logs_settle (h : Logs r s) : Logs r (beginSettle b s) := h
theorem logs_service (o : Op) (h : Logs r s) : Logs r (beginService b s o).1 := by
  unfold beginService; simp only
  repeat' split
  · exact logs_endFlight _ (logs_gallery _ h)
  · exact h
  · exact logs_burst _ h
theorem logs_serve (h : Logs r s) : Logs r (serve b s).1 := by
  unfold serve; simp only
  repeat' split
  · exact h
  · exact h
  · exact logs_service _ (logs_gallery _ h)
theorem logs_compGranted (h : Logs r s) : Logs r (compressorGranted s) := by unfold compressorGranted; split <;> exact h
theorem logs_compShed (h : Logs r s) : Logs r (compressorShed s) := by unfold compressorShed; split <;> exact h
theorem logs_after (o : Op) (p : Nat) (h : Logs r s) : Logs r (afterReading b s o p).1 := by
  unfold afterReading
  repeat' split
  · exact logs_endFlight _ h
  · exact logs_burst _ h
  · exact logs_endFlight _ h
theorem logs_sensorFault (c : Nat) (h : Logs r s) : Logs r (sensorFault s c).1 := by
  unfold sensorFault; exact logs_removeQueued _ _ (logs_endFlight _ (logs_gallery _ h))
theorem logs_sensorNotice (c : Nat) (h : Logs r s) : Logs r (sensorNotice s c) := logs_post _ _ _ h
theorem logs_reading (c : Nat) (h : Logs r s) : Logs r (reading b s c).1 := by
  unfold reading; simp only
  repeat' split
  · exact h
  · exact logs_sensorFault _ (logs_gallery _ h)
  · exact logs_after _ _ (logs_gallery _ h)
theorem logs_enterOp (o : Op) (h : Logs r s) : Logs r (enterOp s o).1 := by unfold enterOp; split <;> exact h
theorem logs_askOp (o : Op) (h : Logs r s) : Logs r (askOp s o).1 := logs_enterOp _ h
theorem logs_makeRoom (h : Logs r s) : Logs r (makeRoom b s).1 := by
  unfold makeRoom
  repeat' split
  all_goals exact h
theorem logs_enterBrace (o : Op) (h : Logs r s) : Logs r (enterBrace b s o).1 := by
  unfold enterBrace; split
  · exact logs_enterOp _ h
  · exact logs_gallery _ (logs_makeRoom h)
theorem logs_askBrace (o : Op) (h : Logs r s) : Logs r (askBrace b s o).1 := by
  unfold askBrace; simp only [andThen_fst]
  apply logs_enterBrace
  apply logs_removeQueued
  apply logs_removeQueued
  repeat' split
  · exact h
  · exact logs_endFlight _ h
  · exact h
theorem logs_withdraw (h : Logs r s) : Logs r (withdrawMassage s).1 := by
  unfold withdrawMassage; simp only [andThen_fst]
  repeat' split
  · exact logs_endFlight _ (logs_removeQueued _ _ h)
  · exact h
  · exact h
theorem logs_crashGallery (h : Logs r s) : Logs r (crashGallery s).1 := logs_removeQueued _ _ (logs_endFlight _ h)
theorem logs_comfort (x : Bladder) (t : Nat) (h : Logs r s) : Logs r (setComfort s x t) := h
theorem logs_askSupport (x : Bladder) (t : Nat) (h : Logs r s) : Logs r (askSupport s x t).1 := logs_askOp _ (logs_comfort _ _ h)
theorem logs_applySupport (x : Bladder) (t : Nat) (h : Logs r s) : Logs r (applySupport b s x t).1 := by
  unfold applySupport; split
  · exact logs_askSupport _ _ h
  · exact h
theorem logs_lumbarStep (l : LumbarStep) (t : Option Nat) (h : Logs r s) : Logs r (lumbarStep s l t).1 := by
  unfold lumbarStep; simp only [andThen_fst]
  exact logs_each _ (fun _ _ h => logs_enterOp _ h) _ (logs_comfort _ _ (logs_comfort _ _ h))

/-! ### Massage engine -/

theorem logs_engine (e : Engine) (h : Logs r s) : Logs r (withEngine s e) := h
theorem logs_runStep (e : Engine) (st : StepRec) (h : Logs r s) : Logs r (runStep b s e st).1 := by
  unfold runStep; split <;> exact h
theorem logs_begin (h : Logs r s) : Logs r (engineBegin b s).1 := by
  unfold engineBegin; simp only
  repeat' split
  · exact h
  · exact logs_runStep _ _ h
  · exact h
theorem logs_engineOff (e : EndReason) (h : Logs r s) : Logs r (engineOff s e) := logs_post _ _ _ h
theorem logs_engineEnd (e : EndReason) (h : Logs r s) : Logs r (engineEnd s e) := by
  unfold engineEnd; split
  · exact h
  · exact logs_engineOff _ (logs_engine _ h)
theorem logs_engineAsk (h : Logs r s) : Logs r (engineAsk b s).1 := by
  unfold engineAsk
  repeat' split
  all_goals first | exact h | exact logs_engineEnd _ h | exact logs_askOp _ (logs_engine _ h)
theorem logs_retry (h : Logs r s) : Logs r (engineRetry s).1 := by
  unfold engineRetry
  repeat' split
  all_goals exact h
theorem logs_check (h : Logs r s) : Logs r (engineCheck s).1 := by
  unfold engineCheck
  repeat' split
  all_goals first | exact h | exact logs_engineOff _ h
theorem logs_beginStop (c : CellSet) (e : EndReason) (h : Logs r s) : Logs r (beginStop s c e) := h
theorem logs_engineStop (e : EndReason) (h : Logs r s) : Logs r (engineStop s e).1 := logs_withdraw (logs_beginStop _ _ h)
theorem logs_stopHeld (e : EndReason) (h : Logs r s) : Logs r (stopHeld s e).1 := h
theorem logs_massageResult (x : Bladder) (o : OpResult) (h : Logs r s) : Logs r (massageResult b s x o).1 := by
  unfold massageResult; simp only
  repeat' split
  all_goals first | exact h | exact logs_engineEnd _ h | exact logs_engineStop _ (logs_engine _ h)
theorem logs_engineStart (n : PatternNo) (i v : Nat) (h : Logs r s) : Logs r (engineStart b s n i v).1 := by
  unfold engineStart; simp only; split
  · exact h
  · exact logs_withdraw (logs_engine _ h)

/-! ### Zones -/

theorem logs_putZone (z : Zone) (x : ZoneState) (h : Logs r s) : Logs r (putZone s z x) := h
theorem logs_demand (o n : Nat) (h : Logs r s) : Logs r (passIfDemand s o n).1 := by unfold passIfDemand; split <;> exact h
theorem logs_runLoop (z : Zone) (h : Logs r s) : Logs r (runLoop b s z).1 := logs_demand _ _ (logs_putZone _ _ h)
theorem logs_heaterOff (z : Zone) (x : ZoneState) (h : Logs r s) : Logs r (switchHeaterOff s z x).1 :=
  logs_demand _ _ (logs_putZone _ _ h)
theorem logs_zoneFault (z : Zone) (c : Nat) (h : Logs r s) : Logs r (zoneFault s z c).1 := by
  unfold zoneFault; simp only; split
  · exact h
  · exact logs_heaterOff _ _ (logs_post _ _ _ h)
theorem logs_overheat (z : Zone) (x : ZoneState) (t : Int) (h : Logs r s) : Logs r (overheat s z x t).1 :=
  logs_heaterOff _ _ (logs_post _ _ _ h)
theorem logs_judgeSample (z : Zone) (x : ZoneState) (t : Int) (h : Logs r s) : Logs r (judgeSample b s z x t).1 := by
  unfold judgeSample; simp only
  repeat' split
  all_goals first | exact h | exact logs_overheat _ _ _ h | exact logs_runLoop _ (logs_putZone _ _ h)
theorem logs_heatSample (z : Zone) (c : Nat) (h : Logs r s) : Logs r (heatSample b s z c).1 := by
  unfold heatSample; simp only; split
  · exact logs_zoneFault _ _ (logs_putZone _ _ h)
  · exact logs_judgeSample _ _ _ (logs_putZone _ _ h)
theorem logs_setHeat (z : Zone) (l : Nat) (h : Logs r s) : Logs r (setHeat s z l).1 := by
  unfold setHeat; simp only
  repeat' split
  · exact h
  · exact logs_heaterOff _ _ h
  · exact h
theorem logs_setFan (z : Zone) (l : Nat) (h : Logs r s) : Logs r (setFan b s z l).1 := logs_fanLevel _ _ _ (logs_putZone _ _ h)
theorem logs_climateOff (h : Logs r s) : Logs r (climateOff b s).1 := by
  unfold climateOff
  exact logs_each (fun z t => andThen (setHeat t z 0) (fun u => setFan b u z 0))
    (fun _ _ h => logs_setFan _ _ (logs_setHeat _ _ h)) _ h
theorem logs_releaseFans (h : Logs r s) : Logs r (releaseFans s).1 := logs_each _ (fun _ _ h => logs_release _ h) _ h
theorem logs_stepDown (z : Zone) (h : Logs r s) : Logs r (stepDown s z).1 := logs_post _ _ _ (logs_setHeat _ _ h)
theorem logs_loopEnd (z : Zone) (h : Logs r s) : Logs r (loopEnd s z) := h

/-! ### Recalls -/

theorem logs_profile (k : Slot) (p : Profile) (h : Logs r s) : Logs r (putProfile s k p) := h
theorem logs_storeSlot (k : Retained4) (p : Profile) (h : Logs r s) : Logs r (storeSlot s k p) := logs_queue _ h
theorem logs_recallHand (a : Axis) (h : Logs r s) : Logs r (recallHand b s a).1 := by
  unfold recallHand
  repeat' split
  all_goals first
    | exact h
    | (simp only
       repeat' split
       all_goals first | exact h | exact logs_takeMove (s := { s with recallCtx := _ }) _ _ _ h)
theorem logs_closeRecall (x : Recall) (p : Phase) (o : RecallOutcome) (h : Logs r s) : Logs r (closeRecall s x p o) :=
  logs_post _ _ _ h
theorem logs_noteRestore (k : Source) (o : RecallOutcome) (h : Logs r s) : Logs r (noteRestore s k o) := by
  unfold noteRestore; split <;> exact h
theorem logs_afterEntry (k : Option Slot) (h : Logs r s) : Logs r (afterEntry s k) := by unfold afterEntry; split <;> exact h
theorem logs_finishRecall (x : Recall) (h : Logs r s) : Logs r (finishRecall s x).1 :=
  logs_noteRestore _ _ (logs_afterEntry _ (logs_closeRecall _ _ _ h))
theorem logs_recallCheck (h : Logs r s) : Logs r (recallCheck s).1 := by
  unfold recallCheck
  repeat' split
  all_goals first | exact h | exact logs_finishRecall _ h
theorem logs_abortRecall (o : RecallOutcome) (h : Logs r s) : Logs r (abortRecall b s o).1 := by
  unfold abortRecall; split
  · exact h
  · exact logs_noteRestore _ _ (logs_closeRecall _ _ _ (logs_each _ (fun _ _ h => logs_endMove _ _ _ h) _ h))
theorem logs_recallSpoils (k : Source) (p : Profile) (h : Logs r s) : Logs r (recallSpoils s k p) := by
  unfold recallSpoils; split <;> exact h
theorem logs_recallStart (k : Slot) (o : Source) (d : Option Key) (h : Logs r s) : Logs r (recallStart b s k o d).1 := by
  unfold recallStart; exact logs_recallSpoils _ _ h
theorem logs_supersede (k : Slot) (o : Source) (d : Option Key) (h : Logs r s) : Logs r (supersede b s k o d).1 :=
  logs_abortRecall _ h
theorem logs_restoreStart (h : Logs r s) : Logs r (restoreStart b s).1 := h
theorem logs_exitStart (h : Logs r s) : Logs r (exitStart b s).1 := h

/-! ### Brace -/

theorem logs_brace (x : Brace) (h : Logs r s) : Logs r (withBrace s x) := h
theorem logs_postBrace (o : RestoreOutcome) (h : Logs r s) : Logs r (postBrace s o) := logs_post _ _ _ h
theorem logs_holdOffAll (h : Logs r s) : Logs r (holdOffAll s) := by
  have h1 : Logs r (contactOrder.foldl holdOff s) := logs_fold holdOff (fun _ _ h => logs_holdOff _ h) contactOrder h
  unfold holdOffAll
  generalize contactOrder.foldl holdOff s = t at h1 ⊢
  exact h1
theorem logs_closeWindow (h : Logs r s) : Logs r (closeWindow s) := h
theorem logs_braceMove (a : Axis) (t : Nat) (h : Logs r s) : Logs r (braceMove b s a t).1 := logs_takeMove _ _ _ (logs_brace _ h)
theorem logs_braceFill (x : Bolster) (h : Logs r s) : Logs r (braceFill b s x).1 := by
  unfold braceFill; split
  · exact h
  · exact logs_askBrace _ h
theorem logs_braceCheck (h : Logs r s) : Logs r (braceCheck b s).1 := by
  unfold braceCheck; simp only; split
  · exact logs_postBrace _ h
  · exact h
theorem logs_braceEntered (h : Logs r s) : Logs r (braceEntered b s).1 := logs_postBrace _ h
theorem logs_restartHold (h : Logs r s) : Logs r (restartHold b s) := h
theorem logs_endForBrace (l : List Axis) (a : Axis) (h : Logs r s) : Logs r (endForBrace b l a s).1 := by
  unfold endForBrace
  repeat' split
  all_goals first | exact h | exact logs_endMove _ _ _ h
theorem logs_enterBracing (g : Nat) (h : Logs r s) : Logs r (enterBracing b s g).1 := by
  unfold enterBracing
  apply logs_closeWindow
  apply logs_holdOffAll
  apply logs_engineEnd
  simp only [andThen_fst]
  apply logs_each
  · intro i s h
    exact logs_endForBrace _ _ h
  · apply logs_abortRecall
    exact h
theorem logs_upgradeBrace (g : Nat) (h : Logs r s) : Logs r (upgradeBrace b s g).1 := by
  unfold upgradeBrace; simp only; split
  · exact logs_postBrace _ (logs_restartHold h)
  · exact h
theorem logs_reBrace (g : Nat) (h : Logs r s) : Logs r (reBrace b s g).1 := by
  unfold reBrace
  apply logs_closeWindow
  apply logs_holdOffAll
  exact logs_engineEnd _ (logs_abortRecall _ (logs_brace _ h))
theorem logs_takeBrace (g : Nat) (h : Logs r s) : Logs r (takeBrace b s g).1 := by
  unfold takeBrace
  repeat' split
  · exact logs_enterBracing _ h
  · exact logs_upgradeBrace _ h
  · exact logs_restartHold h
  · exact logs_upgradeBrace _ h
  · exact logs_restartHold h
  · exact logs_reBrace _ h
  · exact h
theorem logs_takeHold (h : Logs r s) : Logs r (takeHold b s) := by unfold takeHold; split <;> exact h
theorem logs_standDownVent (x : Bolster) (h : Logs r s) : Logs r (standDownVent b s x).1 := by
  unfold standDownVent; split
  · exact h
  · exact logs_askBrace _ h
theorem logs_massageStop (h : Logs r s) : Logs r (massageStop s).1 := by unfold massageStop; split <;> exact h
theorem logs_standDown (h : Logs r s) : Logs r (standDown b s).1 := by
  unfold standDown; exact logs_each _ (fun _ _ h => logs_endMove _ _ _ h) _ (logs_brace _ h)
theorem logs_takeStandDown (h : Logs r s) : Logs r (takeStandDown b s).1 := by
  unfold takeStandDown; split
  · exact logs_standDown h
  · exact logs_standDown h
  · exact h
theorem logs_releasingEntered (h : Logs r s) : Logs r (releasingEntered s).1 := by
  unfold releasingEntered; split
  · exact logs_postBrace _ h
  · exact h
theorem logs_toIdleBrace (o : RestoreOutcome) (h : Logs r s) : Logs r (braceToIdle s o).1 := logs_postBrace _ (logs_brace _ h)
theorem logs_releasingCheck (h : Logs r s) : Logs r (releasingCheck s).1 := by
  unfold releasingCheck; simp only; split
  · exact logs_toIdleBrace _ h
  · exact h
theorem logs_pressEnds (h : Logs r s) : Logs r (pressEndsRestore b s).1 := logs_toIdleBrace _ (logs_abortRecall _ h)
theorem logs_braceResult (o : Op) (x : OpResult) (h : Logs r s) : Logs r (braceResult s o x).1 := by
  unfold braceResult; split <;> exact h
theorem logs_braceMoveEnded (a : Axis) (m : MoveResult) (h : Logs r s) : Logs r (braceMoveEnded s a m).1 := by
  unfold braceMoveEnded
  repeat' split
  all_goals exact h
theorem logs_takeCrash (k : CrashKind) (h : Logs r s) : Logs r (takeCrash b s k).1 := by
  unfold takeCrash; split
  · exact h
  · dsimp only
    apply logs_postBrace
    apply logs_queue
    apply logs_profile
    apply logs_closeWindow
    apply logs_holdOffAll
    simp only [andThen_fst]
    apply logs_releaseFans
    apply logs_climateOff
    apply logs_crashGallery
    apply logs_engineEnd
    apply logs_each
    · intro i s h
      exact logs_crashAxis _ h
    · exact logs_abortRecall _ (logs_brace _ h)
theorem logs_unlock (h : Logs r s) : Logs r (unlock b s).1 := by
  unfold unlock
  rw [andThen_fst]
  exact logs_each _ (fun _ _ h => logs_levelZero _ h) _ (logs_postBrace _ (logs_queue _ (logs_brace _ h)))

/-! ### Contacts -/

theorem logs_contact (c : Contact) (x : ContactState) (h : Logs r s) : Logs r (withContact s c x) := h
theorem logs_endManual (a : Axis) (h : Logs r s) : Logs r (endManual b s a).1 := by
  unfold endManual; split
  · exact logs_endMove _ _ _ h
  · exact h
theorem logs_pairHeldOff (a : Axis) (d : Dir) (h : Logs r s) : Logs r (pairHeldOff b s a d).1 := by
  unfold pairHeldOff; simp only; split
  · exact logs_holdOff _ (logs_contact _ _ (logs_endManual _ h))
  · exact logs_holdOff _ (logs_contact _ _ h)
theorem logs_axisPress (a : Axis) (d : Dir) (h : Logs r s) : Logs r (axisPress b s a d).1 := by
  unfold axisPress; simp only; split
  · exact h
  · exact logs_takeMove _ _ _ (logs_setCondition _ _ h)
theorem logs_pressAxis (a : Axis) (d : Dir) (h : Logs r s) : Logs r (pressAxis b s a d).1 := by
  unfold pressAxis; simp only
  repeat' split
  · exact logs_pairHeldOff _ _ h
  · exact logs_abortRecall _ (logs_contact _ _ h)
  · exact logs_pressEnds (logs_contact _ _ h)
  · exact h
  · exact h
theorem logs_refuseKey (k : Key) (x : Result) (h : Logs r s) : Logs r (refuseKey s k x) := logs_post _ _ _ h
theorem logs_memAct (k : Key) (p : Retained4) (h : Logs r s) : Logs r (memAct b s k p).1 := by
  unfold memAct; simp only
  repeat' split
  all_goals first
    | exact logs_refuseKey _ _ h
    | exact logs_storeSlot _ _ h
    | exact logs_supersede _ _ _ h
theorem logs_keyAct (k : Key) (h : Logs r s) : Logs r (keyAct b s k).1 := by
  unfold keyAct; simp only; split
  · exact logs_memAct (s := { setCondition s _ _ with scanner := _ }) _ _ h
  · exact h
theorem logs_pressKey (k : Key) (h : Logs r s) : Logs r (pressKey b s k).1 := by
  unfold pressKey; simp only
  repeat' split
  · exact h
  · exact h
  · exact logs_pressEnds (logs_contact _ _ h)
  · exact h
theorem logs_deadMan (k : Key) (h : Logs r s) : Logs r (deadManEnds b s k).1 := by
  unfold deadManEnds
  repeat' split
  · exact logs_abortRecall _ h
  · exact h
  · exact h
theorem logs_lumbarNext (h : Logs r s) : Logs r (lumbarNext b s).1 := by
  unfold lumbarNext
  split
  · exact h
  · simp only
    repeat' split
    · exact logs_holdOff _ h
    · exact logs_holdOff _ (logs_lumbarStep (s := { s with scanner := _ }) _ _ h)
    · exact logs_lumbarStep (s := { s with scanner := _ }) _ _ h
theorem logs_lumbarResult (x : Bladder) (n : Nat) (h : Logs r s) : Logs r (lumbarResult s x n).1 := by
  unfold lumbarResult; simp only; split <;> exact h
theorem logs_lumbarAct (l : LumbarStep) (h : Logs r s) : Logs r (lumbarAct b s l).1 := by
  unfold lumbarAct; simp only
  exact logs_lumbarNext (logs_setCondition _ _
    (logs_fold (fun t k => holdOff t (.lumbar k)) (fun _ _ h => logs_holdOff _ h) lumbarOrder h))
theorem logs_pressLumbar (l : LumbarStep) (h : Logs r s) : Logs r (pressLumbar b s l).1 := by
  unfold pressLumbar; simp only
  repeat' split
  · exact h
  · exact logs_pressEnds (logs_contact _ _ h)
  · exact h
theorem logs_handRelease (c : Contact) (h : Logs r s) : Logs r (handRelease b s c).1 := by
  unfold handRelease; split
  · exact logs_endManual _ h
  · exact logs_deadMan _ h
  · exact h
theorem logs_releaseContact (c : Contact) (h : Logs r s) : Logs r (release b s c).1 := by
  unfold release; simp only; split
  · exact logs_handRelease _ (logs_contact _ _ h)
  · exact h
theorem logs_stuckContact (c : Contact) (h : Logs r s) : Logs r (stuckContact b s c).1 := by
  unfold stuckContact; simp only; split
  · exact logs_handRelease _ (logs_post _ _ _ (logs_contact _ _ h))
  · exact logs_post _ _ _ (logs_contact _ _ h)

/-! ### Hand-overs -/

theorem logs_handGrant (c : Consumer) (h : Logs r s) : Logs r (handGrant b s c).1 := by
  unfold handGrant; split
  · exact logs_granted _ h
  · exact logs_compGranted h
  · exact h
theorem logs_moveEnded (a : Axis) (o : Owner) (m : MoveResult) (h : Logs r s) : Logs r (moveEnded s a o m).1 := by
  unfold moveEnded
  repeat' split
  all_goals first | exact h | exact logs_holdOff _ (logs_holdOff _ h) | exact logs_braceMoveEnded _ _ h
theorem logs_handResult (o : Op) (x : OpResult) (h : Logs r s) : Logs r (handResult b s o x).1 := by
  unfold handResult
  repeat' split
  all_goals first | exact h | exact logs_lumbarResult _ _ h | exact logs_massageResult _ _ h | exact logs_braceResult _ _ h
theorem logs_startFrom (k : Slot) (o : Source) (d : Option Key) (h : Logs r s) : Logs r (startFrom b s k o d).1 := by
  unfold startFrom; split
  · exact logs_restoreStart h
  · exact logs_recallStart _ _ _ h

/-- Every hand-over posts and asks writes only. -/
theorem logs_runTask (t : Task) (h : Logs r s) : Logs r (runTask t b s).1 := by
  cases t with
  | pass => exact logs_pass h
  | shed => exact logs_shed h
  | walk => exact logs_walk h
  | granted c => exact logs_handGrant _ h
  | axisShed a => exact logs_axisShed _ h
  | compressorShed => exact logs_compShed h
  | share c d => exact logs_share _ _ h
  | coastEnd a => exact logs_endCoast _ h
  | moveEnded a o m => exact logs_moveEnded _ _ _ h
  | recallHand a => exact logs_recallHand _ h
  | recallCheck => exact logs_recallCheck h
  | recallStart k o d => exact logs_startFrom _ _ _ h
  | applySupport x t => exact logs_applySupport _ _ h
  | applyHeat z l => exact logs_setHeat _ _ h
  | applyFan z l => exact logs_setFan _ _ h
  | serve => exact logs_serve h
  | galleryIdle => exact logs_galleryIdle h
  | opResult o x => exact logs_handResult _ _ h
  | sensorNotice c => exact logs_sensorNotice _ h
  | engineBegin => exact logs_begin h
  | engineAsk => exact logs_engineAsk h
  | engineCheck => exact logs_check h
  | engineRetry => exact logs_retry h
  | lumbarNext => exact logs_lumbarNext h
  | axisPress a d => exact logs_axisPress _ _ h
  | keyAct k => exact logs_keyAct _ h
  | lumbarAct l => exact logs_lumbarAct _ h
  | braceFill x => exact logs_braceFill _ h
  | braceMove a t => exact logs_braceMove _ _ h
  | braceEntered => exact logs_braceEntered h
  | braceCheck => exact logs_braceCheck h
  | standDownVent x => exact logs_standDownVent _ h
  | massageStop => exact logs_massageStop h
  | releasingEntered => exact logs_releasingEntered h
  | releasingCheck => exact logs_releasingCheck h
  | loopEnd z => exact logs_loopEnd _ h

/-- So does carrying out what a block answered. -/
theorem logs_settled (y : Did) (h : Logs r y.1) : Logs r (settled b y) :=
  settled_keeps (Logs r) b (fun t _ h => logs_runTask t h) y h

end Sys2Proof.Machine
end

