-- ==== Sys2Proof/Laws/HeldCommands.lean ====
section
/-! SUPPORT. What the frames, the events and the commands keep: the claims are lawful, and the outputs of every axis are as its drive
state allows. One lemma per shape and per command's act. -/
namespace Sys2Proof.Machine

/-- The claims and the axes of the part are lawful. -/
def HeldState (s : State) : Prop := Held s.seat

variable {s t : State} {b : Base}

theorem state_open (h : HeldState s) : HeldState (openFrame s) := by unfold openFrame; split <;> exact h
theorem state_close (r l) (h : HeldState s) : HeldState (closeFrame s r l) := h
theorem state_actOn (y : Did) (h : Held y.1) : HeldState (actOn s y) := held_settled y h
theorem state_base (b) (h : HeldState s) : HeldState (withBase s b) := h
theorem held_wakeSeat (c) {s : Seat} (h : Held s) : Held (wakeSeat c s) := by
  refine ⟨h.1, fun a => ?_⟩
  have := h.2 a
  simp only [wakeSeat, axisOf, PerAxis.get_map]
  exact ⟨this.bridge, this.stall, this.blanking, this.measured⟩
theorem held_measure (c) {s : Seat} (h : Held s) : Held (measureFromWake b s c) := by
  unfold measureFromWake; simp only
  repeat' split
  all_goals exact h
theorem state_wake (h : HeldState s) : HeldState (wake s) := by
  unfold wake
  have h1 := state_actOn (s := withBase s (wakeBase s.base)) _
    (held_each (fun z t => levelZeroClaim (wakeBase s.base) t z) (fun _ _ h => held_levelZero _ h) zoneOrder (held_wakeSeat (wakeBase s.base).cfg h))
  exact held_fold (measureFromWake (wakeBase s.base)) (fun _ _ h => held_measure _ h) _ h1
theorem state_chipWake (h : HeldState s) : HeldState (chipWake s) := by
  unfold chipWake; exact state_wake h
theorem state_frame (f) (hf : ∀ s, HeldState s → HeldState (f s)) (h : HeldState s) (e : frame s f = .next t) : HeldState t := by
  unfold frame at e
  split at e <;> injection e with e <;> subst e
  · exact hf s h
  · exact hf s h
  · exact state_chipWake h
  · exact h
theorem state_guarded (k act) (hf : ∀ s, HeldState s → HeldState (act s).2) (h : HeldState s) : HeldState (guarded k act s).2 := by
  unfold guarded; split
  · exact hf s h
  · exact h
theorem state_comfort (k act) (hf : ∀ s, HeldState s → HeldState (act s).2) (h : HeldState s) (e : comfort k act s = .next t) : HeldState t :=
  state_frame _ (fun _ h => state_close _ _ (state_guarded _ _ hf (state_open h))) h e
theorem state_onSeat (f) (hf : ∀ b s, Held s → Held (f b s).2.1) (h : HeldState s) : HeldState (onSeat f s).2 := state_actOn _ (hf _ _ h)
theorem state_event (f) (hf : ∀ b s, Held s → Held (f b s).1) (h : HeldState s) (e : event s f = .next t) : HeldState t := by
  unfold event at e
  split at e <;> injection e with e <;> subst e
  · exact state_actOn _ (hf _ _ h)
  · exact h
theorem state_eventIf (c f) (hf : c = true → Held (f s.base s.seat).1) (h : HeldState s) (e : eventIf s c f = .next t) : HeldState t := by
  unfold eventIf event at e
  split at e
  · split at e <;> injection e with e <;> subst e
    · exact state_actOn _ (hf ‹_›)
    · exact h
  · injection e with e; subst e; exact h
theorem state_capture (f) (h : HeldState s) : HeldState (captureReply f s) := by unfold captureReply; simp only; split <;> exact h
theorem state_ensure (f) (h : HeldState s) : HeldState (ensureCaptured f s) := by
  unfold ensureCaptured
  repeat' split
  all_goals first | exact h | exact state_capture _ h
theorem state_read (f) (h : HeldState s) (e : readFrame f s = .next t) : HeldState t :=
  state_frame _ (fun _ h => state_close _ _ (state_ensure _ (state_open h))) h e
theorem state_whole (f) (hf : ∀ s, HeldState s → HeldState (f s)) (h : HeldState s) (e : wholeEvent s f = .next t) : HeldState t := by
  unfold wholeEvent at e
  split at e <;> injection e with e <;> subst e
  · exact hf _ h
  · exact h
theorem state_done {t : State} (f : State) (hf : HeldState f) (e : Host.Outcome.next f = (.next t : Host.Outcome State Fault Refusal)) : HeldState t := by
  injection e with e; subst e; exact hf
theorem lawful_reset (p h c u d) : AxisLawful (Reset.axis p h c u d) := by constructor <;> simp [Reset.axis, bridgeAllowed]
theorem claims_reset : ClaimsLawful Reset.alloc := by rw [claimsLawful_iff]; simp [Reset.alloc]
theorem lawful_load (cfg f r a) : AxisLawful (loadAxis cfg f r a) := by
  unfold loadAxis loadedAxis freshAxis
  repeat' split
  all_goals exact lawful_reset _ _ _ _ _
theorem held_resetSeat (f r) : Held (resetSeat (loadRecords f r)) := by
  refine ⟨claims_reset, fun a => ?_⟩
  simp only [axisOf, resetSeat, loadRecords, tabulate_get]
  exact lawful_load _ _ _ _
theorem held_idle (q) : Held (idleSeat q) := by
  refine ⟨claims_reset, fun a => ?_⟩
  simp only [axisOf, idleSeat, PerAxis.get_all]
  exact lawful_reset _ _ _ _ _
theorem state_resetPart (f l r) (s : State) : HeldState (resetPart s f l r) := by
  unfold resetPart HeldState
  refine held_settled _ ?_
  unfold afterReset
  rw [andThen_fst]
  exact held_each _ (fun _ _ h => held_levelZero _ h) _ (held_resetSeat _ _)
theorem state_withSeat (x : Seat) (h : Held x) : HeldState (withSeat s x) := h
theorem state_drop (o f n) (h : HeldState s) : HeldState (dropFrame s o f n) := held_post _ _ _ h
theorem state_answer (c a o) (h : HeldState s) : HeldState (answerFrame s c a o) := h
theorem held_braceCommand (c) {s : Seat} (h : Held s) : Held (braceCommand c b s).1 := by
  unfold braceCommand; split
  · exact h
  · exact held_takeBrace _ h
  · exact held_takeHold h
  · exact held_takeStandDown h
  · exact held_takeCrash _ h
theorem state_take (c) (h : HeldState s) : HeldState (takeFrame s c) := state_answer _ _ _ (state_actOn _ (held_braceCommand c h))
theorem state_refuse (c a o) (h : HeldState s) : HeldState (refuseFrame s c a o) := held_post _ _ _ h
theorem state_checked (c a) (h : HeldState s) : HeldState (checkedFrame s c a) := by
  unfold checkedFrame; split
  · exact state_take _ h
  · exact state_refuse _ _ _ h
  · exact state_refuse _ _ _ h
theorem state_lineWake (h : HeldState s) : HeldState (lineWake s) := by unfold lineWake; exact state_drop (s := wake s) .wake none .waitHigh (state_wake h)
theorem state_collide (h : HeldState s) : HeldState (collide s) := held_post _ _ _ h
theorem state_stuck (h : HeldState s) : HeldState (enterStuck s) := held_post _ _ _ h
theorem state_clear (h : HeldState s) : HeldState (clearStuck s) := held_post _ _ _ h
theorem state_startLead (h : HeldState s) : HeldState (startLead s) := h
theorem state_withLine (l) (h : HeldState s) : HeldState (withLine s l) := h
theorem state_endGap (m) (h : HeldState s) : HeldState (endGap s m) := by
  unfold endGap; simp only
  repeat' split
  all_goals exact h
theorem state_falling (m) (h : HeldState s) : HeldState (fallingEdge s m) := by
  unfold fallingEdge; simp only
  repeat' split
  all_goals first | exact state_collide h | exact state_endGap _ h
theorem state_endOfData (l) (h : HeldState s) : HeldState (endOfData s l) := by
  unfold endOfData; simp only
  split
  · exact state_checked _ _ h
  · exact state_drop _ _ _ h
theorem state_endSymbol (m) (h : HeldState s) : HeldState (endSymbol s m) := by
  unfold endSymbol; simp only
  repeat' split
  · exact state_drop _ _ _ h
  · exact state_drop _ _ _ h
  · exact state_withLine _ h
  · exact state_endOfData _ h
theorem state_stuckByLow (m) (h : HeldState s) : HeldState (stuckByLow s m) := by
  unfold stuckByLow
  refine state_stuck ?_
  split
  · exact state_drop _ _ _ h
  · exact h
theorem state_rising (m) (h : HeldState s) : HeldState (risingEdge s m) := by
  have h0 : HeldState (if 10000 ≤ m ∧ s.base.line.receiver ≠ .stuck then stuckByLow s m else s) := by
    split
    · exact state_stuckByLow _ h
    · exact h
  unfold risingEdge; simp only
  generalize (if 10000 ≤ m ∧ s.base.line.receiver ≠ .stuck then stuckByLow s m else s) = s0 at h0 ⊢
  have h1 : HeldState (withLine s0 (lineHigh s0.base.line)) := h0
  generalize withLine s0 (lineHigh s0.base.line) = s1 at h1 ⊢
  split
  · unfold endLead; repeat' split
    all_goals exact state_withLine _ h1
  · unfold endCal; repeat' split
    all_goals exact state_withLine _ h1
  · exact state_endSymbol _ h1
  · exact h1
  · exact h1
theorem state_edge (r m) (h : HeldState s) : HeldState (lineEdge s r m) := by
  unfold lineEdge
  repeat' split
  · exact state_rising _ h
  · exact state_falling _ h
  · exact h
theorem state_safety (f) (hf : ∀ s, HeldState s → HeldState (f s)) (h : HeldState s) (e : safetyFrame s f = .next t) : HeldState t := by
  unfold safetyFrame at e
  split at e
  · split at e <;> (injection e with e; subst e)
    · exact h
    · exact hf _ h
  · split at e <;> (injection e with e; subst e)
    · exact h
    · exact hf _ h
  · injection e with e; subst e
    exact state_withLine _ (state_lineWake h)
  · injection e with e; subst e
    exact h
theorem state_moment (g f) (hf : ∀ s, HeldState s → HeldState (f s)) (h : HeldState s) (e : lineMoment s g f = .next t) : HeldState t := by
  unfold lineMoment at e
  split at e <;> (injection e with e; subst e)
  · exact hf _ h
  · exact h
theorem state_axis (a g f) (hf : g (axisOf s.seat a) = true → Held (f s.base s.seat).1) (h : HeldState s) (e : axisEvent s a g f = .next t) : HeldState t := by
  refine state_eventIf _ _ (fun hc => ?_) h e
  simp only [Bool.and_eq_true] at hc
  exact hf hc.2
theorem held_moveAxisTo (x n) {s : Seat} (h : Held s) : Held (moveAxisTo x n b s).2.1 := by
  unfold moveAxisTo refuse accept done
  repeat' split
  all_goals first | exact h | exact held_takeMove _ _ _ h
theorem keep_refresh {x y : AxisState} {d ms} (e : refreshJog x d ms = some y) : y.drive = x.drive ∧ y.bridge = x.bridge ∧ y.driveDir = x.driveDir ∧ y.stallLeft = x.stallLeft ∧ y.blankLeft = x.blankLeft ∧ y.overcurrentLeft = x.overcurrentLeft := by
  unfold refreshJog at e
  repeat' split at e
  all_goals first | (injection e with e; subst e; simp) | cases e
theorem held_jogAxis (x d n) {s : Seat} (h : Held s) : Held (jogAxis x d n b s).2.1 := by
  unfold jogAxis refuse accept done takeJog
  repeat' split
  all_goals try exact h
  · rename_i e
    obtain ⟨h1,h2,h3,h4,h5,h6⟩ := keep_refresh e
    exact held_keep _ _ h h1 h2 h3 h4 h5 h6
  · exact held_takeMove _ _ _ h
theorem held_stopMove (a) {s : Seat} (h : Held s) : Held (stopMove b a s).1 := by
  unfold stopMove; simp only
  repeat' split
  · exact held_endMove _ _ _ (held_holdOff _ (held_holdOff _ h))
  · exact held_endMove _ _ _ h
  · exact h
theorem held_stopAxis (x) {s : Seat} (h : Held s) : Held (stopAxis x b s).2.1 := by
  unfold stopAxis refuse accept done
  split
  · exact h
  · simp only [andThen_fst]
    have := held_stopMove (b := b) ‹Axis› h
    unfold stopWaiting
    repeat' split
    all_goals exact this
theorem held_stopOther (a) {s : Seat} (h : Held s) : Held (stopOther b a s).1 := by
  unfold stopOther; split
  · exact h
  · exact held_stopMove _ h
theorem held_stopAll {s : Seat} (h : Held s) : Held (stopAll b s).2.1 := by
  unfold stopAll accept
  exact held_each _ (fun _ _ h => held_stopOther _ h) _ (held_abortRecall _ h)
theorem held_learn (x) {s : Seat} (h : Held s) : Held (learnAxis x b s).2.1 := by
  unfold learnAxis refuse accept done
  repeat' split
  all_goals first | exact h | exact held_startLearn _ h
theorem held_caf (x) {s : Seat} (h : Held s) : Held (clearAxisFault x b s).2.1 := by
  unfold clearAxisFault refuse accept done
  repeat' split
  all_goals first | exact h | exact held_clearFault _ h ‹_›
theorem held_store (x) {s : Seat} (h : Held s) : Held (storeProfile x b s).2.1 := by
  unfold storeProfile refuse accept done
  repeat' split
  all_goals exact h
theorem held_erase (x) {s : Seat} (h : Held s) : Held (eraseProfile x b s).2.1 := by
  unfold eraseProfile refuse accept done
  repeat' split
  all_goals exact h
theorem held_recall (x) {s : Seat} (h : Held s) : Held (recallProfile x b s).2.1 := by
  unfold recallProfile refuse accept done
  repeat' split
  all_goals first | exact h | exact held_supersede _ _ _ h
theorem held_exit {s : Seat} (h : Held s) : Held (doorExit b s).2.1 := by
  unfold doorExit refuse accept done
  repeat' split
  all_goals exact h
theorem held_entry {s : Seat} (h : Held s) : Held (doorEntry b s).2.1 := by
  unfold doorEntry refuse accept done
  repeat' split
  all_goals exact h
theorem held_support (x n) {s : Seat} (h : Held s) : Held (setSupport x n b s).2.1 := by
  unfold setSupport refuse accept done
  repeat' split
  all_goals first | exact h | exact held_askSupport _ _ h
theorem held_lumbar (x) {s : Seat} (h : Held s) : Held (lumbarAdjust x b s).2.1 := by
  unfold lumbarAdjust refuse accept done
  repeat' split
  all_goals first | exact h | exact held_lumbarStep _ _ h
theorem held_cgf {s : Seat} (h : Held s) : Held (clearGalleryFault b s).2.1 := by
  unfold clearGalleryFault refuse accept done
  repeat' split
  all_goals exact h
theorem held_start (x y z) {s : Seat} (h : Held s) : Held (startMassage x y z b s).2.1 := by
  unfold startMassage whenIdle refuse accept done
  repeat' split
  all_goals first | exact h | exact held_engineStart _ _ _ h
theorem held_setm (x y) {s : Seat} (h : Held s) : Held (setMassage x y b s).2.1 := by
  unfold setMassage whenIdle refuse accept done
  repeat' split
  all_goals exact h
theorem held_stopm {s : Seat} (h : Held s) : Held (stopMassage b s).2.1 := by
  unfold stopMassage whenIdle refuse accept done
  repeat' split
  all_goals first | exact h | exact held_engineStop _ h
theorem held_setHeatC (x y) {s : Seat} (h : Held s) : Held (setHeatCommand x y b s).2.1 := by
  unfold setHeatCommand refuse accept done
  repeat' split
  all_goals first | exact h | exact held_setHeat _ _ h
theorem held_setFanC (x y) {s : Seat} (h : Held s) : Held (setFanCommand x y b s).2.1 := by
  unfold setFanCommand refuse accept done
  repeat' split
  all_goals first | exact h | exact held_setFan _ _ h
theorem held_ceiling (n) {s : Seat} (h : Held s) : Held (setCeiling s n).1 := held_alloc _ h (claims_same h.1 rfl rfl)
theorem held_ceilingC (x) {s : Seat} (h : Held s) : Held (setSupplyCeiling x b s).2.1 := by
  unfold setSupplyCeiling refuse accept done
  repeat' split
  all_goals first | exact h | exact held_ceiling _ h
theorem held_unlockC {s : Seat} (h : Held s) : Held (unlockBrace b s).2.1 := by
  unfold unlockBrace refuse accept done
  repeat' split
  · exact h
  · exact h
  · exact held_unlock h
theorem state_vehicle (v) (h : HeldState s) : HeldState (setVehicleState v s).2 := by
  unfold setVehicleState
  simp only
  repeat' split
  · exact h
  · refine state_actOn _ (held_each _ (fun a x hx => ?_) _ h)
    unfold endLearn; split
    · exact held_endMove _ _ _ hx
    · exact hx
  · exact h
theorem held_item (i j v) {s : Seat} (h : Held s) : Held (itemEffect i j v b s).1 := by
  unfold itemEffect
  repeat' split
  all_goals try exact h
  · exact held_amount _ _ h
  · unfold fanClaimWritten; simp only; split
    · simp only [andThen_fst]
      exact held_each _ (fun _ _ h => held_levelZero _ h) _ (held_fanAmount _ _ h)
    · exact held_fanAmount _ _ h
  · exact held_amount _ _ h
  · unfold stepDownIfDue; split
    · exact held_stepDown _ h
    · exact h
theorem state_write (i j v w) (h : HeldState s) : HeldState (writeConfig i j v w s).2 := by
  unfold writeConfig
  repeat' split
  · exact h
  · exact h
  · rename_i c _ _
    have h2 : HeldState (actOn (withBase s { s.base with cfg := c }) (itemEffect i j v (withBase s { s.base with cfg := c }).base (withBase s { s.base with cfg := c }).seat)) :=
      state_actOn _ (held_item _ _ _ h)
    show HeldState (acceptItem s c i j v)
    unfold acceptItem
    simp only
    generalize (actOn (withBase s { s.base with cfg := c }) (itemEffect i j v (withBase s { s.base with cfg := c }).base (withBase s { s.base with cfg := c }).seat)) = s2 at h2 ⊢
    exact h2
theorem held_queueClean (a) {s : Seat} (h : Held s) : Held (queueClean s a) := by
  unfold queueClean; exact held_keep _ _ h rfl rfl rfl rfl rfl rfl
theorem state_acceptPark (h : HeldState s) : HeldState (acceptPark s) := by
  unfold acceptPark
  simp only
  have h2 : HeldState (actOn (withBase s { s.base with link := { s.base.link with vehicle := .parked } }) (climateOff (withBase s { s.base with link := { s.base.link with vehicle := .parked } }).base (withBase s { s.base with link := { s.base.link with vehicle := .parked } }).seat)) :=
    state_actOn _ (held_climateOff h)
  generalize (actOn (withBase s { s.base with link := { s.base.link with vehicle := .parked } }) (climateOff (withBase s { s.base with link := { s.base.link with vehicle := .parked } }).base (withBase s { s.base with link := { s.base.link with vehicle := .parked } }).seat)) = s2 at h2 ⊢
  have h3 : HeldState (actOn s2 (setCeiling s2.seat s2.base.cfg.parkCeiling)) := state_actOn _ (held_ceiling _ h2)
  exact held_fold queueClean (fun _ _ h => held_queueClean _ h) _ (held_closeWindow h3)
theorem state_park (h : HeldState s) : HeldState (park s).2 := by
  unfold park
  repeat' split
  · exact h
  · exact h
  · exact state_acceptPark h
theorem held_parkContact (c) {s : Seat} (h : Held s) : Held (parkContact s c) := by unfold parkContact; simp only; split <;> exact h
theorem held_stopBlocks {s : Seat} (h : Held s) : Held (stopBlocks s) := by
  unfold stopBlocks
  have h1 : Held (contactOrder.foldl parkContact (closeWindow s)) := held_fold parkContact (fun _ _ h => held_parkContact _ h) _ (held_closeWindow h)
  generalize contactOrder.foldl parkContact (closeWindow s) = t at h1 ⊢
  exact ⟨claims_same h1.1 rfl rfl, h1.2⟩
theorem state_enterParked (h : HeldState s) : HeldState (enterParked s) := by
  unfold enterParked
  simp only
  have hh : Held (andThen (climateOff s.base s.seat) releaseFans).1 := by
    rw [andThen_fst]; exact held_releaseFans (held_climateOff h)
  have h2 : HeldState (actOn s (andThen (climateOff s.base s.seat) releaseFans)) := state_actOn _ hh
  exact held_stopBlocks h2
theorem state_tryPark (h : HeldState s) : HeldState (tryPark s) := by
  unfold tryPark
  repeat' split
  · exact h
  · exact state_enterParked h
  · exact h
theorem held_told (w) {s : Seat} (h : Held s) : Held (writeTold b s w).1 := by
  unfold writeTold
  repeat' split
  · unfold raiseDeferred; split
    · exact held_raiseAxis _ (held_keep _ _ h rfl rfl rfl rfl rfl rfl)
    · exact (held_keep _ _ h rfl rfl rfl rfl rfl rfl)
  · exact h
  · exact h
theorem state_complete (w) (h : HeldState s) : HeldState (completeWrite s w) := by
  unfold completeWrite
  exact state_actOn (s := withSeat (withBase s _) _) _ (held_told w h)
theorem state_writes (w) (h : HeldState s) : HeldState (writeCompletes s w) := by
  unfold writeCompletes; split
  · exact state_complete _ h
  · exact state_tryPark (state_complete _ h)
  · exact h
  · exact h
theorem held_instant (l c) {s : Seat} (h : Held s) : Held (instantContact l s c) := by
  unfold instantContact; simp only
  repeat' split
  all_goals exact h
theorem state_supply (m n) (h : HeldState s) : HeldState (supplySample s m n) := by
  unfold supplySample
  refine state_actOn _ ?_
  unfold supplyChange; split <;> exact h
theorem state_instant (l m) (h : HeldState s) : HeldState (wakeInstant s l m) := by
  have h1 : HeldState (readInstant s l m) := by
    unfold readInstant
    exact state_supply _ _ (held_fold (instantContact l) (fun _ _ h => held_instant _ _ h) _ h)
  unfold wakeInstant; simp only; split
  · exact state_wake h1
  · exact h1
theorem held_second (l c) {s : Seat} (h : Held s) : Held (measureSecond b l s c) := by
  unfold measureSecond; simp only
  split <;> exact h
theorem state_second (l) (h : HeldState s) : HeldState (secondInstant s l) :=
  held_fold (measureSecond s.base l) (fun _ _ h => held_second _ _ h) _ h
theorem held_hands (e a) {s : Seat} (h : Held s) : Held (hallHands e a b s).1 := by
  unfold hallHands; split
  · exact h
  · exact held_pulse _ h
  · exact held_disturb _ h
theorem state_hall (a x) (h : HeldState s) : HeldState (hallSample a x s) := by
  unfold hallSample; exact state_actOn (s := withBase s _) _ (held_hands _ _ h)
theorem state_dropAt (c) (h : HeldState s) : HeldState (dropAtEdge c s) := by
  unfold dropAtEdge; split <;> exact held_post _ _ _ h
theorem state_ordinary (h : HeldState s) : HeldState (ordinaryFall s) := by
  unfold ordinaryFall
  repeat' split
  · exact h
  · exact h
  · exact h
  · exact state_collide h
  · exact h
theorem held_endBlank (a) {s : Seat} (h : Held s) (hd : isDriving (axisOf s a) = true) : Held (endBlanking s a) := by
  have ha := h.2 a
  simp only [isDriving, decide_eq_true_eq] at hd
  refine held_put _ _ h ⟨ha.bridge, ha.stall, ?_, ?_⟩
  · simp
  · intro _; exact hd
theorem held_compar (a x) {s : Seat} (h : Held s) : Held (setComparator s a x) := by
  have ha := h.2 a
  refine held_put _ _ h ⟨ha.bridge, ha.stall, ha.blanking, ?_⟩
  simp only
  split
  · rename_i hc
    simp only [isDriving, Bool.and_eq_true, decide_eq_true_eq] at hc
    intro _; exact hc.1.1
  · simp
theorem tick_axis {x : AxisState} (h : AxisLawful x) : AxisLawful (tickAxis x) := by
  refine ⟨h.bridge, ?_, ?_, ?_⟩ <;> simp only [tickAxis, tickDown, Option.isSome_map]
  · exact h.stall
  · exact h.blanking
  · exact h.measured

end Sys2Proof.Machine
end

