-- ==== Sys2Proof/Laws/LineHeld.lean ====
section
/-! SUPPORT. What the frames and the moments of the safety line keep: the receiver, its symbols and its indices are lawful. -/
namespace Sys2Proof.Machine

/-- The safety line of the part is lawful. -/
def LineHeld (s : State) : Prop := LineLawful s.base.line

variable {s t : State}

theorem line_open (h : LineHeld s) : LineHeld (openFrame s) := by unfold openFrame; split <;> exact h
theorem line_close (r l) (h : LineHeld s) : LineHeld (closeFrame s r l) := h
theorem lineOf_wake {l : SafetyLine} (h : LineLawful l) : LineLawful (wakeLine l) := by
  unfold wakeLine
  refine ⟨?_, ?_, ?_, ?_, ?_, ?_⟩
  · intro e; simp only at e ⊢; split at e; assumption; cases e
  · intro n e; cases e
  · simp
  · simp
  · simp
  · exact h.calibration
theorem line_wake (h : LineHeld s) : LineHeld (wake s) := lineOf_wake h
theorem line_frame (f) (hf : ∀ s, LineHeld s → LineHeld (f s)) (h : LineHeld s) (e : frame s f = .next t) : LineHeld t := by
  unfold frame at e
  split at e <;> injection e with e <;> subst e
  · exact hf s h
  · exact hf s h
  · exact line_wake h
  · exact h
theorem line_guarded (k act) (hf : ∀ s, LineHeld s → LineHeld (act s).2) (h : LineHeld s) : LineHeld (guarded k act s).2 := by
  unfold guarded; split
  · exact hf s h
  · exact h
theorem line_comfort (k act) (hf : ∀ s, LineHeld s → LineHeld (act s).2) (h : LineHeld s) (e : comfort k act s = .next t) : LineHeld t :=
  line_frame _ (fun _ h => line_close _ _ (line_guarded _ _ hf (line_open h))) h e
theorem line_eventIf (c f) (h : LineHeld s) (e : eventIf s c f = .next t) : LineHeld t := by
  unfold eventIf event at e
  split at e
  · split at e <;> injection e with e <;> subst e <;> exact h
  · injection e with e; subst e; exact h
theorem line_event (f) (h : LineHeld s) (e : event s f = .next t) : LineHeld t := by
  unfold event at e
  split at e <;> injection e with e <;> subst e <;> exact h
theorem line_capture (f) (h : LineHeld s) : LineHeld (captureReply f s) := by unfold captureReply; simp only; split <;> exact h
theorem line_ensure (f) (h : LineHeld s) : LineHeld (ensureCaptured f s) := by
  unfold ensureCaptured
  repeat' split
  all_goals first | exact h | exact line_capture _ h
theorem lineOf_drop {l : SafetyLine} (h : LineLawful l) (n : Receiver) (r) (hn : n = .waitLead ∨ n = .waitHigh) :
   LineLawful { l with receiver := n, symbols := [], replyIndex := 0, driving := none, record := r } := by
  refine ⟨?_, ?_, ?_, ?_, ?_, h.calibration⟩
  · intro e; rcases hn with rfl | rfl <;> cases e
  · intro n e; cases e
  · simp
  · simp
  · intro e; rcases hn with rfl | rfl <;> cases e
theorem line_drop (o f n) (hn : n = .waitLead ∨ n = .waitHigh) (h : LineHeld s) : LineHeld (dropFrame s o f n) := lineOf_drop h n _ hn
theorem lineOf_low {l : SafetyLine} (h : LineLawful l) (x) : LineLawful { l with low := x } := ⟨h.1,h.2,h.3,h.4,h.5,h.6⟩
theorem frameSymbols_length (c a) : (frameSymbols c a).length = 16 := rfl
theorem line_answer (c a o) (h : LineHeld s) : LineHeld (answerFrame s c a o) := by
  refine ⟨?_, ?_, ?_, ?_, ?_, h.calibration⟩
  · intro e; cases e
  · intro n e; cases e
  · exact Nat.zero_le _
  · exact Nat.le_of_eq (frameSymbols_length c a)
  · intro e; cases e
theorem line_take (c) (h : LineHeld s) : LineHeld (takeFrame s c) := line_answer _ _ _ h
theorem line_checked (c a) (h : LineHeld s) : LineHeld (checkedFrame s c a) := by
  unfold checkedFrame; split
  · exact line_take _ h
  · exact line_answer _ _ _ h
  · exact line_answer _ _ _ h
theorem lineOf_rec {l : SafetyLine} (h : LineLawful l) (n : Receiver) (hs : n ≠ .stuck) (hr : n ≠ .symbols)  (r) (lo) : LineLawful { l with receiver := n, driving := none, record := r, low := lo } := 
  ⟨fun e => absurd e hs, fun _ e => (by cases e), h.3, h.4, fun e => absurd e hr, h.6⟩
theorem line_collide (h : LineHeld s) : LineHeld (collide s) := lineOf_rec h .waitHigh (by decide) (by decide) _ _
theorem line_stuck (h : LineHeld s) : LineHeld (enterStuck s) := by
  refine ⟨?_, ?_, ?_, ?_, ?_, h.calibration⟩ <;> simp [enterStuck, withLine, withBase, withSeat]
theorem line_clear (h : LineHeld s) : LineHeld (clearStuck s) := ⟨fun e => (by cases e), fun _ e => (by cases e), h.3, h.4, fun e => (by cases e), h.6⟩
theorem line_startLead (h : LineHeld s) (hd : s.base.line.driving = none) : LineHeld (startLead s) := 
  ⟨fun e => (by cases e), fun _ e => (by simp [startLead, withLine, withBase, hd] at e), h.3, h.4, fun e => (by cases e), h.6⟩
theorem line_notDriving (h : LineHeld s) (hr : s.base.line.receiver ≠ .reply) : s.base.line.driving = none := by
  cases hd : s.base.line.driving with
  | none => rfl
  | some n => exact absurd (h.driving n hd).1 hr
theorem line_line {l} (h : LineLawful l) : LineHeld (withLine s l) := h
theorem line_endGap (m) (h : LineHeld s) (hr : s.base.line.receiver = .gap) : LineHeld (endGap s m) := by
  have hd : s.base.line.driving = none := line_notDriving h (by rw [hr]; decide)
  unfold endGap; simp only
  repeat' split
  · exact lineOf_low (line_drop .gap none .waitLead (.inl rfl) h) true
  · exact ⟨fun e => (by cases e), fun _ e => (by simp [withLine, withBase, hd] at e), h.3, h.4, fun e => (by cases e), h.6⟩
  · exact line_startLead (line_drop .gap none .waitLead (.inl rfl) h) rfl
theorem line_falling (m) (h : LineHeld s) : LineHeld (fallingEdge s m) := by
  unfold fallingEdge; simp only
  split
  · rename_i e; exact line_startLead h (line_notDriving h (by rw [e]; decide))
  · rename_i e; exact line_endGap _ h e
  · split
    · exact line_startLead (line_drop .timeout none .waitLead (.inl rfl) h) rfl
    · exact lineOf_low h true
  · exact line_collide h
  · split
    · exact lineOf_low h true
    · exact line_startLead (line_clear h) rfl
  · exact lineOf_low h true
theorem line_endOfData (l) (h : LineHeld s) : LineHeld (endOfData s l) := by
  unfold endOfData; simp only
  split
  · exact line_checked _ _ h
  · exact line_drop _ _ _ (.inl rfl) h
theorem line_setrec (n : Receiver) (h : LineHeld s) (hd : s.base.line.driving = none) (hs : n ≠ .stuck) (hr : n ≠ .symbols) : LineHeld (withLine s {s.base.line with receiver := n}) :=
  ⟨fun e => absurd e hs, fun _ e => (by simp [withLine, withBase, hd] at e), h.3, h.4, fun e => absurd e hr, h.6⟩
-- endOfData passes through a state with 16 symbols; only h.calibration is needed
theorem line_answer' (c a o) (h : ∀ w ∈ s.base.line.w, 100 ≤ w ∧ w ≤ 400) : LineHeld (answerFrame s c a o) := by
  refine ⟨?_, ?_, ?_, ?_, ?_, h⟩
  · intro e; cases e
  · intro n e; cases e
  · exact Nat.zero_le _
  · exact Nat.le_of_eq (frameSymbols_length c a)
  · intro e; cases e
theorem line_endOfData' (l) (h : ∀ w ∈ s.base.line.w, 100 ≤ w ∧ w ≤ 400) : LineHeld (endOfData s l) := by
  unfold endOfData; simp only
  split
  · unfold checkedFrame; split <;> exact line_answer' _ _ _ h
  · refine ⟨?_, ?_, ?_, ?_, ?_, h⟩ <;> simp [dropFrame, withLine, withBase]
theorem line_endSymbol (m) (h : LineHeld s) : LineHeld (endSymbol s m) := by
  unfold endSymbol; simp only
  split
  · exact line_drop _ _ _ (.inr rfl) h
  · split
    · exact line_drop _ _ _ (.inl rfl) h
    · split
      · rename_i e
        exact ⟨h.1, h.2, h.3, Nat.le_of_lt e, fun _ => e, h.6⟩
      · exact line_endOfData' _ h.calibration
theorem line_rising (m) (h : LineHeld s) : LineHeld (risingEdge s m) := by
  have h0 : LineHeld (if 10000 ≤ m ∧ s.base.line.receiver ≠ .stuck then stuckByLow s m else s) := by
    split
    · unfold stuckByLow
      refine line_stuck ?_
      split
      · exact line_drop _ _ _ (.inr rfl) h
      · exact h
    · exact h
  unfold risingEdge; simp only
  generalize (if 10000 ≤ m ∧ s.base.line.receiver ≠ .stuck then stuckByLow s m else s) = s0 at h0 ⊢
  have h1 : LineHeld (withLine s0 (lineHigh s0.base.line)) := lineOf_low h0 false
  generalize withLine s0 (lineHigh s0.base.line) = s1 at h1 ⊢
  split
  · rename_i e
    have hd := line_notDriving h1 (by rw [e]; decide)
    unfold endLead; split
    · exact line_setrec _ h1 hd (by decide) (by decide)
    · split
      · exact line_setrec _ h1 hd (by decide) (by decide)
      · exact line_drop _ _ _ (.inl rfl) h1
  · rename_i e
    have hd := line_notDriving h1 (by rw [e]; decide)
    unfold endCal; split
    · rename_i hw
      refine ⟨fun e => (by cases e), fun _ e => (by simp [withLine, withBase, hd] at e), h1.3, by simp [withLine, withBase], fun _ => (by simp [withLine, withBase]), ?_⟩
      intro w hw'; simp only [withLine, withBase, Option.mem_def, Option.some.injEq] at hw'; omega
    · exact line_drop _ _ _ (.inl rfl) h1
  · exact line_endSymbol _ h1
  · rename_i e
    exact line_setrec _ h1 (line_notDriving h1 (by rw [e]; decide)) (by decide) (by decide)
  · exact h1
theorem line_edge (r m) (h : LineHeld s) : LineHeld (lineEdge s r m) := by
  unfold lineEdge
  repeat' split
  · exact line_rising _ h
  · exact line_falling _ h
  · exact h
theorem line_rest (h : LineHeld s) (hd : s.base.line.driving = none) : LineHeld (restLine s) := 
  ⟨fun e => (by cases e), fun _ e => (by simp [restLine, withLine, withBase, hd] at e), h.3, h.4, fun e => (by cases e), h.6⟩
theorem line_lineWake (h : LineHeld s) : LineHeld (lineWake s) := lineOf_low (line_drop (s := wake s) .wake none .waitHigh (.inr rfl) (line_wake h)) true
theorem line_safety (f) (hf : ∀ s, LineHeld s → LineHeld (f s)) (h : LineHeld s) (e : safetyFrame s f = .next t) : LineHeld t := by
  unfold safetyFrame at e
  repeat' split at e
  all_goals (injection e with e; subst e)
  · exact h
  · exact hf _ h
  · exact h
  · exact hf _ h
  · exact line_rest (line_lineWake h) rfl
  · exact h
theorem line_dropAt (c) (h : LineHeld s) : LineHeld (dropAtEdge c s) := by
  unfold dropAtEdge; split
  · exact line_rest (line_drop _ _ _ (.inl rfl) h) rfl
  · exact lineOf_low (line_drop _ _ _ (.inl rfl) h) true
  · exact line_rest (line_drop _ _ _ (.inl rfl) h) rfl
  · exact lineOf_low (line_drop _ _ _ (.inr rfl) h) false
  · exact line_rest (line_drop _ _ _ (.inl rfl) h) rfl
theorem line_ordinary (h : LineHeld s) : LineHeld (ordinaryFall s) := by
  unfold ordinaryFall; split
  · exact h
  · split
    · rename_i e; exact line_startLead h (line_notDriving h (by rw [e]; decide))
    · rename_i e
      have hd := line_notDriving h (by rw [e]; decide)
      exact ⟨fun e => (by cases e), fun _ e => (by simp [withLine, withBase, hd] at e), h.3, h.4, fun e => (by cases e), h.6⟩
    · exact line_collide h
    · exact lineOf_low h true
theorem line_moment (g : SafetyLine → Bool) (f) (hf : ∀ s, g s.base.line = true → LineHeld s → LineHeld (f s)) (h : LineHeld s) (e : lineMoment s g f = .next t) : LineHeld t := by
  unfold lineMoment at e
  split at e <;> (injection e with e; subst e)
  · exact hf _ (by rename_i c; exact c.2) h
  · exact h
theorem lineOf_sym {l : SafetyLine} (h : LineLawful l) (hr : l.receiver = .reply) : LineLawful (replySymbol l) := by
  unfold replySymbol
  split
  · rename_i hd
    obtain ⟨n, hn⟩ := Option.isSome_iff_exists.1 hd
    have := h.driving n hn
    exact ⟨h.1, fun _ e => (by cases e), this.2.1, h.4, h.5, h.6⟩
  · split
    · rename_i hlt
      exact ⟨h.1, fun n e => (by cases e; exact ⟨hr, hlt, rfl⟩), h.3, h.4, h.5, h.6⟩
    · exact h
theorem line_rel (h : LineHeld s) : LineHeld (collide (withLine s (releaseLine s.base.line))) := by
  refine line_collide ?_
  unfold releaseLine
  split
  · rename_i hd; obtain ⟨n, hn⟩ := Option.isSome_iff_exists.1 hd; exact lineOf_sym h (h.driving n hn).1
  · exact h

end Sys2Proof.Machine
end

