-- ==== Sys2Proof/WellFormed.lean ====
section
/-! DEFINITION. Which commands can come: every argument of a frame fits its bytes (12.1.2), every code its converter, and the
readings their ranges. The meanings hold for other operands too (notes/assumptions/39.md). -/
namespace Sys2Proof

def isByte (n : Nat) : Bool := n < 256
def isWord (n : Nat) : Bool := n < 65536

/-- The defined command codes (12.1.2). -/
def definedCodes : List Nat :=
  [0x01, 0x02, 0x03, 0x04, 0x05, 0x06, 0x07, 0x08, 0x09, 0x0A, 0x0B, 0x0C, 0x10, 0x11, 0x12, 0x13, 0x14, 0x15, 0x20, 0x21, 0x22,
   0x23, 0x24] ++
  [0x30, 0x31, 0x32, 0x40, 0x41, 0x42, 0x43, 0x44, 0x45, 0x50, 0x51, 0x60, 0x61, 0x62, 0x70, 0x78, 0x7E, 0x7F]

/-- A step record fits its four bytes (12.1.3). -/
def stepFits (st : StepRec) : Bool := isByte st.action && isByte st.value && isByte st.carried

/-- The selectors of a reading frame are bytes. -/
def readFits (f : ReadFrame) : Bool :=
  match f with
  | .axis a => isByte a
  | .bladder b => isByte b
  | .profile slot => isByte slot
  | .config item index => isByte item && isByte index
  | .patternEnd p => isByte p
  | _ => true

/-- A safety frame's command and argument (R162). -/
def frameFits (command argument : Nat) : Bool := command < 16 && isByte argument

/-- A pressure reading is a number of 10 bits (12.1.4, GALLERY_FAULT). -/
def pressureFits (code : Nat) : Bool := code < 1024

/-- A thermistor code is a number of 12 bits (12.4). -/
def converterFits (code : Nat) : Bool := code < 4096

/-- A command of the comfort link whose arguments are numbers of one and two bytes. -/
def argumentsFit (i : Instr) : Bool :=
  match i with
  | .moveAxisTo a t => isByte a && isWord t
  | .jogAxis a d ms => isByte a && isByte d && isWord ms
  | .setSupport x t => isByte x && isWord t
  | .loadPatternBegin p n => isByte p && isByte n
  | .loadPatternSteps n steps => isByte n && steps.length = 8 && steps.all stepFits
  | .startMassage p i v => isByte p && isByte i && isByte v
  | .setMassage i v => isByte i && isByte v
  | .setHeat z l => isByte z && isByte l
  | .setFan z l => isByte z && isByte l
  | .setSupplyCeiling n => isWord n
  | .setSupplyThresholds l c => isWord l && isWord c
  | .writeConfig item index v w => isByte item && isByte index && isWord v && isWord w
  | _ => true

/-- A command that carries one selector of one byte. -/
def selectorFits (i : Instr) : Bool :=
  match i with
  | .readAxis n => isByte n
  | .readBladder n => isByte n
  | .readProfile n => isByte n
  | .readConfig item index => isByte item && isByte index
  | .stopAxis n => isByte n
  | .learnAxis n => isByte n
  | .clearAxisFault n => isByte n
  | .storeProfile n => isByte n
  | .recallProfile n => isByte n
  | .eraseProfile n => isByte n
  | .lumbarAdjust n => isByte n
  | .loadPatternEnd n => isByte n
  | .setVehicleState n => isByte n
  | .unknownCommand n => isByte n && !definedCodes.contains n
  | .replyCapture f => readFits f
  | _ => true

/-- What an event carries. -/
def eventFits (i : Instr) : Bool :=
  match i with
  | .safetyFrameRefused c a => frameFits c a
  | .safetyFrameDrop (.check c a) => frameFits c a
  | .pressureReading code => pressureFits code
  | .heatSample _ code => converterFits code
  | .wakeIntervalInstant closed _ => decide closed.Nodup
  | _ => true

/-- The command can come. -/
def wellFormed (i : Instr) : Bool := argumentsFit i && selectorFits i && eventFits i

end Sys2Proof
end

