-- ==== Sys2Proof/Tests/Slice0.lean ====
section
/-! SUPPORT. The model's own tests: what WellFormed refuses, a state and operands that meet the hypotheses of each claim, and what
some commands do on small states. -/
namespace Sys2Proof.Tests
set_option Elab.async false
open Sys2Proof Sys2Proof.Machine

/-! ### WellFormed -/

def emptyStep : StepRec := { action := 0, cells := 0, value := 0, carried := 0 }

theorem test_wellFormed_accepts_boundaries :
    [Instr.readAxis 255, .readConfig 255 255, .moveAxisTo 255 65535, .jogAxis 255 255 65535, .setSupport 255 65535,
      .loadPatternBegin 255 255, .loadPatternSteps 255 (List.replicate 8 emptyStep), .startMassage 255 255 255, .setMassage 255 255,
      .setHeat 255 255, .setFan 255 255, .setSupplyCeiling 65535, .setSupplyThresholds 65535 65535, .writeConfig 255 255 65535 65535,
      .unknownCommand 0, .unknownCommand 255, .replyCapture (.config 255 255), .safetyFrameRefused 15 255,
      .safetyFrameDrop (.check 15 255), .pressureReading 1023, .heatSample .c 4095,
      .wakeIntervalInstant [.key .mem1, .key .set] 0].all wellFormed = true := by decide +kernel

theorem test_wellFormed_refuses_wide_arguments :
    [Instr.moveAxisTo 256 0, .moveAxisTo 0 65536, .jogAxis 256 0 50, .jogAxis 0 256 50, .jogAxis 0 0 65536, .setSupport 256 0,
      .setSupport 0 65536, .loadPatternBegin 256 1, .loadPatternBegin 1 256, .startMassage 256 1 1, .startMassage 1 256 1,
      .startMassage 1 1 256, .setMassage 256 1, .setMassage 1 256, .setHeat 256 0, .setHeat 0 256, .setFan 256 0, .setFan 0 256,
      .setSupplyCeiling 65536, .setSupplyThresholds 65536 0, .setSupplyThresholds 0 65536, .writeConfig 256 0 0 0,
      .writeConfig 0 256 0 0, .writeConfig 0 0 65536 0, .writeConfig 0 0 0 65536].any wellFormed = false := by decide +kernel

theorem test_wellFormed_refuses_wide_selectors :
    [Instr.readAxis 256, .readBladder 256, .readProfile 256, .readConfig 256 0, .readConfig 0 256, .stopAxis 256, .learnAxis 256,
      .clearAxisFault 256, .storeProfile 256, .recallProfile 256, .eraseProfile 256, .lumbarAdjust 256, .loadPatternEnd 256,
      .setVehicleState 256, .unknownCommand 256, .replyCapture (.axis 256), .replyCapture (.bladder 256),
      .replyCapture (.profile 256), .replyCapture (.config 256 0), .replyCapture (.config 0 256),
      .replyCapture (.patternEnd 256)].any wellFormed = false := by decide +kernel

theorem test_wellFormed_refuses_a_defined_code_as_unknown : definedCodes.any (fun n => wellFormed (.unknownCommand n)) = false := by
  decide +kernel

theorem test_wellFormed_refuses_step_frames :
    [Instr.loadPatternSteps 256 (List.replicate 8 emptyStep), .loadPatternSteps 1 (List.replicate 7 emptyStep),
      .loadPatternSteps 1 (List.replicate 9 emptyStep), .loadPatternSteps 1 (List.replicate 8 { emptyStep with action := 256 }),
      .loadPatternSteps 1 (List.replicate 8 { emptyStep with value := 256 }),
      .loadPatternSteps 1 (List.replicate 8 { emptyStep with carried := 256 })].any wellFormed = false := by decide +kernel

theorem test_wellFormed_refuses_events :
    [Instr.safetyFrameRefused 16 0, .safetyFrameRefused 0 256, .safetyFrameDrop (.check 16 0), .safetyFrameDrop (.check 0 256),
      .pressureReading 1024, .heatSample .c 4096, .wakeIntervalInstant [.key .mem1, .key .mem1] 0].any wellFormed = false := by
  decide +kernel

/-! ### No word spells a command (notes/assumptions/36.md) -/

theorem test_no_word_spells_a_command : ∀ nbits w, decodeTableWord nbits w = none ∧
    State.reset.withFetchWord nbits w = State.reset := fun _ _ => ⟨rfl, rfl⟩

/-! ### Small states -/

def seatWith (f : Seat → Seat) (s : State) : State := { s with seat := f s.seat }
def baseWith (f : Base → Base) (s : State) : State := { s with base := f s.base }
def axisWith (a : Axis) (f : AxisState → AxisState) : State → State :=
  seatWith (fun t => { t with axes := t.axes.set a (f (t.axes.get a)) })
def allocWith (f : Alloc → Alloc) : State → State := seatWith (fun t => { t with alloc := f t.alloc })
def braceWith (f : Brace → Brace) : State → State := seatWith (fun t => { t with brace := f t.brace })
def galleryWith (f : Gallery → Gallery) : State → State := seatWith (fun t => { t with gallery := f t.gallery })
def engineWith (f : Engine → Engine) : State → State := seatWith (fun t => { t with engine := f t.engine })
def zoneWith (z : Zone) (f : ZoneState → ZoneState) : State → State :=
  seatWith (fun t => { t with zones := t.zones.set z (f (t.zones.get z)) })
def contactWith (c : Contact) (f : ContactState → ContactState) : State → State :=
  seatWith (fun t => { t with scanner := putContact t.scanner c (f (contactOf t.scanner c)) })
def scannerWith (f : Scanner → Scanner) : State → State := seatWith (fun t => { t with scanner := f t.scanner })
def storeWith (f : StoreQueue → StoreQueue) : State → State := seatWith (fun t => { t with store := f t.store })
def noticesWith (n : Notices) : State → State := seatWith (fun t => { t with notices := n })
def recallWith (r : Recall) : State → State := seatWith (fun t => { t with recallCtx := some r })
def slotWith (k : Slot) (p : Profile) : State → State := seatWith (fun t => { t with profiles := t.profiles.set k p })
def linkWith (f : Link → Link) : State → State := baseWith (fun b => { b with link := f b.link })
def lineWith (f : SafetyLine → SafetyLine) : State → State := baseWith (fun b => { b with line := f b.line })
def monitorWith (f : Monitor → Monitor) : State → State := baseWith (fun b => { b with monitor := f b.monitor })
def patternsWith (f : Patterns → Patterns) : State → State := baseWith (fun b => { b with patterns := f b.patterns })
def cfgWith (f : Settings → Settings) : State → State := baseWith (fun b => { b with cfg := f b.cfg })
def powered (p : Power) : State → State := baseWith (fun b => { b with power := p })
def inMode (m : BraceMode) : State → State := braceWith (fun x => { x with mode := m })
def standing : State → State := linkWith (fun l => { l with vehicle := .parked })

/-- The part after reset, and the same with the BASIC fitment. -/
def part : State := State.reset
def basicPart : State := baseWith (fun b => { b with fit := .basic }) part

def jog (d : Dir) : Move := { kind := .jog, dir := d, expiry := none }
def linkJog (d : Dir) : Move := { kind := .jog, dir := d, expiry := some 50 }
def toward (t : Nat) (d : Dir) : Move := { kind := .toTarget t, dir := d, expiry := none }

/-- An axis with its stops learned, at 8192 between soft limits 286 and 11970 (its defaults). -/
def learned (x : AxisState) : AxisState := { x with confidence := .learned, lowStop := some 256, highStop := some 12000 }
def waits (o : Owner) (m : Move) (x : AxisState) : AxisState :=
  { x with drive := .waitGrant, owner := o, move := some m, dirty := .marked }
def drives (o : Owner) (m : Move) (x : AxisState) : AxisState :=
  { x with drive := .driving, owner := o, move := some m, bridge := drivenBridge m.dir, driveDir := m.dir, stallLeft := some 120,
           dirty := .marked }
def coasts (o : Owner) (m : Option Move) (c : Cause) (r : Option MoveResult) (x : AxisState) : AxisState :=
  { x with drive := .coasting, owner := o, move := m, bridge := .braked, coastLeft := some 60, cause := some c, coastResult := r,
           dirty := .marked }

/-- A claim of the lift axis, pending or granted. -/
def liftClaim : Claim := { consumer := .axis .lift, cls := 1, amount := 70, arrival := 0, level := 0 }
def asking (c : Claim) : State → State := allocWith (fun al => { al with pending := [c] })
def holding (c : Claim) : State → State := allocWith (fun al => { al with granted := [{ claim := c, stamp := 0 }] })

/-- The state that a command leaves. -/
def after (i : Instr) (s : State) : State :=
  match exec i s with
  | .next t => t
  | _ => s

/-- A contact pressed, in a condition. -/
def pressedIn (c : Contact) (k : Condition) : State → State :=
  contactWith c (fun x => { x with closed := true, pressed := true, cond := some k, stuckLeft := some 30000 })

/-- The part works and no brace runs. -/
abbrev Free (s : State) : Prop := Works s ∧ s.seat.brace.mode = .idle

/-! ### Witnesses: the machine and the invariants -/

def lift (f : AxisState → AxisState) : State := axisWith .lift f part

theorem witness_IdleStepMovesTimersOnly :
    part.pending = [] ∧ Works part ∧ (powered .parking part).base.power = .parking ∧ (powered .parked part).base.power = .parked ∧
    (powered .draining part).base.power = .draining ∧ (powered .off part).base.power = .off ∧ (powered .off part).pending = [] ∧
    (let s := zoneWith .c (fun z => { z with heat := 3, level3 := 3600000 }) part
     s.pending = [] ∧ Works s ∧ (zoneOf s.seat .c).heat = 3 ∧ min 3600000 ((zoneOf s.seat .c).level3 + 1) = 3600000) := by
  decide +kernel

theorem witness_StepKeepsNoticesLawful :
    NoticesLawful (noticesWith { queue := [Reset.firstNotice .shed .none 0], lost := true, captured := none } part).seat.notices ∧
    ∃ t, step (noticesWith { queue := [Reset.firstNotice .shed .none 0], lost := true, captured := none } part) = .next t :=
  ⟨⟨by decide, List.pairwise_singleton _ _, by decide, by decide⟩, _, rfl⟩

def writing : StoreQueue := { queue := [.configuration defaultSettings], inFlight := some (.crashLock none) }

theorem witness_StepKeepsStoreLawful : StoreLawful (storeWith (fun _ => writing) part).seat.store ∧
    ∃ t, step (storeWith (fun _ => writing) part) = .next t :=
  ⟨⟨by decide +kernel, by decide⟩, _, rfl⟩

def liftDrives : State := holding liftClaim (lift (drives .link (jog .up)))

theorem witness_StepKeepsClaimsAndAxesLawful : ClaimsLawful liftDrives.seat.alloc ∧ AxesLawful liftDrives.seat ∧
    ∃ t, step liftDrives = .next t :=
  ⟨⟨by decide, by decide, by decide, fun c h p => by simp [liftDrives, holding, allocWith, seatWith, lift, axisWith, part,
      State.reset, Reset.alloc, isPending] at p⟩,
    fun a => by cases a <;> exact ⟨rfl, by decide, by decide, by decide⟩, _, rfl⟩

def fullWindow : Monitor :=
  { Reset.monitor 2 with window := List.replicate 8 20000, v := 20000, belowLow := 4, belowCutoff := 4, clearLow := 4, clearCutoff := 4 }

theorem witness_StepKeepsMonitorLawful : MonitorLawful (monitorWith (fun _ => fullWindow) part).base.monitor ∧
    ∃ t, step (monitorWith (fun _ => fullWindow) part) = .next t :=
  ⟨⟨by decide, by decide, by decide, by decide⟩, _, rfl⟩

def replying : SafetyLine := { Reset.line true with receiver := .reply, replyIndex := 7, driving := some 100, w := some 400 }

theorem witness_StepKeepsLineLawful : LineLawful (lineWith (fun _ => replying) part).base.line ∧
    ∃ t, step (lineWith (fun _ => replying) part) = .next t :=
  ⟨⟨by decide, by decide, by decide, by decide, by decide, by intro w h; cases h; decide⟩, _, rfl⟩

/-! ### Witnesses: frames of the comfort link -/

theorem witness_FramesAreBegunCutAndNotTaken :
    Works part ∧ Works (linkWith (fun l => { l with begun := true }) part) ∧
    (powered .parked part).base.power = .parked ∧ isFrame .readStatus = true ∧ isFrame (.moveAxisTo 0 0) = true ∧
    (let s := contactWith (.key .mem1) (fun x => { x with closed := true }) (powered .parked part)
     contactPresent s.base.fit (.key .mem1) = true ∧ (contactOf s.seat.scanner (.key .mem1)).closed = true ∧
     (contactOf s.seat.scanner (.key .mem1)).cond ≠ some .stuck) ∧
    (powered .parked part).base.cfg.fanClaim.l0 = 0 ∧ (∀ z, holdsClaim (powered .parked part).seat.alloc (.fan z) = false) ∧
    (powered .draining part).base.power = .draining ∧ (powered .off part).base.power = .off := by
  and_intros <;> first | decide +kernel | exact fun z => by cases z <;> rfl

theorem witness_ReadsAnswer :
    Works part ∧ ReadFrame.axis 5 ≠ .notice ∧ (∀ p, ReadFrame.axis 5 ≠ .patternEnd p) ∧ part.base.link.begun = false ∧
    (replyOf (.axis 5) part.base part.seat).isSome = true ∧ (replyOf (.axis 6) part.base part.seat).isSome = false ∧
    let s := linkWith (fun l => { l with begun := true, captured := some (.status, []) }) part
    Works s ∧ s.base.link.begun = true ∧ s.base.link.captured = some (.status, []) := by
  refine ⟨by decide +kernel, by decide, fun p h => (by cases h), by decide +kernel, by decide +kernel, by decide +kernel, ?_⟩
  decide +kernel

theorem witness_RepliesHaveTheirFields : basicPart.base.fit = .basic ∧ (6 : Nat) ≤ 6 ∧ (14 : Nat) ≤ 14 ∧
    part.seat.recallCtx = none ∧ (galleryWith (fun g => { g with inFlight := none }) part).seat.gallery.inFlight = none := by
  decide +kernel

theorem witness_ConfigurationItemsAreWrittenAndRead :
    defaultSettings.ntc.length = 9 ∧ (writeItem .full defaultSettings 0x21 0 8 0).isSome = true ∧
    (writeItem .full defaultSettings 0x01 5 200 0).isSome = true ∧ (writeItem .full defaultSettings 0x10 0 0 16383).isSome = true ∧
    (writeItem .full defaultSettings 0x59 1 4079 65456).isSome = true := by decide +kernel

theorem test_ranges_of_items :
    [(0x01, 5, 10, 0), (0x01, 0, 200, 0), (0x02, 0, 1, 0), (0x03, 0, 250, 0), (0x04, 0, 40, 0), (0x09, 0, 8000, 0), (0x0D, 0, 128, 0),
      (0x0F, 0, 2, 0), (0x10, 0, 16383, 16383), (0x11, 0, 1, 0), (0x25, 3, 40, 0), (0x41, 9, 1000, 0), (0x50, 1, 10000, 0),
      (0x51, 0, 118, 0), (0x56, 1, 100, 0), (0x58, 3, 255, 0), (0x59, 9, 16, 500 - 250), (0x59, 2, 2901, 65456), (0x68, 0, 80, 0)].all
      (fun p => (writeItem .full defaultSettings p.1 p.2.1 p.2.2.1 p.2.2.2).isSome) = true ∧
    [(0x01, 6, 10, 0), (0x01, 0, 9, 0), (0x02, 0, 2, 0), (0x03, 0, 245, 0), (0x04, 0, 30, 0), (0x09, 0, 8001, 0), (0x0D, 0, 127, 0),
      (0x0F, 0, 3, 0), (0x10, 0, 2, 1), (0x10, 0, 0, 16384), (0x11, 0, 2, 0), (0x12, 0, 0, 0), (0x25, 4, 40, 0), (0x25, 0, 41, 0),
      (0x41, 0, 120, 0), (0x50, 2, 10000, 0), (0x51, 0, 119, 0), (0x58, 4, 0, 0), (0x59, 0, 3900, 0), (0x59, 10, 16, 250),
      (0x59, 2, 2900, 65516), (0x59, 2, 3900, 65516), (0x59, 2, 3500, 31), (0x59, 1, 4080, 65456), (0x68, 0, 30, 0)].any
      (fun p => (writeItem .full defaultSettings p.1 p.2.1 p.2.2.1 p.2.2.2).isSome) = false := by decide +kernel

theorem witness_ConfigurationItemsAreWrittenAndRead_ranges :
    (∃ d, writeItem .full defaultSettings 0x25 2 9 0 = some d ∧ readItem .full d 0x25 1 = some (4, 0) ∧ d.ntc = defaultSettings.ntc) ∧
    present .full .extend = true ∧ 5 = axisCode .extend ∧ defaultSettings.ntc[9]? = none ∧ defaultSettings.ntc[0]? = some ⟨3900, -80⟩ :=
  ⟨⟨_, rfl, by decide +kernel, rfl⟩, by decide, by decide, by decide, by decide⟩

theorem witness_ReplyCaptureHoldsTheReply : Works part := by decide +kernel

def oneNotice : Notice := Reset.firstNotice .shed .none 0

/-- Sixteen waiting notices, none of them of kind SHED. -/
def fullNotices : Notices :=
  { queue := Reset.defaultedNotices ++ [Reset.firstNotice .supplyState .none 0], lost := false, captured := none }

theorem witness_NoticesCoalesceAndAreRead :
    [oneNotice] = [] ++ oneNotice :: [] ∧ oneNotice.kind = .shed ∧ oneNotice.subject = .none ∧
    (∀ y ∈ ([] : List Notice), ¬ (y.kind = .shed ∧ y.subject = .none)) ∧
    (∀ y ∈ Reset.defaultedNotices, ¬ (y.kind = .shed ∧ y.subject = .none)) ∧ Reset.defaultedNotices.length = 15 ∧
    (∀ y ∈ fullNotices.queue, ¬ (y.kind = .shed ∧ y.subject = .none)) ∧ 16 ≤ fullNotices.queue.length := by decide +kernel

theorem witness_NoticesAreRead :
    (let s := noticesWith { queue := [oneNotice], lost := true, captured := none } part
     Works s ∧ NoticesLawful s.seat.notices ∧ s.base.link.begun = false ∧ s.seat.notices.queue = oneNotice :: []) ∧
    (let s := noticesWith Reset.notices part
     Works s ∧ NoticesLawful s.seat.notices ∧ s.base.link.begun = false ∧ s.seat.notices.queue = []) ∧
    ∀ again : Bool,
      let c : NoticeCapture := { kind := oneNotice.kind, subject := oneNotice.subject, count := 1, coalesced := again }
      let s := linkWith (fun l => { l with begun := true, captured := some (.notice, []) })
        (noticesWith { queue := [oneNotice], lost := true, captured := some c } part)
      Works s ∧ NoticesLawful s.seat.notices ∧ s.seat.notices.queue = oneNotice :: [] ∧ s.base.link.begun = true ∧
      s.base.link.captured = some (.notice, []) ∧ s.seat.notices.captured = some c :=
  ⟨⟨by decide +kernel, ⟨by decide, List.pairwise_singleton _ _, by decide, by decide⟩, rfl, rfl⟩,
    ⟨by decide +kernel, ⟨by decide, .nil, by decide, by decide⟩, rfl, rfl⟩,
    fun again => by
      cases again <;> exact ⟨rfl, ⟨by decide, List.pairwise_singleton _ _, by decide, by decide⟩, rfl, rfl, rfl, rfl⟩⟩

theorem witness_RestrictedModeRefuses :
    commandClass .stopAll = some .motion ∧ commandClass (.setHeat 0 0) = some .plain ∧
    commandClass (.clearAxisFault 0) = some .clearFault ∧ commandClass .park = some .lockTaken ∧
    (inMode .bracing part).seat.brace.mode = .bracing ∧ Works (inMode .bracing part) ∧
    (inMode .braced part).seat.brace.mode = .braced ∧ Works (inMode .braced part) ∧
    (inMode .locked part).seat.brace.mode = .locked ∧ Works (inMode .locked part) ∧
    (inMode .releasing part).seat.brace.mode = .releasing ∧ Works (inMode .releasing part) ∧
    (inMode .locked part).base.link.begun = false := by decide +kernel

/-! ### Witnesses: motion -/

/-- A context of a recall of P1 whose lift axis has a result. -/
def recallOf (v : RecallResult) : Recall :=
  { slot := some .p1, source := .link, deadMan := none, phase := .wave1, outcome := none,
    target := (PerAxis.all none).set .lift (some 9000), wave := (PerAxis.all none).set .lift (some .one),
    result := (PerAxis.all .none).set .lift v, left := 15000 }

/-- A recall has the lift axis reserved. -/
def reservedLift : State := recallWith (recallOf .waiting) (lift learned)

theorem witness_MoveAxisToAnswers_range :
    Free part ∧ Free basicPart ∧ (∀ a, (6 : Nat) ≠ axisCode a) ∧ (∀ a, present basicPart.base.fit a = true → 4 ≠ axisCode a) ∧
    (5 : Nat) = axisCode .extend ∧ present part.base.fit .extend = true := by
  and_intros <;> first | decide +kernel | (intro a; cases a <;> decide +kernel)

theorem witness_MoveAxisToAnswers :
    present part.base.fit .lift = true ∧ (1 : Nat) = axisCode .lift ∧
    Free reservedLift ∧ reserved reservedLift.seat .lift = true ∧
    Free part ∧ reserved part.seat .lift = false ∧ (axisOf part.seat .lift).confidence = .unlearned ∧
    (let s := lift (fun x => { learned x with drive := .fault })
     Free s ∧ reserved s.seat .lift = false ∧ (axisOf s.seat .lift).confidence ≠ .unlearned ∧ (axisOf s.seat .lift).drive = .fault) ∧
    ∀ o, (let s := lift (fun x => drives o (jog .up) (learned x))
     Free s ∧ reserved s.seat .lift = false ∧ (axisOf s.seat .lift).confidence ≠ .unlearned ∧
     (axisOf s.seat .lift).drive ≠ .fault ∧ ownerMet .idle (axisOf s.seat .lift) = o) := by
  and_intros <;> first | decide +kernel | (intro o; cases o <;> decide +kernel)

theorem witness_JogAxisAnswers :
    Free part ∧ Free reservedLift ∧ (∀ a, (6 : Nat) ≠ axisCode a) ∧ (1 : Nat) = axisCode .lift ∧ present part.base.fit .lift = true ∧
    (∀ d, 0 = dirCode d ↔ d = .down) ∧ (∀ d, 1 = dirCode d ↔ d = .up) ∧ (50 ≤ 50 ∧ 500 ≤ (500 : Nat)) ∧
    reserved reservedLift.seat .lift = true ∧ reserved part.seat .lift = false ∧
    (axisOf (lift (fun x => { x with drive := .fault })).seat .lift).drive = .fault ∧
    (∀ o, (let s := lift (drives o (jog .up))
     Free s ∧ reserved s.seat .lift = false ∧ (axisOf s.seat .lift).drive ≠ .fault ∧ ownerMet .idle (axisOf s.seat .lift) = o)) ∧
    (∀ d, (let s := lift (fun x => { coasts .link none .request none x with pending := some { move := linkJog d, owner := .link } })
     Free s ∧ (axisOf s.seat .lift).drive ≠ .fault ∧ (linkJog d).kind = .jog ∧ (linkJog d).dir = d ∧
     (axisOf s.seat .lift).pending = some { move := linkJog d, owner := .link })) ∧
    (let s := lift (drives .link (linkJog .up))
     Free s ∧ (axisOf s.seat .lift).pending = none ∧ (axisOf s.seat .lift).owner = .link ∧
     (axisOf s.seat .lift).move = some (linkJog .up) ∧ (linkJog .up).dir ≠ .down ∧ (axisOf s.seat .lift).drive ≠ .coasting) ∧
    (let s := lift (coasts .link (some (linkJog .up)) .stall (some .endStop))
     Free s ∧ (axisOf s.seat .lift).pending = none ∧ (axisOf s.seat .lift).owner = .link ∧
     (axisOf s.seat .lift).move = some (linkJog .up) ∧ (axisOf s.seat .lift).drive = .coasting ∧
     (axisOf s.seat .lift).cause ≠ some .shed) ∧
    (let s := lift (coasts .link none .shed none)
     Free s ∧ (axisOf s.seat .lift).pending = none ∧ (axisOf s.seat .lift).owner = .link ∧ (axisOf s.seat .lift).move = none) := by
  and_intros <;> first | decide +kernel | (intro d; cases d <;> decide +kernel)

theorem witness_StopCommandsEndMoves :
    Free part ∧ (∀ a, (6 : Nat) ≠ axisCode a) ∧ (1 : Nat) = axisCode .lift ∧ present part.base.fit .lift = true ∧
    part.seat.recallCtx = none ∧ (∀ a, ownerMet .idle (axisOf part.seat a) = .none) ∧
    (∀ o, (let s := lift (drives o (jog .up))
     Free s ∧ s.seat.recallCtx = none ∧ ownerMet .idle (axisOf s.seat .lift) = o)) ∧
    (let s := recallWith (recallOf .running) (lift (drives .recall (toward 9000 .up)))
     Free s ∧ s.seat.recallCtx = some (recallOf .running) ∧ ownerMet .idle (axisOf s.seat .lift) = .recall ∧
     (recallOf .running).result.get .lift = .running) ∧
    (let s := reservedLift
     Free s ∧ s.seat.recallCtx = some (recallOf .waiting) ∧ ownerMet .idle (axisOf s.seat .lift) = .none ∧
     (recallOf .waiting).result.get .lift = .waiting) ∧
    (let s := recallWith { recallOf .running with result := ((PerAxis.all .none).set .lift .running).set .slide .running }
       (axisWith .slide (drives .recall (toward 9000 .up)) (axisWith .tilt (drives .learn (jog .down))
         (lift (drives .recall (toward 9000 .up)))))
     Free s ∧ s.seat.recallCtx.isSome = true ∧ ownerMet .idle (axisOf s.seat .slide) = .recall ∧
     ownerMet .idle (axisOf s.seat .tilt) = .learn) := by
  and_intros <;> first | decide +kernel | (intro o; cases o <;> decide +kernel)

theorem witness_LearnAndClearFaultAnswer :
    Free part ∧ (∀ a, (6 : Nat) ≠ axisCode a) ∧ (1 : Nat) = axisCode .lift ∧ present part.base.fit .lift = true ∧
    part.base.link.vehicle = .moving ∧ Works (inMode .locked part) ∧ (inMode .locked part).seat.brace.mode = .locked ∧
    (Free (standing reservedLift) ∧ (standing reservedLift).base.link.vehicle = .parked ∧
     reserved (standing reservedLift).seat .lift = true) ∧
    (let s := standing (lift (fun x => { x with drive := .fault }))
     Free s ∧ s.base.link.vehicle = .parked ∧ reserved s.seat .lift = false ∧ (axisOf s.seat .lift).drive = .fault) ∧
    (let s := standing (lift (drives .link (jog .up)))
     Free s ∧ s.base.link.vehicle = .parked ∧ reserved s.seat .lift = false ∧ (axisOf s.seat .lift).drive ≠ .fault ∧
     (axisOf s.seat .lift).owner ≠ .none) ∧
    (Free (standing part) ∧ (standing part).base.link.vehicle = .parked ∧ reserved (standing part).seat .lift = false ∧
     (axisOf (standing part).seat .lift).drive ≠ .fault ∧ (axisOf (standing part).seat .lift).owner = .none) := by
  and_intros <;> first | decide +kernel | (intro o; cases o <;> decide +kernel)

theorem witness_MovesArePrepared :
    let cf := axisDefaults.lift
    let x := axisOf (lift learned).seat .lift
    x.lowStop = some 256 ∧ x.highStop = some 12000 ∧ max (256 + cf.softMargin) (12000 - cf.softMargin) = 11970 ∧
    (toTargetMove cf x 285).kind = .toTarget 286 ∧ (toTargetMove cf x 11971).kind = .toTarget 11970 ∧
    (toTargetMove cf x 11970).kind = .toTarget 11970 ∧ x.confidence = .learned ∧ x.position = 8192 ∧ cf.onTarget = 3 ∧
    (8189 + cf.onTarget = x.position ∧ x.position + cf.onTarget = 8195) ∧ (8188 + cf.onTarget < x.position) ∧
    (axisOf part.seat .lift).lowStop = none ∧ (axisOf part.seat .lift).confidence ≠ .learned ∧ (jog .up).kind = .jog := by
  decide +kernel

theorem witness_ClaimsAreRaisedChangedAndReleased :
    let other : Claim := { liftClaim with consumer := .compressor, cls := 2 }
    holdsClaim part.seat.alloc (.axis .lift) = false ∧ holdsClaim (holding liftClaim part).seat.alloc (.axis .lift) = true ∧
    (allocWith (fun al => { al with pending := [other, liftClaim] }) part).seat.alloc.pending = [other] ++ liftClaim :: [] ∧
    liftClaim.consumer = .axis .lift ∧ liftClaim.cls ≠ 0 ∧ (∀ p ∈ [other] ++ [], p.consumer ≠ .axis .lift) ∧
    (∀ g ∈ part.seat.alloc.granted, g.claim.consumer ≠ .axis .lift) ∧
    (∀ p ∈ (holding liftClaim part).seat.alloc.pending, p.consumer ≠ .axis .lift) ∧
    (holding liftClaim part).seat.alloc.granted.find? (fun h => h.claim.consumer = .axis .lift) =
      some { claim := liftClaim, stamp := 0 } := by
  decide +kernel

theorem witness_MoveTakenFromIdle :
    (axisOf part.seat .lift).drive = .idle ∧ holdsClaim part.seat.alloc (.axis .lift) = false ∧
    (axisOf part.seat .lift).learn ≠ .settle ∧ (axisOf part.seat .lift).dirty = .notMarked ∧
    endsAtOnce axisDefaults.lift (axisOf part.seat .lift) (jog .up) = none ∧
    endsAtOnce axisDefaults.lift (axisOf part.seat .lift) (toward 8195 .up) = some .reached ∧
    endsAtOnce axisDefaults.lift (axisOf (lift (fun x => { learned x with position := 11970 })).seat .lift) (jog .up) = some .endStop ∧
    (axisOf (lift (fun x => { x with dirty := .marked })).seat .lift).dirty = .marked := by decide +kernel

theorem witness_MoveTakenWhileDriving :
    let g : Grant := { claim := liftClaim, stamp := 0 }
    let s := holding liftClaim (lift (drives .link (jog .up)))
    let t := holding { liftClaim with cls := 0 } (lift (drives .brace (jog .up)))
    (axisOf s.seat .lift).drive = .driving ∧ (axisOf s.seat .lift).pending = none ∧ (axisOf s.seat .lift).dirty ≠ .notMarked ∧
    (axisOf s.seat .lift).learn = .none ∧ s.seat.alloc.granted.find? (fun h => h.claim.consumer = .axis .lift) = some g ∧
    isPending s.seat.alloc (.axis .lift) = false ∧ (axisOf s.seat .lift).driveDir = (jog .up).dir ∧
    (jog .down).dir ≠ (axisOf s.seat .lift).driveDir ∧ g.claim.cls = 1 ∧ (axisOf t.seat .lift).drive = .driving ∧
    t.seat.alloc.granted.find? (fun h => h.claim.consumer = .axis .lift) = some { claim := { liftClaim with cls := 0 }, stamp := 0 } := by
  decide +kernel

theorem witness_MoveTakenWhileWaitingOrCoasting :
    let brace : Claim := { liftClaim with cls := 0 }
    let pends (y : AxisState) : AxisState :=
      { coasts .link (some (jog .up)) .request none y with pending := some { move := jog .down, owner := .link } }
    (let s := asking liftClaim (lift (waits .link (jog .up)))
     (axisOf s.seat .lift).drive = .waitGrant ∧ (axisOf s.seat .lift).pending = none ∧ (axisOf s.seat .lift).dirty ≠ .notMarked ∧
     (axisOf s.seat .lift).learn = .none ∧ (axisOf s.seat .lift).owner ≠ .brace ∧
     endsAtOnce axisDefaults.lift (axisOf s.seat .lift) (jog .down) = none ∧ isGranted s.seat.alloc (.axis .lift) = false ∧
     isPending s.seat.alloc (.axis .lift) = true ∧
     s.seat.alloc.pending.find? (fun c => c.consumer = .axis .lift) = some liftClaim ∧ liftClaim.cls = 1 ∧ liftClaim.cls ≠ 0) ∧
    (asking brace (lift (waits .link (jog .up)))).seat.alloc.pending.find? (fun c => c.consumer = .axis .lift) = some brace ∧
    (let s := lift (fun x => { waits .link (jog .up) x with dirty := .queued })
     (axisOf s.seat .lift).drive = .waitGrant ∧ isPending s.seat.alloc (.axis .lift) = false ∧
     holdsClaim s.seat.alloc (.axis .lift) = false ∧ (axisOf s.seat .lift).dirty = .queued ∧ Owner.link ≠ .brace) ∧
    (let s := lift (coasts .link (some (jog .up)) .stall (some .endStop))
     (axisOf s.seat .lift).drive = .coasting ∧ holdsClaim s.seat.alloc (.axis .lift) = false ∧
     (axisOf s.seat .lift).cause ≠ some .shed ∧ (axisOf s.seat .lift).pending = none) ∧
    (let s := holding liftClaim (lift pends)
     (axisOf s.seat .lift).drive = .coasting ∧ (axisOf s.seat .lift).pending.isSome = true ∧
     isPending s.seat.alloc (.axis .lift) = false ∧
     s.seat.alloc.granted.find? (fun h => h.claim.consumer = .axis .lift) = some { claim := liftClaim, stamp := 0 }) ∧
    (let s := asking liftClaim (lift (fun x => { coasts .link (some (jog .up)) .shed none x with afterShed := true }))
     (axisOf s.seat .lift).drive = .coasting ∧ isGranted s.seat.alloc (.axis .lift) = false ∧
     s.seat.alloc.pending.find? (fun c => c.consumer = .axis .lift) = some liftClaim ∧
     (axisOf s.seat .lift).pending = none ∧ (axisOf s.seat .lift).cause = some .shed ∧
     (axisOf s.seat .lift).move.isSome = true) ∧
    (axisOf (lift (coasts .link none .shed none)).seat .lift).move = none := by decide +kernel

theorem witness_MovesEndEarly :
    (axisOf part.seat .lift).drive = .idle ∧ (axisOf part.seat .lift).learn = .none ∧
    (axisOf (lift (waits .link (jog .up))).seat .lift).drive = .waitGrant ∧
    (axisOf (lift (drives .link (jog .up))).seat .lift).drive = .driving ∧
    (axisOf (lift (drives .link (jog .up))).seat .lift).pending = none ∧
    (let x := axisOf (lift (coasts .link (some (jog .up)) .stall (some .endStop))).seat .lift
     x.drive = .coasting ∧ x.pending = none ∧ x.cause ≠ some .shed ∧ x.learn = .none) ∧
    (let x := axisOf (lift (coasts .link (some (jog .up)) .shed none)).seat .lift
     x.drive = .coasting ∧ x.pending = none ∧ x.cause = some .shed ∧ x.move.isSome = true ∧ x.learn = .none) ∧
    (let p : Pending := { move := jog .down, owner := .link }
     let x := axisOf (lift (fun x => { coasts .link (some (jog .up)) .request none x with pending := some p })).seat .lift
     x.drive = .coasting ∧ x.pending = some p ∧ x.learn = .none) := by decide +kernel

theorem witness_GrantsDriveAndShedsCoast :
    (let x := axisOf (lift (waits .link (jog .up))).seat .lift
     x.drive = .waitGrant ∧ x.move = some (jog .up) ∧ atSoftLimit axisDefaults.lift x (jog .up).dir = false) ∧
    (let x := axisOf (lift (fun y => waits .link (jog .up) { learned y with position := 11970 })).seat .lift
     x.drive = .waitGrant ∧ x.move = some (jog .up) ∧ atSoftLimit axisDefaults.lift x (jog .up).dir = true) ∧
    (axisOf part.seat .lift).drive ≠ .waitGrant ∧ (axisOf part.seat .lift).drive ≠ .driving ∧
    (axisOf part.seat .lift).drive ≠ .coasting ∧ (axisOf (lift (drives .link (jog .up))).seat .lift).drive = .driving ∧
    (axisOf (lift (coasts .link none .stall none)).seat .lift).drive = .coasting := by decide +kernel

theorem witness_PulsesCountAndRejectedLowsDisturb :
    Works part ∧ present part.base.fit .lift = true ∧ (axisOf part.seat .lift).drive ≠ .driving ∧
    (axisOf part.seat .lift).drive ≠ .coasting ∧
    (axisOf (lift (coasts .link none .stall none)).seat .lift).drive = .coasting ∧
    (let x := axisOf (lift (fun y => drives .link (toward 8199 .up) (learned y))).seat .lift
     x.drive = .driving ∧ x.pending = none ∧ x.move = some (toward 8199 .up) ∧ (8199 : Int) - (x.position + 1) ≤ x.leadUp) ∧
    (let x := axisOf (lift (fun y => drives .link (toward 8200 .up) (learned y))).seat .lift
     x.move = some (toward 8200 .up) ∧ ¬ ((8200 : Int) - (x.position + 1) ≤ x.leadUp) ∧
     atSoftLimit axisDefaults.lift { x with position := x.position + 1 } .up = false) ∧
    (let x := axisOf (lift (fun y => { drives .link (jog .up) (learned y) with position := 11969 })).seat .lift
     x.drive = .driving ∧ x.move = some (jog .up) ∧
     atSoftLimit axisDefaults.lift { x with position := x.position + 1 } .up = true) ∧
    (let x := axisOf (lift (fun y => { drives .link (jog .up) (learned y) with position := 16383 })).seat .lift
     x.driveDir = .up ∧ 16383 ≤ x.position) ∧
    (let x := axisOf (lift (fun y => { learned y with disturbance := 8 })).seat .lift
     x.disturbance = axisDefaults.lift.disturbanceLimit ∧ axisDefaults.lift.disturbanceLimit < 255 ∧ x.confidence = .learned) ∧
    (axisOf part.seat .lift).disturbance ≠ axisDefaults.lift.disturbanceLimit := by decide +kernel

/-- The lift's front end, with LOW accepted after so many µs. -/
def lowFor (micros : Nat) : State :=
  baseWith (fun b => { b with
    hall := b.hall.set .lift { accepted := .low, runHigh := true, runLength := 2, lowMicros := micros, spacing := 32 } }) part

theorem witness_HallSamplesAcceptLevels :
    Works part ∧ present part.base.fit .lift = true ∧ (part.base.hall.get .lift).runLength + 1 < 3 ∧
    (let h := (lowFor 168).base.hall.get .lift
     h.accepted = .low ∧ h.runHigh = true ∧ 3 ≤ h.runLength + 1 ∧ axisDefaults.lift.minLowWidth ≤ h.lowMicros + h.spacing) ∧
    (let h := (lowFor 167).base.hall.get .lift
     h.accepted = .low ∧ h.runHigh = true ∧ 3 ≤ h.runLength + 1 ∧ h.lowMicros + h.spacing < axisDefaults.lift.minLowWidth) := by
  decide +kernel

theorem witness_StallsAreClassified :
    let drive (d : Dir) (p : Nat) (c : Confidence) (l : LearnPhase) : AxisState :=
      axisOf (lift (fun y => { drives .link (jog d) (learned y) with position := p, confidence := c, learn := l })).seat .lift
    Works part ∧ present part.base.fit .lift = true ∧
    (∀ d p c l, (drive d p c l).drive = .driving ∧ (drive d p c l).stallLeft.isSome = true ∧ (drive d p c l).pending = none ∧
      (drive d p c l).position = p ∧ (drive d p c l).confidence = c ∧ (drive d p c l).learn = l ∧ (drive d p c l).driveDir = d ∧
      (drive d p c l).lowStop = some 256 ∧ (drive d p c l).highStop = some 12000) ∧
    12000 ≤ 11976 + axisDefaults.lift.endWindow ∧ 11975 + axisDefaults.lift.endWindow < 12000 ∧
    280 ≤ 256 + axisDefaults.lift.endWindow ∧ 256 + axisDefaults.lift.endWindow < 281 ∧
    656 ≤ 256 + axisDefaults.lift.suspectWindow ∧ 256 + axisDefaults.lift.suspectWindow < 657 ∧
    256 + axisDefaults.lift.minTravel ≤ 1056 ∧ 1055 < 256 + axisDefaults.lift.minTravel :=
  ⟨by decide +kernel, by decide +kernel, fun d _ _ _ => by cases d <;> exact ⟨rfl, rfl, rfl, rfl, rfl, rfl, rfl, rfl, rfl⟩, by decide,
    by decide, by decide, by decide, by decide, by decide, by decide, by decide⟩

theorem witness_CoastsEndInIdle :
    Works part ∧ present part.base.fit .lift = true ∧
    (∀ d, (let x := axisOf (lift (coasts .link (some (toward 8195 d)) .lead none)).seat .lift
     x.drive = .coasting ∧ x.pending = none ∧ x.learn = .none ∧ x.cause = some .lead ∧
     x.move = some { kind := .toTarget 8195, dir := d, expiry := none } ∧ x.coastResult = none ∧
     x.position ≤ 8195 + axisDefaults.lift.onTarget ∧ 8195 ≤ x.position + axisDefaults.lift.onTarget)) ∧
    (let x := axisOf (lift (coasts .link (some (toward 8196 .up)) .lead none)).seat .lift
     x.move = some { kind := .toTarget 8196, dir := .up, expiry := none } ∧ ¬ 8196 ≤ x.position + axisDefaults.lift.onTarget) ∧
    (let x := axisOf (lift (coasts .link (some (jog .up)) .limit (some .endStop))).seat .lift
     x.drive = .coasting ∧ x.pending = none ∧ x.learn = .none ∧ x.cause = some .limit ∧ x.coastResult = some .endStop) ∧
    (let x := axisOf (lift (coasts .link (some (toward 8195 .up)) .lead (some .aborted))).seat .lift
     x.drive = .coasting ∧ x.pending = none ∧ x.learn = .none ∧ x.cause = some .lead ∧ x.coastResult = some .aborted) ∧
    (let x := axisOf (lift (coasts .link none .shed (some .aborted))).seat .lift
     x.drive = .coasting ∧ x.pending = none ∧ x.learn = .none ∧ x.cause = some .shed ∧ x.move = none ∧
     x.coastResult = some .aborted) := by
  and_intros <;> first | decide +kernel | (intro d; cases d <;> decide +kernel)

theorem witness_CoastsStartTheNextMove :
    let reversing (y : AxisState) : AxisState :=
      { coasts .link (some (jog .up)) .request none y with pending := some { move := jog .down, owner := .link } }
    Works part ∧ present part.base.fit .lift = true ∧
    (let s := holding liftClaim (lift reversing)
     let x := axisOf s.seat .lift
     x.drive = .coasting ∧ x.learn = .none ∧ x.pending = some { move := jog .down, owner := .link } ∧ x.cause = some .request ∧
     endsAtOnce axisDefaults.lift x (jog .down) = none ∧ isGranted s.seat.alloc (.axis .lift) = true) ∧
    (let s := asking liftClaim (lift (coasts .link (some (jog .up)) .shed none))
     let x := axisOf s.seat .lift
     x.drive = .coasting ∧ x.learn = .none ∧ x.pending = none ∧ x.move = some (jog .up) ∧ x.owner = .link ∧ x.cause = some .shed ∧
     x.coastResult = none ∧ endsAtOnce axisDefaults.lift x (jog .up) = none ∧ isGranted s.seat.alloc (.axis .lift) = false ∧
     isPending s.seat.alloc (.axis .lift) = true) ∧
    (let s := lift reversing
     let x := axisOf s.seat .lift
     x.drive = .coasting ∧ x.pending = some { move := jog .down, owner := .link } ∧
     holdsClaim s.seat.alloc (.axis .lift) = false ∧ x.dirty ≠ .queued) ∧
    (let x := axisOf (lift (fun y => { reversing y with dirty := .queued })).seat .lift
     x.pending = some { move := jog .down, owner := .link } ∧ x.dirty = .queued ∧ Owner.link ≠ .brace) ∧
    (let x := axisOf (lift (fun y => { reversing y with cause := some .lead, move := some (toward 8190 .up) })).seat .lift
     x.cause = some .lead ∧ x.move = some { kind := .toTarget 8190, dir := .up, expiry := none } ∧
     x.pending = some { move := jog .down, owner := .link } ∧ (2 : Int) ≤ (x.position : Int) - 8190) ∧
    (let x := axisOf (lift (fun y => { learned (reversing y) with cause := some .limit, position := 286 })).seat .lift
     x.cause ≠ some .lead ∧ endsAtOnce axisDefaults.lift x (jog .down) = some .endStop) := by decide +kernel

theorem witness_LearnRunsGoThroughTheirPhases :
    let run (p : LearnPhase) (m : Move) (c : Cause) (r : Option MoveResult) (y : AxisState) : AxisState :=
      { coasts .learn (some m) c r y with learn := p, lowStop := some 256, highStop := some 12000 }
    Works part ∧ present part.base.fit .lift = true ∧ holdsClaim part.seat.alloc (.axis .lift) = false ∧
    (let x := axisOf (lift (run .low (jog .down) .stall (some .endStop))).seat .lift
     x.drive = .coasting ∧ x.pending = none ∧ x.owner = .learn ∧ x.confidence = .unlearned ∧ x.dirty = .marked ∧ x.learn = .low ∧
     x.cause = some .stall ∧ x.coastResult = some .endStop) ∧
    (let x := axisOf (lift (fun y => { run .high (jog .up) .stall (some .endStop) y with position := 12000 })).seat .lift
     x.learn = .high ∧ x.cause = some .stall ∧ x.coastResult = some .endStop ∧ x.lowStop = some 256 ∧ x.highStop = some 12000 ∧
     max (256 + axisDefaults.lift.softMargin) (12000 - axisDefaults.lift.softMargin) + axisDefaults.lift.onTarget < x.position) ∧
    (let x := axisOf (lift (fun y => { run .settle (toward 11970 .down) .lead none y with position := 11971 })).seat .lift
     x.learn = .settle ∧ x.cause = some .lead ∧ x.coastResult = none ∧
     x.move = some { kind := .toTarget 11970, dir := .down, expiry := none } ∧ x.highStop = some 12000 ∧ 11970 < x.position + 2 ∧
     x.position < 11970 + 2) := by decide +kernel

theorem witness_OvercurrentFaultsTheAxis :
    Works part ∧ present part.base.fit .lift = true ∧
    (let x := axisOf (lift (fun y => { drives .link (jog .up) y with blankLeft := some 10 })).seat .lift
     x.drive = .driving ∧ x.blankLeft.isSome = true) ∧
    (axisOf part.seat .lift).comparator ≠ true ∧
    (let x := axisOf (lift (drives .link (jog .up))).seat .lift
     x.drive = .driving ∧ x.blankLeft = none ∧ x.learn = .none) ∧
    (let x := axisOf (lift (fun y => { drives .learn (jog .up) y with learn := .high })).seat .lift
     x.drive = .driving ∧ x.blankLeft = none ∧ x.learn ≠ .none) := by decide +kernel

theorem witness_JogExpiryAndStaggerWindow :
    Works part ∧ present part.base.fit .lift = true ∧
    (let x := axisOf (lift (drives .link (linkJog .up))).seat .lift
     x.pending = none ∧ x.owner = .link ∧ x.move = some (linkJog .up) ∧ (linkJog .up).expiry.isSome = true) ∧
    (let p : Pending := { move := linkJog .down, owner := .link }
     let x := axisOf (lift (fun y => { coasts .link none .request none y with pending := some p })).seat .lift
     x.pending = some p ∧ p.owner = .link ∧ p.move.expiry.isSome = true) ∧
    (let w : Stagger := { length := 80, braceLength := 20, left := 0, bracePassed := false }
     (allocWith (fun al => { al with stagger := some w }) part).seat.alloc.stagger = some w ∧ w.bracePassed = false ∧
     w.braceLength < w.length) := by decide +kernel

/-! ### Witnesses: the supply -/

theorem witness_PassesKeepTheGrantsLawful_lawful :
    ClaimsLawful (holding liftClaim part).seat.alloc ∧ ((holding liftClaim part).seat.alloc.granted.map Grant.stamp).Nodup :=
  ⟨⟨by decide +kernel, by decide +kernel, by decide +kernel, fun c _ h => by simp [holding, allocWith, seatWith, part, State.reset,
    Reset.alloc, isPending] at h⟩, by decide +kernel⟩

theorem witness_PassesKeepTheGrantsLawful :
    (let s := holding liftClaim part
     (runTask .pass s.base s.seat).1.alloc.ceiling = 120 ∧ s.seat.brace.mode = .idle ∧
     (s.seat.alloc.granted.map (fun g => g.claim.amount)).sum ≤ 120) ∧
    (let s := holding { liftClaim with amount := 121 } part
     (runTask .pass s.base s.seat).1.alloc.ceiling = 120 ∧ 120 < (s.seat.alloc.granted.map (fun g => g.claim.amount)).sum ∧
     ∀ h ∈ s.seat.alloc.granted, h.claim.cls ≤ 1 ∧ h.stamp ≤ 0) ∧
    (let s := inMode .braced (holding { liftClaim with consumer := .fan .c, cls := 3 } part)
     s.seat.brace.mode = .braced ∧ ∀ g ∈ s.seat.alloc.granted, ¬ g.claim.cls ≤ 1) ∧
    (let s := monitorWith (fun m => { m with state := .cutoff }) (holding { liftClaim with amount := 0 } part)
     s.base.monitor.state = .cutoff ∧ s.seat.alloc.granted ≠ [] ∧
     (s.seat.alloc.granted.map (fun g => g.claim.amount)).sum ≤ s.seat.alloc.ceiling) := by decide +kernel

theorem witness_PassesKeepTheGrantsLawful_deferral :
    (∀ x y, Task.share x y ∉ [Task.serve]) ∧ passInProgress ([Task.serve] ++ .share 1 2 :: [.galleryIdle]) = true ∧
    passInProgress [Task.serve] = false := by
  refine ⟨fun x y h => ?_, by decide +kernel, by decide +kernel⟩
  simp at h

theorem witness_WalkGrantsInOrder :
    (let s := asking liftClaim part
     s.seat.alloc.pending = [] ++ liftClaim :: [] ∧ liftClaim.amount ≤ s.seat.alloc.ceiling ∧ s.seat.alloc.stagger = none ∧
     s.seat.brace.mode = .idle) ∧
    (let s := asking { liftClaim with amount := 121 } part
     s.seat.alloc.ceiling < 121) ∧
    (let w : Stagger := { length := 80, braceLength := 20, left := 80, bracePassed := false }
     let s := allocWith (fun al => { al with stagger := some w }) (asking liftClaim part)
     s.seat.alloc.stagger = some w ∧ liftClaim.cls ≠ 0) ∧
    (let s := inMode .bracing (asking { liftClaim with cls := 2 } part)
     s.seat.brace.mode = .bracing ∧ ∀ p ∈ s.seat.alloc.pending, ¬ p.cls ≤ 1) ∧
    part.base.monitor.state ≠ .cutoff ∧
    (monitorWith (fun m => { m with state := .cutoff }) (asking { liftClaim with amount := 0 } part)).base.monitor.state = .cutoff := by
  decide +kernel

theorem witness_HeatersShareWhatIsLeft :
    (let s := zoneWith .c (fun z => { z with demand := 50, current := 50, mode := .regulating, dutyOut := 255 }) part
     min s.seat.zones.c.demand 120 = 50 ∧ s.seat.zones.c.grant ≠ 50 ∧ s.seat.zones.b.grant = 0) ∧
    part.seat.zones.c.demand = 0 ∧ part.seat.zones.c.grant = 0 := by decide +kernel

/-- A monitor whose window is full at so many mV, with the four run counts at a value. -/
def sampledAt (mv n : Nat) (m : Monitor) : Monitor :=
  { m with window := List.replicate 8 mv, v := mv, belowLow := n, belowCutoff := n, clearLow := n, clearCutoff := n }

theorem witness_SupplyIsSetAndMonitored :
    Free part ∧ Works (inMode .locked part) ∧ (inMode .locked part).seat.brace.mode ≠ .idle ∧
    (inMode .locked part).seat.brace.mode ≠ .releasing ∧
    (8000 ≤ 8000 ∧ 8000 ≤ 12000 ∧ 6000 ≤ 6000 ∧ 6000 ≤ 9000 ∧ 8000 % 250 = 0 ∧ 6000 % 250 = 0 ∧ 6000 < (8000 : Nat)) ∧
    part.base.monitor.window.length ≤ 8 ∧ (part.base.monitor.window ++ [min 20001 20000]).length < 8 ∧
    (let m := (monitorWith (sampledAt 10999 3) part).base.monitor
     m.window.length = 8 ∧ m.settleLeft = none ∧ ((m.window ++ [10999]).tail.sum / 8 < m.lowThreshold) ∧ m.belowLow + 1 = 4) ∧
    (let m := (monitorWith (sampledAt 11000 3) part).base.monitor
     m.window.length = 8 ∧ m.settleLeft = none ∧ ¬ ((m.window ++ [11000]).tail.sum / 8 < m.lowThreshold)) ∧
    (let m := (monitorWith (fun m => { sampledAt 7999 3 m with settleLeft := some 2 }) part).base.monitor
     m.window.length = 8 ∧ m.settleLeft.isSome = true) := by decide +kernel

/-! ### Witnesses: remembered positions -/

def liftProfile : Profile := { Reset.profile with valid := true, axes := (PerAxis.all none).set .lift (some 9000) }

/-- Nine writes wait: none of profile P1, of pattern 8 or of the configuration. -/
def crowded : StoreQueue :=
  { queue := axisOrder.map (fun a => .axis a Reset.axisRecord) ++ [.profile .p2 Reset.profile, .pattern .n1 none, .pattern .n2 none],
    inFlight := some (.crashLock none) }

theorem witness_MemoryCommandsAnswer_slots :
    Free part ∧ Works (inMode .locked part) ∧ (inMode .locked part).seat.brace.mode ≠ .idle ∧
    (inMode .locked part).seat.brace.mode ≠ .releasing ∧
    (let s := storeWith (fun _ => crowded) part
     Free s ∧ s.seat.store.queue.any (sameRecord (.profile .p1 Reset.profile)) = false ∧ 9 ≤ s.seat.store.queue.length) ∧
    part.seat.store.queue.length < 9 ∧ (∀ a, (axisOf part.seat a).drive = .idle) ∧
    (axisOf (lift (drives .link (jog .up))).seat .lift).drive = .driving ∧
    part.base.link.vehicle = .moving ∧ (standing part).base.link.vehicle = .parked ∧
    (part.seat.profiles.get Retained4.p4.slot).valid = false ∧
    (let s := standing (slotWith .p4 liftProfile (lift (drives .manual (jog .up))))
     Free s ∧ s.base.link.vehicle = .parked ∧ (s.seat.profiles.get Retained4.p4.slot).valid = true ∧
     ((s.seat.profiles.get Retained4.p4.slot).axes.get .lift).isSome = true ∧ ownerMet .idle (axisOf s.seat .lift) = .manual) ∧
    (let s := standing (slotWith .p4 liftProfile part)
     Free s ∧ (s.seat.profiles.get Retained4.p4.slot).valid = true ∧ ∀ a, ownerMet .idle (axisOf s.seat a) = .none) := by
  and_intros <;> first | decide +kernel | (intro a; cases a <;> decide +kernel)

theorem witness_MemoryCommandsAnswer_doors :
    (let s := standing (recallWith (recallOf .running) part)
     Free s ∧ s.base.link.vehicle = .parked ∧ s.seat.recallCtx.isSome = true) ∧
    (let s := standing part
     Free s ∧ s.seat.recallCtx = none ∧ (axisOf s.seat .slide).confidence ≠ .learned ∧ (s.seat.profiles.get .return).valid = false) ∧
    (let s := standing (axisWith .slide (fun x => drives .link (jog .up) (learned x)) part)
     Free s ∧ (axisOf s.seat .slide).confidence = .learned ∧ (axisOf s.seat .slide).drive ≠ .fault ∧
     (axisOf s.seat .slide).drive ≠ .idle) ∧
    (let s := standing (axisWith .slide learned part)
     Free s ∧ (axisOf s.seat .slide).confidence = .learned ∧ (axisOf s.seat .slide).drive = .idle ∧
     (axisOf s.seat .slide).lowStop = some 256 ∧ ¬ (axisOf s.seat .slide).position ≤ 286 + axisDefaults.slide.onTarget) ∧
    (let s := standing (axisWith .slide (fun x => { learned x with position := 289 }) part)
     (axisOf s.seat .slide).position ≤ 286 + axisDefaults.slide.onTarget) ∧
    (let s := standing (slotWith .return liftProfile part)
     Free s ∧ (s.seat.profiles.get .return).valid = true ∧ s.seat.recallCtx = none) ∧
    (let s := standing (slotWith .return liftProfile (lift (drives .manual (jog .up))))
     Free s ∧ ((s.seat.profiles.get .return).axes.get .lift).isSome = true ∧ ownerMet .idle (axisOf s.seat .lift) = .manual) := by
  decide +kernel

theorem witness_RecallsStart :
    Source.link ≠ .standDown ∧ present part.base.fit .lift = true ∧
    (let s := braceWith (fun x => { x with driven := x.driven.set .lift true }) (slotWith .brace liftProfile part)
     s.seat.brace.driven.get .lift = true ∧ (s.seat.profiles.get .brace).axes.get .lift = some 9000 ∧
     s.seat.brace.driven.get .tilt = false) ∧
    ((slotWith .p1 liftProfile part).seat.profiles.get .p1).axes.get .lift = some 9000 ∧
    ((slotWith .p1 liftProfile part).seat.profiles.get .p1).axes.get .tilt = none ∧ present basicPart.base.fit .extend = false ∧
    (axisOf (lift (fun x => { learned x with drive := .fault })).seat .lift).drive = .fault ∧
    (axisOf part.seat .lift).drive ≠ .fault ∧ (axisOf part.seat .lift).confidence = .unlearned ∧
    (let x := axisOf (lift (fun y => { learned y with position := 9003 })).seat .lift
     x.confidence ≠ .unlearned ∧ x.position ≤ clampTarget axisDefaults.lift x 9000 + axisDefaults.lift.onTarget ∧
     clampTarget axisDefaults.lift x 9000 ≤ x.position + axisDefaults.lift.onTarget) ∧
    (let x := axisOf (lift (fun y => { learned y with position := 9004 })).seat .lift
     ¬ x.position ≤ clampTarget axisDefaults.lift x 9000 + axisDefaults.lift.onTarget ∧ axisDefaults.lift.clearing = .down ∧
     clampTarget axisDefaults.lift x 9000 ≤ x.position) ∧
    (let x := axisOf (lift learned).seat .lift
     axisDefaults.lift.clearing ≠ .none ∧ axisDefaults.lift.clearing ≠ .up ∧
     ¬ clampTarget axisDefaults.lift x 9000 ≤ x.position) := by decide +kernel

theorem witness_RecallsRunEndAndAbort :
    let two (v : RecallResult) : Recall :=
      { recallOf v with phase := .wave2, wave := (PerAxis.all none).set .lift (some .two) }
    (recallOf .running).phase = .wave1 ∧ (recallOf .running).wave.get .lift = some .one ∧
    (recallOf .running).result.get .lift = .running ∧
    (∀ a, (recallOf (.ended .reached)).result.get a ≠ .waiting ∧ (recallOf (.ended .reached)).result.get a ≠ .running) ∧
    (two .running).phase = .wave2 ∧ (two .running).wave.get .lift = some .two ∧
    (∀ a, (two (.ended .reached)).result.get a ≠ .waiting ∧ (two (.ended .reached)).result.get a ≠ .running) ∧
    (∀ a t, (two (.ended .reached)).target.get a = some t → (two (.ended .reached)).result.get a = .ended .reached) ∧
    (two (.ended .missed)).target.get .lift = some 9000 ∧ (two (.ended .missed)).result.get .lift = .ended .missed ∧
    reservedLift.seat.recallCtx = some (recallOf .waiting) ∧ (recallOf .waiting).target.get .lift = some 9000 ∧
    (recallOf .waiting).result.get .lift = .waiting ∧ (two .waiting).result.get .lift = .waiting ∧
    (axisOf (recallWith (two .waiting) (lift (fun x => { x with drive := .fault }))).seat .lift).drive = .fault ∧
    (axisOf (recallWith (two .waiting) part).seat .lift).confidence = .unlearned ∧
    (axisOf (recallWith (two .waiting) (lift (fun x => { learned x with position := 9003 }))).seat .lift).position ≤
      9000 + axisDefaults.lift.onTarget ∧
    (axisOf (recallWith (two .waiting) (lift learned)).seat .lift).position + axisDefaults.lift.onTarget < 9000 ∧
    Works part ∧ part.seat.recallCtx = none ∧ (∀ a, (recallOf .waiting).result.get a ≠ .running) ∧
    (∀ c, c ≠ .lift → (recallOf .running).result.get c ≠ .running) := by
  and_intros <;> first | decide +kernel | (intro a; cases a <;> decide +kernel)

theorem witness_MoveEndsAreHanded :
    (let s := pressedIn (.axis .lift .up) .active part
     (contactOf s.seat.scanner (.axis .lift .up)).cond = some .active ∧
     (contactOf s.seat.scanner (.axis .tilt .up)).cond ≠ some .active) ∧
    (recallWith (recallOf .running) (inMode .releasing part)).seat.recallCtx = some (recallOf .running) ∧
    (recallOf .running).result.get .lift = .running ∧ (recallOf .waiting).result.get .lift ≠ .running ∧
    (inMode .releasing part).seat.brace.mode = .releasing ∧
    (braceWith (fun x => { x with mode := .bracing, axisAction := x.axisAction.set .lift .running }) part).seat.brace.axisAction.get .lift =
      .running ∧
    (inMode .bracing part).seat.brace.mode = .bracing ∧ (inMode .bracing part).seat.brace.axisAction.get .lift ≠ .running ∧
    part.seat.brace.mode ≠ .bracing ∧ part.seat.brace.mode ≠ .releasing := by decide +kernel

/-! ### Witnesses: the gallery and the massage -/

def opFor (b : Bladder) (k : OpKind) (t : Nat) (o : Origin) : Op :=
  { bladder := b, kind := k, target := t, origin := o, bursts := 0, seed := false, step := none }

/-- A gallery with nothing in flight and this queue. -/
def resting (q : List Op) : State :=
  galleryWith (fun g => { g with state := .idle, inFlight := none, queue := q, burstLeft := none }) part
def faulty : State := galleryWith (fun g => { g with state := .fault }) (resting [])
/-- A gallery with an operation in flight, in a state. -/
def working (k : GalleryState) (o : Op) : State := galleryWith (fun g => { g with state := k, inFlight := some o }) (resting [])
def feels (b : Bladder) (p : Nat) : State → State :=
  galleryWith (fun g => { g with bladders := g.bladders.set b { g.bladders.get b with measured := some p, comfort := some p } })

theorem witness_SupportCommandsAnswer :
    Free part ∧ Free faulty ∧ faulty.seat.gallery.state = .fault ∧ part.seat.gallery.state ≠ .fault ∧
    [Bladder.lu, .ll, .bbl, .bbr, .cbl, .cbr][5]? = some .cbr ∧
    (let s := resting [opFor .cbr .fill 700 .brace]
     Free s ∧ s.seat.gallery.queue.find? (fun o => o.bladder = .cbr) = some (opFor .cbr .fill 700 .brace)) ∧
    (let s := resting (List.replicate 12 (opFor .m1 .fill 100 .massage))
     s.seat.gallery.queue.find? (fun o => o.bladder = .cbr) = none ∧ s.base.cfg.queueLimit ≤ s.seat.gallery.queue.length) ∧
    (let s := resting (List.replicate 11 (opFor .m1 .fill 100 .massage))
     s.seat.gallery.queue.find? (fun o => o.bladder = .cbr) = none ∧ s.seat.gallery.queue.length < s.base.cfg.queueLimit) ∧
    (let s := resting [opFor .cbr .fill 700 .support]
     s.seat.gallery.queue.find? (fun o => o.bladder = .cbr) = some (opFor .cbr .fill 700 .support) ∧
     (opFor .cbr .fill 700 .support).origin ≠ .brace) ∧
    (let s := feels .ll 600 (feels .lu 600 (resting [opFor .lu .vent 100 .brace, opFor .ll .vent 100 .brace]))
     Free s ∧ min 600 (600 + 20) = 600 ∧ min 600 (600 - 20) ≠ 600 ∧
     s.seat.gallery.queue.find? (fun o => o.bladder = .ll) = some (opFor .ll .vent 100 .brace)) := by decide +kernel

theorem witness_GalleryServesItsHead :
    (part.seat.gallery.burstLeft.isSome = true ∧ part.seat.gallery.state = .venting ∧ Works part) ∧
    (let s := galleryWith (fun g => { g with burstLeft := some 1 })
       (holding { liftClaim with consumer := .compressor } (working .filling (opFor .lu .fill 500 .support)))
     s.seat.gallery.burstLeft.isSome = true ∧ s.seat.gallery.state = .filling ∧ isGranted s.seat.alloc .compressor = true) ∧
    (working .settling (opFor .lu .fill 500 .support)).seat.gallery.state = .settling ∧
    (resting []).seat.gallery.inFlight = none ∧ (resting []).seat.gallery.state ≠ .fault ∧ (resting []).seat.gallery.queue = [] ∧
    (∀ k, (let s := resting [opFor .lu k 500 .support]
     s.seat.gallery.queue = opFor .lu k 500 .support :: [] ∧ s.seat.gallery.state = .idle ∧ s.seat.gallery.inFlight = none ∧
     (s.seat.gallery.bladders.get .lu).measured = none ∧ holdsClaim s.seat.alloc .compressor = false)) ∧
    (let s := feels .lu 492 (resting [opFor .lu .fill 500 .support])
     (s.seat.gallery.bladders.get .lu).measured = some 492 ∧ 500 ≤ 492 + s.base.cfg.tolerance ∧
     ¬ 500 ≤ 491 + s.base.cfg.tolerance) := by
  and_intros <;> first | decide +kernel | (intro k; cases k <;> decide +kernel)

theorem witness_ReadingsDecideTheOperation :
    let fill := opFor .lu .fill 500 .support
    let last : Op := { fill with bursts := 12 }
    Works part ∧
    (let s := galleryWith (fun g => { g with waitLeft := some 0 }) (working .filling fill)
     s.seat.gallery.inFlight = some fill ∧ s.seat.gallery.state = .filling ∧ s.seat.gallery.waitLeft.isSome = true) ∧
    (let s := working .measuring fill
     s.seat.gallery.inFlight = some fill ∧ s.seat.gallery.state = .measuring ∧ 500 ≤ 492 + s.base.cfg.tolerance ∧
     ¬ 500 ≤ 491 + s.base.cfg.tolerance ∧ fill.bursts < s.base.cfg.burstLimit) ∧
    (let s := working .measuring last
     s.seat.gallery.inFlight = some last ∧ s.base.cfg.burstLimit ≤ last.bursts) ∧
    isGranted (holding { liftClaim with consumer := .compressor } (working .measuring fill)).seat.alloc .compressor = true ∧
    (let s := asking { liftClaim with consumer := .compressor } (working .measuring fill)
     isGranted s.seat.alloc .compressor = false ∧ isPending s.seat.alloc .compressor = true) ∧
    (8 ≤ 8 ∧ 1015 ≤ 1015 ∧ 7 < 8 ∧ 1015 < (1016 : Nat)) := by decide +kernel

def inflate : StepRec := { action := 0, cells := 1, value := 100, carried := 0 }
def holdStep : StepRec := { action := 2, cells := 0, value := 10, carried := 0 }

/-- A staging area for pattern 8. -/
def stagedWith (declared : Nat) (steps : List StepRec) : State → State :=
  patternsWith (fun p => { p with staging := some { pattern := .n8, declared := declared, steps := steps } })

/-- Pattern 1 holds these steps. -/
def patternWith (steps : List StepRec) : State → State :=
  patternsWith (fun p => { p with
    directory := p.directory.set .n1 (some { start := 0, length := steps.length, cells := 1 }), steps := steps })

/-- The engine walks pattern 1. -/
def walking (f : Engine → Engine) : State :=
  engineWith (fun e => f { e with state := .running, pattern := some .n1, sessionLeft := 900000 }) (patternWith [inflate] part)

theorem witness_PatternsAreLoaded :
    Free part ∧ Works (inMode .locked part) ∧ (inMode .locked part).seat.brace.mode ≠ .idle ∧
    (inMode .locked part).seat.brace.mode ≠ .releasing ∧ part.base.patterns.staging = none ∧
    patternOfCode 8 = some .n8 ∧ patternOfCode 1 = some .n1 ∧
    (let s := walking id
     Free s ∧ s.seat.engine.state = .running ∧ s.seat.engine.pattern = some .n1 ∧ s.seat.engine.pattern ≠ some .n8) ∧
    (let s := stagedWith 2 [inflate] part
     s.base.patterns.staging = some { pattern := .n8, declared := 2, steps := [inflate] } ∧ 2 < 1 + 2 ∧ 1 + 1 ≤ (2 : Nat) ∧
     (judgeSteps 2 [inflate]).check ≠ 0) ∧
    (judgeSteps 1 [inflate]).check = 0 ∧
    (let s := stagedWith 1 [inflate] (patternWith (List.replicate 160 inflate) part)
     (s.base.patterns.directory.get .n1).map PatternEntry.length = some 160 ∧ s.base.patterns.directory.get .n8 = none) ∧
    crowded.queue.any (sameRecord (.pattern .n8 none)) = false ∧ 9 ≤ crowded.queue.length ∧ part.seat.store.queue.length < 9 := by decide +kernel

def openStep : StepRec := { action := 3, cells := 0, value := 2, carried := 0 }
def closeStep : StepRec := { action := 4, cells := 0, value := 0, carried := 0 }
/-- R111: how deep the repeats stand open after some steps. -/
def depthOf (l : List StepRec) : Int :=
  ((l.filter (fun st => st.action = 3)).length : Int) - ((l.filter (fun st => st.action = 4)).length : Int)

theorem witness_StagedStepsAreJudged :
    judgeSteps 2 [inflate] = { check := 1, index := 1 } ∧
    judgeSteps 2 [inflate, { inflate with value := 101 }] = { check := 2, index := 1 } ∧
    judgeSteps 1 [{ holdStep with value := 255 }] = { check := 0, index := 0 } ∧
    depthOf [openStep, openStep] = 2 ∧
    judgeSteps 3 [openStep, openStep, openStep] = { check := 3, index := 2 } ∧ depthOf [inflate] = 0 ∧
    judgeSteps 2 [inflate, closeStep] = { check := 3, index := 1 } ∧
    depthOf [openStep, openStep, closeStep, closeStep] = 0 ∧
    judgeSteps 4 [openStep, openStep, closeStep, closeStep] = { check := 0, index := 0 } ∧
    depthOf [openStep, closeStep] = 0 ∧
    judgeSteps 3 [openStep, openStep, closeStep] = { check := 3, index := 0 } := by decide +kernel

theorem witness_MassageCommandsAnswer :
    Free part ∧ (inMode .releasing part).seat.brace.mode ≠ .idle ∧ Works (inMode .releasing part) ∧
    (1 ≤ 1 ∧ 5 ≤ (5 : Nat)) ∧ patternOfCode 1 = some .n1 ∧ part.base.patterns.directory.get .n1 = none ∧
    (patternWith [inflate] part).base.patterns.directory.get .n1 ≠ none ∧
    (patternWith [inflate] faulty).base.patterns.directory.get .n1 ≠ none ∧
    (patternWith [inflate] faulty).seat.gallery.state = .fault ∧ part.seat.gallery.state ≠ .fault ∧
    part.seat.engine.state = .off ∧ part.seat.engine.held = 0 ∧ (walking id).seat.engine.state = .running ∧
    (walking (fun e => { e with state := .paused })).seat.engine.state = .paused ∧
    (walking (fun e => { e with state := .stopping })).seat.engine.state = .stopping ∧
    (let s := engineWith (fun e => { e with held := 1 }) part
     s.seat.engine.state = .off ∧ s.seat.engine.held ≠ 0 ∧ s.seat.gallery.state ≠ .fault) ∧
    (engineWith (fun e => { e with held := 1 }) faulty).seat.gallery.state = .fault ∧
    (∀ o ∈ part.seat.gallery.queue, o.origin ≠ .massage) ∧
    (let s := working .venting (opFor .m1 .vent 0 .massage)
     s.seat.gallery.queue = [] ∧ s.seat.gallery.inFlight = some (opFor .m1 .vent 0 .massage)) := by decide +kernel

theorem witness_MassageWalksItsPattern :
    Works (walking id) ∧
    (walking (fun e => { e with holdLeft := some 1 })).seat.engine.holdLeft.isSome = true ∧
    (walking (fun e => { e with restLeft := some 1 })).seat.engine.restLeft.isSome = true ∧
    (walking id).seat.engine.state = .running ∧ part.seat.engine.state ≠ .running ∧ (walking id).seat.engine.pattern = some .n1 ∧
    stepAt (walking id).base.patterns .n1 0 = some inflate ∧
    stepAt (walking (fun e => { e with index := 1 })).base.patterns .n1 1 = none ∧
    (∀ n : Fin 5, (let st : StepRec := { action := n, cells := 0, value := 2, carried := 0 }
     stepAt (patternWith [st] (walking id)).base.patterns .n1 0 = some st ∧ st.action = n)) ∧
    (walking (fun e => { e with stack := [{ index := 0, remaining := 0 }] })).seat.engine.stack = { index := 0, remaining := 0 } :: [] := by
  decide +kernel


theorem witness_MassageAsksAndIsAnswered :
    let asks (n : CellSet) (e : Engine) : Engine := { e with asking := some { kind := .vent, target := 0 }, stillToAsk := n }
    let massage : Op := opFor .m1 .fill 100 .massage
    (walking (fun e => { asks 1 e with state := .stopping })).seat.engine.state = .stopping ∧
    (walking (asks 1)).seat.engine.stillToAsk ≠ 0 ∧ (walking (asks 128)).seat.engine.asking = some { kind := .vent, target := 0 } ∧
    cellOrder = [.m1, .m2, .m3, .m4, .m5, .m6, .m7] ++ .m8 :: [] ∧
    (∀ k ∈ [Bladder.m1, .m2, .m3, .m4, .m5, .m6, .m7], inSet 128 k = false) ∧ inSet 128 .m8 = true ∧
    (∀ k ∈ cellOrder, inSet 0 k = false) ∧
    (let s := galleryWith (fun g => { g with state := .fault }) (walking (asks 1))
     s.seat.gallery.state = .fault ∧ s.seat.engine.state ≠ .off) ∧
    (let s := resting (List.replicate 12 (opFor .lu .fill 100 .support))
     s.seat.gallery.queue.find? (fun o => o.bladder = .m1) = none ∧ s.base.cfg.queueLimit ≤ s.seat.gallery.queue.length) ∧
    (let s := resting (List.replicate 11 (opFor .lu .fill 100 .support))
     s.seat.gallery.queue.find? (fun o => o.bladder = .m1) = none ∧ s.seat.gallery.queue.length < s.base.cfg.queueLimit) ∧
    (resting [massage]).seat.gallery.queue.find? (fun o => o.bladder = .m1) = some massage ∧ massage.origin ≠ .brace ∧
    (let e := (walking id).seat.engine
     e.outstanding = 0 ∧ e.stillToAsk = 0 ∧ e.asking = none ∧ e.state = .running) ∧
    (let e := (walking (fun e => { asks 0 e with outstanding := 1 })).seat.engine
     e.outstanding ≠ 0 ∧ e.asking ≠ none ∧ inSet e.outstanding massage.bladder = true ∧ inSet e.outstanding .m2 = false ∧
     e.state ≠ .off) ∧
    (let e := (walking (fun e => { asks 0 e with state := .stopping, endReason := some .stop })).seat.engine
     e.state = .stopping ∧ e.endReason = some .stop ∧ e.outstanding = 0 ∧ e.stillToAsk = 0) ∧
    massage.seed = false ∧ massage.origin = .massage ∧ ({ massage with seed := true } : Op).seed = true ∧
    cellsUsed (walking id).base.patterns (some .n1) = 1 ∧ (1 : CellSet) &&& addCell 0 massage.bladder = 1 ∧
    (1 : CellSet) &&& addCell 0 .m2 ≠ 1 := by decide +kernel
/-! ### Witnesses: climate, brace, safety line -/

theorem witness_HeatAndFanLevelsAreSet :
    let granted (level : Nat) : State := zoneWith .b (fun z => { z with fan := 3 })
      (holding { consumer := .fan .b, cls := 3, amount := 11, arrival := 0, level := level } part)
    let both (level : Nat) : State :=
      allocWith (fun al => { al with pending := [{ consumer := .fan .b, cls := 3, amount := 11, arrival := 1, level := 3 }] })
        (granted level)
    Free part ∧ (3 : Nat) ≤ 3 ∧ (zoneOf part.seat .b).heat = 0 ∧ (zoneOf part.seat .b).fan = 0 ∧
    (zoneOf (zoneWith .b (fun z => { z with heat := 3 }) part).seat .b).heat = 3 ∧ part.base.cfg.fanClaim.l0 = 0 ∧
    (cfgWith (fun c => { c with fanClaim := { c.fanClaim with l0 := 1 } }) part).base.cfg.fanClaim.l0 ≠ 0 ∧
    (zoneOf (granted 3).seat .b).fan = 3 ∧ isPending (granted 3).seat.alloc (.fan .b) = false ∧
    isGranted (granted 3).seat.alloc (.fan .b) = true ∧
    (let s := zoneWith .b (fun z => { z with fan := 3 }) (asking { consumer := .fan .b, cls := 3, amount := 11, arrival := 0, level := 3 } part)
     isPending s.seat.alloc (.fan .b) = true ∧ isGranted s.seat.alloc (.fan .b) = false) ∧
    (∀ n : Fin 3, isPending (both n).seat.alloc (.fan .b) = true ∧
      ((both n).seat.alloc.granted.find? (fun h => h.claim.consumer = .fan .b)).map (fun g => g.claim.level) = some n.val) ∧
    (part.base.cfg.zone.get .b).stepDown ≠ 0 := by decide +kernel

theorem witness_HeatSamplesRegulate :
    Works part ∧ (part.seat.zones.c.mode = .off) ∧ (15 < 16 ∧ 4079 < 4080 ∧ 16 ≤ 16 ∧ 4079 ≤ (4079 : Nat)) ∧
    (∀ m, (zoneOf (zoneWith .c (fun z => { z with mode := m }) part).seat .c).mode = m) ∧
    (120 ≤ temperature defaultSettings.ntc 1100 ∧ temperature defaultSettings.ntc 1117 < 120) ∧
    (110 ≤ temperature defaultSettings.ntc 1266 ∧ temperature defaultSettings.ntc 1284 < 110) ∧ (zoneOf part.seat .c).heat = 0 ∧
    (zoneOf (zoneWith .c (fun z => { z with heat := 1 }) part).seat .c).heat ≠ 0 := by
  and_intros <;> first | decide +kernel | (intro m; cases m <;> decide +kernel)

theorem witness_CodesBecomeTemperatures :
    defaultSettings.ntc.Pairwise (fun p q => q.code < p.code) ∧
    (∃ p, defaultSettings.ntc.head? = some p ∧ temperature defaultSettings.ntc p.code = p.temp) ∧
    (∃ p, defaultSettings.ntc.getLast? = some p ∧ temperature defaultSettings.ntc p.code = p.temp) ∧
    (∃ p q, defaultSettings.ntc.take 2 = [p, q] ∧ q.code ≤ q.code + 1 ∧ q.code + 1 ≤ p.code ∧
      temperature defaultSettings.ntc q.code = q.temp) :=
  ⟨by decide +kernel, ⟨_, rfl, by decide +kernel⟩, ⟨_, rfl, by decide +kernel⟩,
    ⟨_, _, rfl, by decide +kernel, by decide +kernel, by decide +kernel⟩⟩

theorem witness_BraceActionsAreAsked :
    part.seat.gallery.state ≠ .fault ∧ faulty.seat.gallery.state = .fault ∧
    (∀ i : Bolster, (opFor i.bladder .fill 700 .brace).origin = .brace ∧ (opFor i.bladder .vent 0 .brace).kind = .vent ∧
      (opFor i.bladder .fill 700 .brace).seed = false) ∧
    (let s := engineWith (fun e => { e with held := 1 }) part
     s.seat.engine.state = .off ∧ s.seat.engine.held ≠ 0 ∧ s.seat.gallery.state ≠ .fault) ∧ part.seat.engine.held = 0 ∧
    (inMode .releasing part).seat.brace.mode = .releasing := by
  and_intros <;> first | decide +kernel | (intro i; cases i <;> decide +kernel)

theorem witness_BraceOperationsAreTaken :
    let op := opFor .bbl .fill 700 .brace
    let support := opFor .lu .fill 500 .support
    let other := opFor .bbr .fill 700 .brace
    op.origin = .brace ∧ op.kind ≠ .measure ∧ (working .filling support).seat.gallery.inFlight = some support ∧
    support.origin ≠ .brace ∧ (resting []).seat.gallery.inFlight = none ∧
    (let s := resting (List.replicate 11 other)
     s.seat.gallery.queue.length < s.base.cfg.queueLimit ∧ (∀ o ∈ s.seat.gallery.queue, o.bladder ≠ op.bladder)) ∧
    (let s := resting (List.replicate 12 other)
     s.base.cfg.queueLimit ≤ s.seat.gallery.queue.length ∧ (∀ o ∈ s.seat.gallery.queue, o.origin = .brace)) ∧
    (let s := resting (List.replicate 11 other ++ support :: [])
     s.base.cfg.queueLimit ≤ s.seat.gallery.queue.length ∧
     (∀ k ∈ List.replicate 11 other ++ [], k.bladder ≠ support.bladder)) ∧
    (resting [opFor .bbl .vent 0 .brace]).seat.gallery.queue = [] ++ opFor .bbl .vent 0 .brace :: [] := by decide +kernel

theorem witness_BraceIsEnteredUpgradedAndHeld :
    let x (m : BraceMode) (g : Nat) : Brace := (braceWith (fun y => { y with mode := m, grade := g, holdLeft := some 3000 }) part).seat.brace
    (∀ m, (x m 1).mode = m ∧ (x m 1).holdLeft.isSome = true ∧ (x m 1).grade < 2 ∧ 2 ≤ (x m 2).grade) ∧
    judgeBrace axisDefaults.recline (axisOf part.seat .recline) = .unlearned ∧
    judgeBrace axisDefaults.recline (axisOf (axisWith .recline learned part).seat .recline) = .running ∧
    (let s := lift (drives .link (jog .up))
     present s.base.fit .lift = true ∧ ownerMet .bracing (axisOf s.seat .lift) = .link ∧ s.seat.recallCtx = none ∧
     judgeBrace axisDefaults.lift (axisOf s.seat .lift) ≠ .running ∧ (1 : Nat) ≠ 2) ∧
    (∀ a, (x .bracing 1).axisAction.get a ≠ .running) ∧ (∀ i, (x .bracing 1).bolster.get i ≠ .running) ∧
    (braceWith (fun y => { y with bolster := .all .running }) part).seat.brace.bolster.get .bbl = .running ∧
    part.base.monitor.state ≠ .cutoff ∧ (monitorWith (fun m => { m with state := .cutoff }) part).base.monitor.state = .cutoff := by
  and_intros <;> first | decide +kernel | (intro m; cases m <;> decide +kernel)

/-- A massage of pattern 1 whose cell M1 is filled and whose stop still asks M2. -/
def stopping : State :=
  galleryWith (fun g => { g with bladders := g.bladders.set .m1 { g.bladders.get .m1 with lastTarget := 100 } })
    (walking (fun e => { e with asking := some { kind := .vent, target := 0 }, outstanding := 2 }))

theorem witness_BraceIsEnteredUpgradedAndHeld_massage :
    part.seat.engine.state = .off ∧ stopping.seat.engine.state ≠ .off ∧ part.seat.brace.mode = .idle ∧
    (inMode .releasing stopping).seat.brace.mode = .releasing ∧
    0 < (stopping.seat.gallery.bladders.get .m1).lastTarget ∧ inSet stopping.seat.engine.outstanding .m2 = true ∧
    (takeBrace stopping.base stopping.seat 1).1.engine.held = 3 ∧ (takeCrash stopping.base stopping.seat .rear).1.engine.held = 3 := by
  decide +kernel

theorem witness_StandDownAndCrashAct :
    Works part ∧ (∀ m, (inMode m part).seat.brace.mode = m ∧ (inMode m part).seat.brace.holdLeft = none ∧ Works (inMode m part)) ∧
    (inMode .releasing part).seat.recallCtx = none ∧ (∀ i, (inMode .releasing part).seat.brace.vents.get i ≠ .running) ∧
    (recallWith (recallOf .running) (inMode .releasing part)).seat.recallCtx.isSome = true ∧
    (∀ a, (axisOf part.seat a).learn = .none ∧ present part.base.fit a = true) ∧ part.base.link.vehicle = .moving ∧
    (standing (inMode .locked part)).base.link.vehicle = .parked ∧ (standing (inMode .locked part)).seat.brace.mode = .locked ∧
    (zoneOf part.seat .c).fan = 0 ∧ part.base.cfg.fanClaim.l0 = 0 ∧
    (let s := cfgWith (fun c => { c with fanClaim := { c.fanClaim with l0 := 1 } }) (standing (inMode .locked part))
     s.base.cfg.fanClaim.l0 ≠ 0 ∧ holdsClaim s.seat.alloc (.fan .c) = false) := by
  and_intros <;> first | decide +kernel | (intro m; cases m <;> decide +kernel)

/-- A brace that drives the recline axis, with its move of owner BRACE in progress. -/
def bracing : State :=
  braceWith
    (fun x => { x with
      mode := .bracing, grade := 2, holdLeft := some 3000, axisAction := (PerAxis.all .none).set .recline .running,
      driven := (PerAxis.all false).set .recline true })
    (axisWith .recline (drives .brace (toward 1456 .down))
      (holding { consumer := .axis .recline, cls := 0, amount := 60, arrival := 0, level := 0 } part))

theorem witness_StandDownAndCrashAct_standDown :
    Works bracing ∧ bracing.seat.brace.mode = .bracing ∧ bracing.seat.brace.axisAction.get .recline = .running ∧
    bracing.seat.brace.axisAction.get .lift ≠ .running ∧ (after .holdTimerExpiry bracing).seat.brace.mode = .releasing ∧
    (axisOf (after .holdTimerExpiry bracing).seat .recline).drive = .coasting := by decide +kernel

theorem test_standDown_hands : (takeStandDown bracing.base bracing.seat).2 =
    [.pass, .pass, .recallStart .brace .standDown none, .standDownVent .bbl, .standDownVent .bbr, .standDownVent .cbl,
      .standDownVent .cbr, .massageStop, .releasingEntered] ∧
    (endMove bracing.base bracing.seat .recline .aborted false).2 = [.pass] := by decide +kernel

theorem test_braceCheck_in_cutoff :
    (runTask .braceCheck bracing.base (inMode .bracing (braceWith (fun x => { x with holdLeft := some 3000 }) part)).seat).1.brace.mode
      = .braced ∧
    (runTask .braceCheck (monitorWith (fun m => { m with state := .cutoff }) part).base
      (inMode .bracing (braceWith (fun x => { x with holdLeft := some 3000 }) part)).seat).1.brace.mode = .bracing := by
  decide +kernel

theorem witness_SafetyFramesAreJudged :
    Works part ∧ part.base.line.receiver ≠ .stuck ∧ (lineWith (fun l => { l with receiver := .stuck }) part).base.line.receiver = .stuck ∧
    judgeFrame 5 3 ≠ judgeFrame 5 2 ∧ (15 : Nat) ≠ 12 ∧ (12 = 12 ∧ 3 < (4 : Nat)) := by decide +kernel

/-- The line in a state of the receiver, low or high, with W measured. -/
def lineAt (r : Receiver) (low : Bool) : State :=
  lineWith (fun l => { l with receiver := r, low := low, w := some 400, stuck := decide (r = .stuck) }) part

theorem witness_LineMomentsAct :
    (∀ r, Works (lineAt r true) ∧ Works (lineAt r false) ∧ (lineAt r true).base.line.receiver = r ∧
      (lineAt r false).base.line.receiver = r ∧ (lineAt r true).base.line.low = true ∧ (lineAt r false).base.line.low = false ∧
      (lineAt r false).base.line.w = some 400 ∧ (lineAt r true).base.line.symbols.length < 15 ∧
      (lineAt r false).base.line.driving = none) ∧
    (lineAt .stuck true).base.line.stuck = true ∧ (lineAt .reply false).base.line.replyIndex < 8 ∧
    (lineWith (fun l => { l with driving := some 100 }) (lineAt .reply false)).base.line.driving ≠ none ∧
    (lineWith (fun l => { l with replyIndex := 8 }) (lineAt .reply false)).base.line.replyIndex = 8 ∧
    (powered .parked part).base.power = .parked ∧
    (lineAt .symbols true).base.line.driving = none ∧ (lineAt .symbols true).base.line.w = some 400 ∧
    (∀ r, (lineAt r true).base.line.low = true ∧ (lineAt r false).base.line.low = false ∧ (lineAt r true).base.line.receiver = r) ∧
    11 * 400 < 16 * (10000 : Nat) ∧
    (799 < 800 ∧ 4000 ≤ 4000 ∧ 4000 < 4001 ∧ 9999 < 10000 ∧ 19 < 20 ∧ 200 ≤ 200 ∧ 200 < (201 : Nat)) ∧
    (99 < 100 ∧ 400 ≤ 400 ∧ 400 < 401 ∧ 8 * 49 < 400 ∧ 400 ≤ 8 * 50 ∧ 16 * 275 ≤ 11 * 400 ∧ 11 * 400 < 16 * (276 : Nat)) ∧
    (4 * 300 ≤ 3 * 400 ∧ 3 * 400 < 4 * (301 : Nat)) ∧ (999 < (1000 : Nat) ∧ 1000 ≤ (1000 : Nat)) := by
  and_intros <;> first | decide +kernel | (intro r; cases r <;> decide +kernel)

theorem witness_SymbolsSpellTheFrame :
    let s := lineAt .symbols false
    let lows := (frameSymbols 12 2).map (fun x => if x then 250 else 100)
    Works s ∧ s.base.line.receiver = .symbols ∧ s.base.line.w = some 400 ∧ s.base.line.symbols = [] ∧ s.base.line.low = false ∧
    lows.length = 16 ∧ (List.replicate 16 300).length = 16 ∧ (∀ h ∈ List.replicate 16 300, 4 * h ≤ 3 * 400) ∧
    ∀ p ∈ (frameSymbols 12 2).zip lows,
      (p.1 = false → 400 ≤ 8 * p.2 ∧ 8 * p.2 < 3 * 400) ∧ (p.1 = true → 3 * 400 ≤ 8 * p.2 ∧ 16 * p.2 ≤ 11 * 400) := by
  decide +kernel

/-! ### Witnesses: the switch pack, configuration, park -/

theorem witness_AxisContactsAct :
    (∀ m, Works (inMode m part) ∧ (inMode m part).seat.brace.mode = m) ∧ present part.base.fit .lift = true ∧
    (contactOf part.seat.scanner (.axis .lift .up)).pressed = false ∧
    (∀ k, (let s := pressedIn (.axis .lift .down) k (lift (drives .manual (jog .down)))
     (contactOf s.seat.scanner (.axis .lift .up)).pressed = false ∧ (contactOf s.seat.scanner (.axis .lift .down)).pressed = true ∧
     (contactOf s.seat.scanner (.axis .lift .down)).cond = some k ∧ (contactOf s.seat.scanner (.axis .lift .down)).stuckLeft.isSome = true ∧
     ownerMet .idle (axisOf s.seat .lift) = .manual)) ∧
    (axisOf (lift (fun x => { x with drive := .fault })).seat .lift).drive = .fault ∧
    (let x := axisOf (lift (fun y => { learned y with position := 11970 })).seat .lift
     x.drive = .idle ∧ atSoftLimit axisDefaults.lift x .up = true) ∧
    atSoftLimit axisDefaults.lift (axisOf part.seat .lift) .up = false ∧
    ownerMet .idle (axisOf (lift (drives .brace (jog .up))).seat .lift) = .brace ∧
    (contactOf part.seat.scanner (.key .set)).closed = false ∧ contactPresent part.base.fit (.key .set) = true := by
  and_intros <;> first | decide +kernel | (intro m; cases m <;> decide +kernel)

theorem witness_KeysAndLumbarContactsAct :
    Works part ∧ (contactOf part.seat.scanner (.key .mem1)).pressed = false ∧ part.seat.scanner.armed.get .mem1 = true ∧
    (scannerWith (fun x => { x with armed := .all false, rearm := .all (some 50) }) part).seat.scanner.armed.get .mem1 = false ∧
    ((scannerWith (fun x => { x with rearm := .all (some 50) }) part).seat.scanner.rearm.get .mem1).isSome = true ∧
    (let s := pressedIn (.key .mem1) .active (recallWith { recallOf .running with deadMan := some .mem1 } part)
     (contactOf s.seat.scanner (.key .mem1)).pressed = true ∧ (contactOf s.seat.scanner (.key .mem1)).cond = some .active ∧
     s.seat.recallCtx = some { recallOf .running with deadMan := some .mem1 }) ∧
    (let s := scannerWith (fun x => { x with armed := .all true, rearm := .all (some 1) }) part
     s.seat.scanner.armed.get .mem1 = true ∧ s.seat.scanner.rearm.get .mem1 ≠ none) ∧ part.seat.scanner.rearm.get .mem1 = none ∧
    (let s := scannerWith (fun x => { x with waiting := [.lu, .ll], stepNo := 1 }) part
     Bladder.lu ∈ s.seat.scanner.waiting ∧ Bladder.bbl ∉ s.seat.scanner.waiting ∧ s.seat.scanner.stepNo = 1) ∧
    ({ opFor .lu .fill 20 .support with step := some 1 } : Op).step = some 1 ∧
    (scannerWith (fun x => { x with window := some 5000 }) part).seat.scanner.window.isSome = true ∧
    part.seat.scanner.window = none ∧ (∀ a, (axisOf part.seat a).drive = .idle) ∧
    (axisOf (lift (drives .manual (jog .up))).seat .lift).drive = .driving ∧ crowded.queue.length = 9 ∧
    crowded.queue.any (sameRecord (.profile .p1 Reset.profile)) = false ∧ (part.seat.profiles.get .p1).valid = false ∧
    ((slotWith .p1 liftProfile part).seat.profiles.get .p1).valid = true ∧
    ((slotWith .p1 liftProfile part).seat.profiles.get .p1).axes.get .lift = some 9000 ∧
    (∀ a, ownerMet .idle (axisOf part.seat a) = .none) ∧
    (contactOf part.seat.scanner (.lumbar .stepIn)).pressed = false ∧
    (let s := pressedIn (.lumbar .stepIn) .active part
     (contactOf s.seat.scanner (.lumbar .stepIn)).pressed = true ∧ (contactOf s.seat.scanner (.lumbar .stepIn)).cond = some .active ∧
     (∀ j, j ≠ .stepIn → (contactOf s.seat.scanner (.lumbar j)).cond ≠ some .active) ∧
     lumbarAsks s.seat.gallery .stepIn ≠ []) ∧
    lumbarVerdict (resting []).base (resting []).seat.gallery .stepIn = .taken ∧
    lumbarVerdict faulty.base faulty.seat.gallery .stepIn ≠ .taken := by
  and_intros <;> first | decide +kernel | (intro a; cases a <;> decide +kernel)

theorem witness_ConfigurationAndWritesAreTaken_items :
    Free part ∧ writeItem .full defaultSettings 0x01 6 100 0 = none ∧ writeItem .full defaultSettings 0x01 1 201 0 = none ∧
    ([(0x01, 1, 200), (0x21, 0, 8), (0x22, 0, 400), (0x25, 0, 40), (0x25, 3, 40), (0x26, 0, 100), (0x44, 0, 12), (0x57, 1, 60),
      (0x06, 1, 255)].all (fun p => (writeItem .full defaultSettings p.1 p.2.1 p.2.2 0).isSome) = true) ∧
    crowded.queue.any (sameRecord (.configuration defaultSettings)) = false ∧ 9 ≤ crowded.queue.length ∧
    part.seat.store.queue.length < 9 ∧ holdsClaim part.seat.alloc .compressor = false ∧
    holdsClaim (holding { liftClaim with consumer := .compressor } part).seat.alloc .compressor = true ∧
    holdsClaim (holding liftClaim part).seat.alloc (.axis .lift) = true ∧ holdsClaim part.seat.alloc (.axis .lift) = false ∧
    (∀ z, holdsClaim part.seat.alloc (.fan z) = false) ∧ (zoneOf part.seat .c).fan = 0 ∧
    (let s := zoneWith .b (fun z => { z with fan := 1 }) part
     (zoneOf s.seat .c).fan = 0 ∧ (zoneOf s.seat .b).fan ≠ 0) ∧
    (let s := zoneWith .c (fun z => { z with heat := 3, level3 := 60 * 60000 }) part
     60 * 60000 ≤ (zoneOf s.seat .c).level3 ∧ (zoneOf s.seat .c).heat = 3) ∧
    (let s := asking { consumer := .fan .c, cls := 3, amount := 1, arrival := 0, level := 0 } part
     ∃ x ∈ s.seat.alloc.pending, (x.consumer = .fan .c ∨ x.consumer = .fan .b) ∧ x.level = 0) := by
  and_intros <;> first | decide +kernel | (intro z; cases z <;> decide +kernel)

theorem witness_ConfigurationAndWritesAreTaken_entries :
    (let q : StoreQueue := { queue := [.crashLock none, .configuration defaultSettings], inFlight := some (.pattern .n1 none) }
     q.inFlight.isSome = true ∧ q.queue = [] ++ .crashLock none :: [.configuration defaultSettings] ∧
     enterWrite q (.crashLock (some .rear)) = { q with queue := [.crashLock (some .rear), .configuration defaultSettings] } ∧
     enterWrite q (.pattern .n2 none) = { q with queue := q.queue ++ [.pattern .n2 none] }) ∧
    (let q : StoreQueue := { queue := [], inFlight := none }
     enterWrite q (.crashLock none) = { queue := [], inFlight := some (.crashLock none) }) := by decide +kernel

/-- A store with one write in flight and none behind it. -/
def lastWrite (x : RecordWrite) (p : Power) : State → State := fun s => powered p (storeWith (fun _ => { queue := [], inFlight := some x }) s)

theorem witness_ConfigurationAndWritesAreTaken_vehicle_and_writes :
    let record : AxisRecord := { Reset.axisRecord with clean := false }
    let write : RecordWrite := .axis .lift record
    (2 : Nat) ≤ 2 ∧ part.base.link.vehicle = .moving ∧ (standing part).base.link.vehicle = .parked ∧
    (∀ a, (axisOf part.seat a).learn = .none) ∧
    (let learns (m : Move) (x : AxisState) : AxisState := { drives .learn m x with learn := .low }
     let s := standing (axisWith .tilt (learns (jog .down)) (lift (learns (jog .down))))
     (axisOf s.seat .lift).learn ≠ .none ∧ (axisOf s.seat .tilt).learn ≠ .none ∧ (axisOf s.seat .slide).learn = .none) ∧
    part.seat.store.inFlight = none ∧
    (∀ p, (lastWrite write p part).seat.store.inFlight = some write ∧ (lastWrite write p part).base.power = p) ∧
    (∀ x ∈ [write, RecordWrite.profile .p1 Reset.profile, .pattern .n1 none, .configuration defaultSettings, .crashLock none],
      (lastWrite x .parking part).seat.store.inFlight = some x ∧ (lastWrite x .parking part).base.power = .parking) ∧
    (let s := lastWrite write .run (lift (fun x => { waits .link (jog .up) x with dirty := .queued }))
     record.clean = false ∧ (axisOf s.seat .lift).dirty = .queued ∧ (axisOf s.seat .lift).drive = .waitGrant ∧
     isPending s.seat.alloc (.axis .lift) = false) ∧
    (let s := lastWrite write .run (lift (fun x => { x with dirty := .marked }))
     (axisOf s.seat .lift).dirty ≠ .queued) := by
  and_intros <;> first | decide +kernel | (intro c; cases c <;> decide +kernel)

/-- What the last write of PARKING finds: an axis that moves abandons the park, a seat at rest is parked. -/
theorem witness_ConfigurationAndWritesAreTaken_parking :
    let rests := lastWrite (.crashLock none) .parking (resting [])
    let moves := lastWrite (.crashLock none) .parking (axisWith .lift (drives .link (jog .up)) (resting []))
    (rests.base.power = .parking ∧ (axisOf rests.seat .lift).drive = .idle ∧ rests.seat.gallery.state = .idle ∧
      (after .storeWriteComplete rests).base.power = .parked) ∧
    (moves.base.power = .parking ∧ (axisOf moves.seat .lift).drive ≠ .idle ∧
      (after .storeWriteComplete moves).base.power = .run) := by decide +kernel

/-- A retained store with a level-0 Fan claim of 3, patterns 1 and 2 of which the second does not fit, and the lock of a rear crash. -/
def written : Records :=
  let good (n : Nat) : Copy (Option (List StepRec)) := { seq := 1, good := true, contents := some (List.replicate n emptyStep) }
  let copies (n : Nat) : Copies (Option (List StepRec)) := { one := good n, two := { good n with good := false, seq := 0 } }
  let c : Copy Settings :=
    { seq := 1, good := true, contents := { defaultSettings with fanClaim := { defaultSettings.fanClaim with l0 := 3 } } }
  let k : Copy (Option CrashKind) := { seq := 1, good := true, contents := some .rear }
  { Reset.records with
    pattern := (Reset.records.pattern.set .n1 (copies 100)).set .n2 (copies 61)
    configuration := { one := c, two := { c with good := false, seq := 0 } }
    crashLock := { one := k, two := { k with good := false, seq := 0 } } }

theorem test_powerOnReset_loads :
    (let t := after (.powerOnReset .basic false) (powered .off (baseWith (fun b => { b with records := written }) part))
     t.base.patterns.steps.length = 100 ∧ t.base.patterns.directory.get .n2 = none ∧ t.seat.brace.mode = .locked ∧
     t.seat.alloc.pending.map (fun c => (c.consumer, c.amount, c.arrival)) = [(.fan .c, 3, 0), (.fan .b, 3, 1)] ∧
     t.seat.gallery.state = .venting ∧
     t.seat.notices.queue.map (fun n => (n.subject, n.detail, n.count)) =
       [(.axis .slide, 2, 1), (.axis .lift, 2, 1), (.axis .tilt, 2, 1), (.axis .recline, 2, 1), (.none, 6, 4), (.pattern .n2, 7, 1),
        (.pattern .n3, 7, 1), (.pattern .n4, 7, 1), (.pattern .n5, 7, 1), (.pattern .n6, 7, 1), (.pattern .n7, 7, 1),
        (.pattern .n8, 7, 1)]) := by decide +kernel

theorem witness_ParkAndResetsAct_writes :
    (∀ w ∈ [RecordWrite.axis .lift Reset.axisRecord, .profile .p1 Reset.profile, .pattern .n1 none, .configuration defaultSettings,
        .crashLock none],
      (storeWith (fun q => { q with inFlight := some w }) part).seat.store.inFlight = some w) ∧
    written.configuration.two.seq < written.configuration.one.seq ∧ written.configuration.one.good = true ∧
    readCopies (cutCopy written.configuration) = readCopies written.configuration ∧
    (readCopies written.pattern.n2).isSome = true ∧ (readCopies written.axis.lift).isNone = true := by decide +kernel

theorem witness_ParkAndResetsAct :
    Free part ∧ part.base.cfg.fanClaim.l0 = 0 ∧ (∀ p, (powered p part).base.power = p) ∧ Works (powered .parking part) ∧
    (∀ m, (inMode m part).seat.brace.mode = m ∧ Works (inMode m part)) ∧ part.seat.gallery.state ≠ .idle ∧
    (let s := resting []
     (∀ a, (axisOf s.seat a).drive = .idle) ∧ s.seat.recallCtx = none ∧ s.seat.gallery.state = .idle ∧ s.seat.gallery.queue = [] ∧
     s.seat.engine.state = .off ∧ s.seat.brace.mode = .idle ∧ s.base.line.low = false ∧ s.base.line.driving = none ∧
     s.base.power = .run) ∧
    (lineWith (fun l => { l with driving := some 50 }) (resting [])).base.line.driving ≠ none ∧
    (∀ c ∈ contactOrder, (contactOf part.seat.scanner c).pressed = false) ∧ part.seat.store.inFlight = none ∧
    (let c : Copies Profile := { one := { seq := 1, good := false, contents := Reset.profile }, two := { seq := 2, good := true, contents := liftProfile } }
     c.one.seq < c.two.seq ∧ c.two.good = true) ∧
    (Contact.key .mem1 ∈ [Contact.key .mem1] ∧ contactPresent part.base.fit (.key .mem1) = true ∧
     (contactOf part.seat.scanner (.key .mem1)).cond ≠ some .stuck) ∧
    (let s := pressedIn (.key .mem1) .stuck (powered .parked part)
     (contactOf s.seat.scanner (.key .mem1)).cond = some .stuck ∧ Contact.key .mem1 ∉ [Contact.key .mem2]) ∧
    (contactOf part.seat.scanner (.key .mem1)).pressed = false ∧ (contactOf part.seat.scanner (.key .mem1)).closed = false ∧
    (powered .draining part).base.power = .draining ∧ (powered .off part).base.power = .off := by
  and_intros <;> first | decide +kernel | (intro p; cases p <;> decide +kernel)

/-! ### What commands do, one step each -/

/-- The result code that a comfort frame leaves. -/
def resultOf (i : Instr) (s : State) : Result := (after i s).base.link.lastResult
def noticeKinds (s : State) : List NoticeKind := s.seat.notices.queue.map Notice.kind
/-- The part with no notice waiting. -/
def quiet : State := noticesWith Reset.notices part

theorem test_readStatus : (after .readStatus part).base.link.reply.length = replyLength .status ∧ resultOf .readStatus part = .accepted := by
  decide +kernel
theorem test_readAxis : (after (.readAxis 1) part).base.link.reply.take 2 = [0x20, 0x00] ∧ resultOf (.readAxis 6) part = .range := by
  decide +kernel
theorem test_readAllocation : (after .readAllocation part).base.link.reply.take 4 = [0, 120, 0, 120] := by decide +kernel
theorem test_readConfig : (after (.readConfig 0x01 1) part).base.link.reply = [0, 70, 0, 0] := by decide +kernel
theorem test_readNotice : (after .readNotice part).base.link.reply = [0x7F, 0, 0, 6, 6, 14] := by decide +kernel
theorem test_moveAxisTo : (after (.moveAxisTo 1 9000) (lift learned)).seat.axes.lift.move = some (toward 9000 .up) ∧
    resultOf (.moveAxisTo 1 9000) part = .range := by decide +kernel
theorem test_jogAxis : (after (.jogAxis 1 0 50) part).seat.axes.lift.move = some (linkJog .down) ∧
    resultOf (.jogAxis 1 0 49) part = .range := by decide +kernel
theorem test_stopAxis : (after (.stopAxis 1) liftDrives).seat.axes.lift.drive = .coasting ∧
    (after (.stopAxis 1) liftDrives).seat.axes.lift.bridge = .braked := by decide +kernel
theorem test_stopAll : (after .stopAll liftDrives).seat.alloc.granted = [] := by decide +kernel
theorem test_learnAxis : (after (.learnAxis 1) (standing part)).seat.axes.lift.learn = .low ∧ resultOf (.learnAxis 1) part = .state := by
  decide +kernel
theorem test_learnAxis_coasting_brace :
    let s := standing (lift (coasts .brace none .request none))
    s.seat.brace.mode = .idle ∧ resultOf (.learnAxis 1) s = .busy := by decide +kernel
theorem test_clearAxisFault : (after (.clearAxisFault 1) (lift (fun x => { x with drive := .fault }))).seat.axes.lift.drive = .idle := by
  decide +kernel
theorem test_storeProfile : (after (.storeProfile 0) (lift learned)).seat.profiles.p1.axes.lift = some 8192 := by decide +kernel
theorem test_recallProfile : resultOf (.recallProfile 0) (standing part) = .empty ∧
    (after (.recallProfile 0) (standing (slotWith .p1 liftProfile (lift learned)))).seat.axes.lift.move = some (toward 9000 .up) := by decide +kernel
theorem test_eraseProfile : (after (.eraseProfile 0) (slotWith .p1 liftProfile part)).seat.profiles.p1 = Reset.profile := by decide +kernel
theorem test_doorExit : (after .doorExit (standing (axisWith .slide learned part))).seat.axes.slide.move = some (toward 7592 .down) := by
  decide +kernel
theorem test_doorEntry : resultOf .doorEntry (standing part) = .empty := by decide +kernel
theorem test_setSupport : (after (.setSupport 0 901) (resting [])).seat.gallery.inFlight.map Op.target = some 900 := by decide +kernel
theorem test_lumbarAdjust : (after (.lumbarAdjust 0) part).seat.gallery.bladders.lu.comfort = some 20 := by decide +kernel
theorem test_clearGalleryFault : (after .clearGalleryFault faulty).seat.gallery.state = .idle := by decide +kernel
theorem test_loadPatternEnd : (after (.loadPatternEnd 8) (stagedWith 1 [inflate] part)).base.patterns.steps = [inflate] ∧
    resultOf (.loadPatternEnd 8) (stagedWith 2 [inflate] part) = .invalid := by decide +kernel
theorem test_startMassage : resultOf (.startMassage 1 1 1) part = .empty ∧
    (after (.startMassage 1 5 5) (patternWith [holdStep] part)).seat.engine.holdLeft = some 33 := by decide +kernel
theorem test_stopMassage : (after .stopMassage (walking id)).seat.engine.state = .off := by decide +kernel
theorem test_setHeat : (after (.setHeat 0 3) part).seat.zones.c.mode = .regulating := by decide +kernel
theorem test_setFan : (after (.setFan 1 2) part).seat.alloc.granted.map (fun g => g.claim.amount) = [7] := by decide +kernel
theorem test_setSupplyCeiling : (after (.setSupplyCeiling 400) part).seat.alloc.ceiling = 400 := by decide +kernel
theorem test_setVehicleState : (after (.setVehicleState 0) part).base.link.vehicle = .parked := by decide +kernel
theorem test_unlockBrace : (after .unlockBrace (standing (inMode .locked part))).seat.brace.mode = .idle := by decide +kernel
theorem test_writeConfig : (after (.writeConfig 0x21 0 8 0) part).base.cfg.lowShare = 8 ∧
    (after (.writeConfig 0x21 0 8 0) part).seat.store.inFlight.isSome = true := by decide +kernel
theorem test_park : resultOf .park part = .busy ∧ (after .park (resting [])).base.power = .parking := by decide +kernel
theorem test_reset : (after .reset part).base.power = .draining := by decide +kernel
theorem test_statusQuery : (after .statusQuery part).base.line.replyFields = [false, false, false, false, false, false, false, false] := by
  decide +kernel
theorem test_brace : (after (.brace .one) part).seat.brace.mode = .bracing ∧ (after (.brace .one) part).seat.alloc.ceiling = 200 := by
  decide +kernel
theorem test_crash : (after (.crash .rear) part).seat.brace.crash = some .rear ∧ (after (.crash .rear) part).seat.gallery.queue = [] := by
  decide +kernel
theorem test_safetyFrameDrop : (after (.safetyFrameDrop .gap) quiet).seat.notices.queue.map Notice.detail = [1] := by decide +kernel
theorem test_safetyLineEdge : (after (.safetyLineEdge true 800) (lineAt .leadIn true)).base.line.receiver = .gap ∧
    (after (.safetyLineEdge true 799) (lineAt .leadIn true)).base.line.receiver = .waitLead := by decide +kernel
theorem test_lineStuck : noticeKinds (after .lineStuck quiet) = [.stuck] := by decide +kernel
theorem test_acceptedPulse : (after (.acceptedPulse .lift) (lift (drives .link (jog .up)))).seat.axes.lift.position = 8193 := by
  decide +kernel
theorem test_rejectedLow : (after (.rejectedLow .lift) part).seat.axes.lift.disturbance = 1 := by decide +kernel
theorem test_stall : (after (.stall .lift) (lift (fun x => drives .link (jog .up) { learned x with position := 11976 }))).seat.axes.lift.position
    = 12000 := by decide +kernel
theorem test_coastWindowEnd : (after (.coastWindowEnd .lift) (lift (coasts .link (some (toward 8190 .up)) .lead none))).seat.axes.lift.leadUp
    = 7 := by decide +kernel
theorem test_overcurrent : (after (.overcurrent .lift) (lift (fun x => { drives .link (jog .up) x with overcurrentLeft := some 0 }))).seat.axes.lift.drive
    = .fault := by decide +kernel
theorem test_monitorSample : (after (.monitorSample 7000) (monitorWith (sampledAt 7000 3) part)).base.monitor.state = .cutoff ∧
    (after (.monitorSample 7000) (monitorWith (sampledAt 7000 3) part)).seat.alloc.ceiling = 0 := by decide +kernel
theorem test_axisContactPress : (after (.axisContactPress .lift .up) part).seat.axes.lift.owner = .manual := by decide +kernel
theorem test_axisContactRelease : (after (.axisContactRelease .lift .up) (pressedIn (.axis .lift .up) .active (lift (drives .manual (jog .up))))).seat.axes.lift.coastResult
    = some .reached := by decide +kernel
theorem test_keyPress : (after (.keyPress .set) part).seat.scanner.window = some 5000 ∧
    noticeKinds (after (.keyPress .mem1) quiet) = [.keyRefused] := by decide +kernel
theorem test_pressureReading : (after (.pressureReading 7) (working .measuring (opFor .lu .fill 500 .support))).seat.gallery.state = .fault ∧
    (after (.pressureReading 492) (working .measuring (opFor .lu .fill 500 .support))).seat.gallery.bladders.lu.lastResult = some .done := by
  decide +kernel
theorem test_heatSample : (after (.heatSample .c 1100) (zoneWith .c (fun z => { z with heat := 3, mode := .regulating }) part)).seat.zones.c.mode
    = .overheat := by decide +kernel
theorem test_heatStepdown : (after (.heatStepdown .c) (zoneWith .c (fun z => { z with heat := 3 }) part)).seat.zones.c.heat = 2 := by
  decide +kernel
theorem test_wakeIntervalInstant : (after (.wakeIntervalInstant [.key .mem1] 12000) (powered .parked part)).base.power = .run ∧
    (after (.wakeIntervalInstant [] 12000) (powered .parked part)).base.wakeLeft = some 40 := by decide +kernel
theorem test_warmResetDrainEnd : (after (.warmResetDrainEnd true) (powered .draining part)).base = part.base := by decide +kernel
theorem test_powerOnReset : after (.powerOnReset .full true) (powered .off part) = part := by decide +kernel
theorem test_hallSample : (after (.hallSample .lift true) (lowFor 168)).base.hall.lift.accepted = .high ∧
    (after (.hallSample .lift true) (lowFor 167)).seat.axes.lift.disturbance = 1 := by decide +kernel
theorem test_idle_step : ∃ t, step (lift (drives .link (jog .up))) = .next t ∧ t.seat.axes.lift.stallLeft = some 119 :=
  ⟨_, rfl, by decide +kernel⟩
theorem test_lineStuck_own_low : noticeKinds (after .lineStuck (lineWith (fun l => { l with driving := some 100 }) quiet)) = [] := by
  decide +kernel
theorem test_park_driving_low : resultOf .park (lineWith (fun l => { l with driving := some 100 }) (resting [])) = .busy := by decide +kernel
theorem test_unlockBrace_fan :
    (after .unlockBrace (cfgWith (fun c => { c with fanClaim := { c.fanClaim with l0 := 1 } }) (standing (inMode .locked part)))).seat.alloc.granted.map
      (fun g => g.claim.consumer) = [.fan .c, .fan .b] := by decide +kernel
theorem test_pressureReading_ends_paused_massage :
    (after (.pressureReading 7) (engineWith
      (fun e => { e with state := .paused, pattern := some .n1, stillToAsk := 1, asking := some { kind := .fill, target := 100 } })
      (working .measuring (opFor .lu .fill 500 .support)))).seat.engine.endReason = some .sensor := by decide +kernel
theorem test_safetyLineEdge_stuck_symbol :
    noticeKinds (after (.safetyLineEdge true 10000) (noticesWith Reset.notices (lineAt .symbols true))) = [.safetyFrame, .stuck] := by
  decide +kernel
theorem test_reply_lows : [false, true].map (fun bit => (after .safetyReplyStart
      (lineWith (fun l => { l with replyFields := [bit] }) (lineAt .turnaround false))).base.line.driving) = [some 100, some 200] := by
  decide +kernel

/-! ### Witnesses: the forms that were added to the claims -/

/-- A learn run of the lift axis in a phase. -/
def learns (p : LearnPhase) (y : AxisState) : AxisState := { y with learn := p, lowStop := some 256, highStop := some 12000 }

theorem witness_LearnRunsAreInterrupted :
    let run (f : AxisState → AxisState) : AxisState := axisOf (lift (fun y => learns .high (f y))).seat .lift
    let p : Pending := { move := jog .up, owner := .learn }
    (∀ f ∈ [waits .learn (jog .up), drives .learn (jog .up), coasts .learn (some (jog .up)) .stall (some .endStop),
        fun y => { coasts .learn none .request none y with pending := some p }],
      (run f).learn ≠ .none ∧ ownerMet part.seat.brace.mode (run f) = .learn ∧ (run f).dirty ≠ .notMarked ∧ Owner.link ≠ .learn ∧
      ((run f).drive = .waitGrant ∨ (run f).drive = .driving ∨ (run f).drive = .coasting)) ∧
    (run (waits .learn (jog .up))).drive = .waitGrant ∧ (run (drives .learn (jog .up))).drive = .driving := by decide +kernel

theorem witness_MoveTakenWhileWaitingOrCoasting_atOnce :
    let s := asking liftClaim (lift (waits .link (jog .up)))
    let x := axisOf s.seat .lift
    x.drive = .waitGrant ∧ x.pending = none ∧ x.learn = .none ∧ x.dirty ≠ .notMarked ∧ x.owner ≠ .brace ∧
    endsAtOnce axisDefaults.lift x (toward 8195 .up) = some .reached ∧ isGranted s.seat.alloc (.axis .lift) = false ∧
    s.seat.alloc.pending.find? (fun c => c.consumer = .axis .lift) = some liftClaim ∧ liftClaim.cls ≠ 0 ∧ ¬ liftClaim.cls ≠ 1 := by
  decide +kernel

theorem witness_CoastsStartTheNextMove_learning :
    (let x := axisOf (lift (fun y => learns .high (coasts .learn (some (jog .up)) .shed none y))).seat .lift
     x.drive = .coasting ∧ x.pending = none ∧ x.move = some (jog .up) ∧ x.owner = .learn ∧ x.cause = some .shed ∧ x.learn ≠ .settle ∧
     endsAtOnce axisDefaults.lift x (jog .up) = none) ∧
    (let p : Pending := { move := toward 8193 .up, owner := .link }
     let x := axisOf (lift (fun y => { coasts .link none .request none y with pending := some p })).seat .lift
     x.drive = .coasting ∧ x.pending = some p ∧ x.learn ≠ .settle ∧ Owner.link ≠ .learn ∧
     endsAtOnce axisDefaults.lift x p.move = some .reached) := by decide +kernel

theorem witness_LearnRunsGoThroughTheirPhases_settles :
    let run (p : LearnPhase) (m : Move) (c : Cause) (r : Option MoveResult) (n : Nat) : AxisState :=
      axisOf (lift (fun y => { learns p (coasts .learn (some m) c r y) with position := n })).seat .lift
    (∀ n ∈ [11967, 11973],
      let x := run .high (jog .up) .stall (some .endStop) n
      x.drive = .coasting ∧ x.pending = none ∧ x.owner = .learn ∧ x.confidence = .unlearned ∧ x.learn = .high ∧
      11970 = max (256 + axisDefaults.lift.softMargin) (12000 - axisDefaults.lift.softMargin) ∧
      11970 ≤ x.position + axisDefaults.lift.onTarget ∧ x.position ≤ 11970 + axisDefaults.lift.onTarget) ∧
    (∀ d, ∀ n ∈ [11966, 11968, 11970, 11972, 11974],
      let x := run .settle (toward 11970 d) .lead none n
      x.learn = .settle ∧ x.cause = some .lead ∧ x.coastResult = none ∧ x.highStop = some 12000 ∧
      x.move = some { kind := .toTarget 11970, dir := d, expiry := none }) ∧
    (let x := run .settle (toward 11970 .down) .shed none 11973
     x.learn = .settle ∧ x.cause = some .shed ∧ x.coastResult = none ∧ x.highStop = some 12000 ∧
     x.move = some { kind := .toTarget 11970, dir := .down, expiry := none } ∧ x.position ≤ 11970 + axisDefaults.lift.onTarget) ∧
    (axisOf (lift (fun y => learns .low { coasts .learn (some (jog .down)) .stall (some .endStop) y with dirty := .queued })).seat
      .lift).dirty = .queued ∧ holdsClaim part.seat.alloc (.axis .lift) = false := by
  and_intros <;> first | decide +kernel | (intro d; cases d <;> decide +kernel)

theorem witness_RecallPartsAreApplied :
    faulty.seat.gallery.state = .fault ∧
    (let s := resting (List.replicate 12 (opFor .lu .fill 100 .support))
     s.seat.gallery.queue.find? (fun o => o.bladder = .ll) = none ∧ s.base.cfg.queueLimit ≤ s.seat.gallery.queue.length) ∧
    (let s := resting (List.replicate 11 (opFor .lu .fill 100 .support))
     s.seat.gallery.state ≠ .fault ∧ s.seat.gallery.queue.find? (fun o => o.bladder = .ll) = none ∧
     s.seat.gallery.queue.length < s.base.cfg.queueLimit) ∧
    (resting [opFor .bbl .vent 0 .brace]).seat.gallery.queue.find? (fun o => o.bladder = .bbl) = some (opFor .bbl .vent 0 .brace) ∧
    (opFor .bbl .vent 0 .brace).origin = .brace ∧
    (resting [opFor .lu .fill 100 .support]).seat.gallery.queue.find? (fun o => o.bladder = .lu) = some (opFor .lu .fill 100 .support) ∧
    (opFor .lu .fill 100 .support).origin ≠ .brace ∧ Works part ∧ part.seat.brace.mode = .idle ∧ Works (inMode .releasing part) ∧
    (inMode .releasing part).seat.brace.mode = .releasing := by decide +kernel

theorem witness_CompressorGrantsAndShedsReachTheGallery :
    (working .filling (opFor .lu .fill 100 .support)).seat.gallery.state = .filling ∧ (resting []).seat.gallery.state ≠ .filling ∧
    (1023 : Nat) < 1024 := by decide +kernel

theorem witness_PatternEndReplies :
    Works part ∧ part.base.link.begun = false ∧ patternOfCode 8 = some .n8 ∧ part.base.patterns.staging = none ∧
    (let s := stagedWith 1 [inflate] part
     Works s ∧ s.base.link.begun = false ∧ s.base.patterns.staging.map Staging.pattern = some .n8 ∧ PatternNo.n8 ≠ .n1) := by
  decide +kernel

theorem witness_MassageOperationsAreWithdrawn :
    (∀ o, (resting [opFor .m1 .fill 100 .massage, opFor .lu .fill 100 .support]).seat.gallery.inFlight = some o → o.origin ≠ .massage) ∧
    (let o := opFor .m2 .vent 0 .massage
     let s := galleryWith (fun g => { g with queue := [opFor .m1 .fill 100 .massage] }) (working .venting o)
     s.seat.gallery.inFlight = some o ∧ o.origin = .massage ∧ s.seat.gallery.queue.length = 1) :=
  ⟨fun o h => (by cases h), by decide +kernel⟩

theorem witness_FansRunAtTheirGrant :
    (∀ n : Fin 4,
      let s := holding { consumer := .fan .c, cls := 3, amount := 11, arrival := 0, level := n } part
      (s.seat.alloc.granted.find? (fun h => h.claim.consumer = .fan .c)).map (fun g => g.claim.level) = some n.val) ∧
    (∀ g ∈ part.seat.alloc.granted, g.claim.consumer ≠ .fan .c) := by decide +kernel

theorem witness_PressesEndTheRestore :
    (recallWith (recallOf .running) (inMode .releasing part)).seat.recallCtx = some (recallOf .running) := by decide +kernel

theorem witness_StandDownAndCrashAct_crash :
    Works liftDrives ∧ liftDrives.seat.brace.mode ≠ .locked ∧ present liftDrives.base.fit .lift = true ∧
    (axisOf liftDrives.seat .lift).drive = .driving ∧
    (axisOf (lift (coasts .link (some (jog .up)) .stall (some .endStop))).seat .lift).drive = .coasting ∧
    (recallWith (recallOf .running) part).seat.recallCtx.isSome = true ∧ (walking id).seat.engine.state ≠ .off := by decide +kernel

theorem witness_AxisContactsAct_stuck :
    (let s := pressedIn (.axis .lift .up) .active part
     (contactOf s.seat.scanner (.axis .lift .up)).cond = some .active ∧ ownerMet s.seat.brace.mode (axisOf s.seat .lift) ≠ .manual) ∧
    (let s := pressedIn (.key .mem1) .active (recallWith { recallOf .running with deadMan := some .mem1 } part)
     Works s ∧ (contactOf s.seat.scanner (.key .mem1)).cond = some .active ∧
     s.seat.recallCtx = some { recallOf .running with deadMan := some .mem1 } ∧
     (contactOf s.seat.scanner (.key .mem1)).stuckLeft.isSome = true) ∧
    (let s := pressedIn (.key .mem1) .active part
     (contactOf s.seat.scanner (.key .mem1)).cond = some .active ∧ s.seat.recallCtx = none) ∧
    (contactOf (pressedIn (.lumbar .stepIn) .active part).seat.scanner (.lumbar .stepIn)).cond = some .active := by decide +kernel

theorem witness_KeysAndLumbarContactsAct_noAsk :
    let s := pressedIn (.lumbar .stepOut) .active (resting [])
    (contactOf s.seat.scanner (.lumbar .stepOut)).cond = some .active ∧
    (∀ j, j ≠ .stepOut → (contactOf s.seat.scanner (.lumbar j)).cond ≠ some .active) ∧
    lumbarVerdict s.base s.seat.gallery .stepOut = .taken ∧ lumbarAsks s.seat.gallery .stepOut = [] := by
  and_intros <;> first | decide +kernel | (intro j; cases j <;> decide +kernel)

end Sys2Proof.Tests
end

section
/-! SUPPORT. The supply commands, the end of the threshold settle and one supply sample (02_supply_allocation.md R42, R44 to
R46): what each function of the monitor answers, then the claim on the supply. -/
namespace Sys2Proof.Machine

/-! ### Frames and events of a part that works -/

/-- R170: the plain commands pass in IDLE and in RELEASING alone. -/
theorem passes_plain_iff (m : BraceMode) : passes m .plain = true ↔ m = .idle ∨ m = .releasing := by
  cases m <;> simp [passes]

/-- R170: a command that the restricted mode stops changes nothing but the link. -/
theorem comfort_restricted {s : State} (h : Works s) {k act} (hp : passes s.seat.brace.mode k = false) :
    comfort k act s = .next (refused s .restricted) := by
  unfold comfort
  rw [frame_works h]
  simp only [guarded, openFrame_seat, hp, Bool.false_eq_true, if_false, refused]

theorem wholeEvent_works {s : State} (h : Works s) (f : State → State) : wholeEvent s f = .next (f s) := if_pos h

theorem openFrame_monitor (s : State) : (openFrame s).base.monitor = s.base.monitor := by
  obtain ⟨l, -, e⟩ := openFrame_base s
  rw [e]

/-- The end of a frame keeps a monitor that the command has written. -/
theorem closeFrame_withMonitor (s : State) (m : Monitor) (r : Result) :
    closeFrame (withMonitor s m) r [] = withMonitor (closeFrame s r []) m := rfl

/-! ### SET SUPPLY CEILING (R42) -/

theorem exec_setSupplyCeiling_range {s : State} {n : Nat} (h : Works s) (hp : passes s.seat.brace.mode .plain = true)
    (hn : 400 < n) : exec (.setSupplyCeiling n) s = .next (refused s .range) :=
  comfort_refuses h hp fun _ _ => if_pos hn

theorem exec_setSupplyCeiling_accepted {s : State} {n : Nat} (h : Works s) (hp : passes s.seat.brace.mode .plain = true)
    (hn : n ≤ 400) : exec (.setSupplyCeiling n) s = .next (answered s .accepted (setCeiling s.seat n)) :=
  comfort_takes h hp fun _ _ => if_neg (Nat.not_lt.mpr hn)

/-! ### SET SUPPLY THRESHOLDS (R46) -/

theorem thresholdsValid_iff (low cutoff : Nat) : thresholdsValid low cutoff = true ↔
    8000 ≤ low ∧ low ≤ 12000 ∧ 6000 ≤ cutoff ∧ cutoff ≤ 9000 ∧ low % 250 = 0 ∧ cutoff % 250 = 0 ∧ cutoff < low := by
  simp only [thresholdsValid, Bool.and_eq_true, decide_eq_true_eq, and_assoc]

theorem exec_setSupplyThresholds_range {s : State} {low cutoff : Nat} (h : Works s)
    (hp : passes s.seat.brace.mode .plain = true) (hv : ¬ thresholdsValid low cutoff = true) :
    exec (.setSupplyThresholds low cutoff) s = .next (refused s .range) := by
  change comfort .plain (setSupplyThresholds low cutoff) s = _
  rw [comfort_run h hp]
  simp only [setSupplyThresholds, if_neg hv, refused]

theorem exec_setSupplyThresholds_accepted {s : State} {low cutoff : Nat} (h : Works s)
    (hp : passes s.seat.brace.mode .plain = true) (hv : thresholdsValid low cutoff = true) :
    exec (.setSupplyThresholds low cutoff) s =
      .next (withMonitor (refused s .accepted) (setThresholds s.base.monitor low cutoff)) := by
  change comfort .plain (setSupplyThresholds low cutoff) s = _
  rw [comfort_run h hp]
  simp only [setSupplyThresholds, if_pos hv, openFrame_monitor, closeFrame_withMonitor, refused]

theorem exec_thresholdSettleEnd {s : State} (h : Works s) :
    exec .thresholdSettleEnd s = .next (withMonitor s { s.base.monitor with settleLeft := none }) :=
  wholeEvent_works h fun t => withMonitor t { t.base.monitor with settleLeft := none }

/-! ### One sample (R44, R45) -/

/-- R44: a full window loses its oldest sample, another grows by one. -/
theorem pushSample_eq {w : List Nat} (hw : w.length ≤ 8) (mv : Nat) :
    pushSample w mv = if w.length = 8 then (w ++ [min mv 20000]).tail else w ++ [min mv 20000] := by
  unfold pushSample heldVoltage
  split
  · next full => simp [full, List.drop_one]
  · next short =>
    have fits : (w ++ [min mv 20000]).length - 8 = 0 := by simp; omega
    simp only [fits, List.drop_zero]

/-- R44: no averaged value is produced before the window holds 8 samples. -/
theorem takeSample_filling {m : Monitor} {mv : Nat} {w : List Nat} (pushed : pushSample m.window mv = w) (short : w.length < 8) :
    takeSample m mv = { m with window := w } := by
  simp only [takeSample, pushed, if_pos short]

/-- R44: with 8 samples the average of the window is the value taken. -/
theorem takeSample_full {m : Monitor} {mv : Nat} {w : List Nat} (pushed : pushSample m.window mv = w) (full : w.length = 8) :
    takeSample m mv = takeValue { m with window := w } (w.sum / 8) := by
  simp only [takeSample, pushed, full, Nat.lt_irrefl, if_false]

/-- R46: during a settle the averaged value is not compared. -/
theorem takeSample_settling {m : Monitor} {mv : Nat} {w : List Nat} (pushed : pushSample m.window mv = w) (full : w.length = 8)
    (settling : m.settleLeft.isSome = true) : takeSample m mv = { m with window := w, v := w.sum / 8 } := by
  rw [takeSample_full pushed full]
  exact if_pos settling

/-- R45: outside a settle the run counts take the averaged value, and they decide the state. -/
theorem takeSample_judged {m : Monitor} {mv : Nat} {w : List Nat} (pushed : pushSample m.window mv = w) (full : w.length = 8)
    (steady : m.settleLeft = none) :
    let counted := countValue { m with window := w, v := w.sum / 8 } (w.sum / 8)
    takeSample m mv = { counted with state := judgeSupply counted } := by
  rw [takeSample_full pushed full]
  exact if_neg (by simp [steady])

theorem runCount_decide (n : Nat) (c : Prop) [Decidable c] : runCount n (decide c) = if c then min 4 (n + 1) else 0 := by
  simp only [runCount, decide_eq_true_eq]

/-- R45: a sample that leaves the state as it was changes the monitor alone. -/
theorem supplySample_same {s : State} {mv : Nat} {next : Option Nat} {m : Monitor} (hm : takeSample s.base.monitor mv = m)
    (hs : m.state = s.base.monitor.state) :
    supplySample s mv next = withMonitor s { m with sampleLeft := next } := by
  simp only [supplySample, hm, hs, supplyChange, if_true, actOn_done]
  rfl

/-- R45: a sample that changes the state posts SUPPLY_STATE and makes a pass. -/
theorem supplySample_changed {s : State} {mv : Nat} {next : Option Nat} {m : Monitor} (hm : takeSample s.base.monitor mv = m)
    (hs : m.state ≠ s.base.monitor.state) :
    supplySample s mv next =
      actOn (withMonitor s { m with sampleLeft := next })
        (post s.seat .supplyState .none (toWord (monitorCode m.state)), [.pass]) := by
  simp only [supplySample, hm, supplyChange, hs.symm, if_false]
  rfl

theorem exec_monitorSample {s : State} (h : Works s) (mv : Nat) :
    exec (.monitorSample mv) s = .next (supplySample s mv (some s.base.cfg.monitorInterval)) :=
  wholeEvent_works h fun t => supplySample t mv (some t.base.cfg.monitorInterval)

/-- Settles O40, by the answers of each command and of each way in which a sample is taken. -/
theorem supplyIsSetAndMonitored : Obligations.SupplyIsSetAndMonitored := by
  unfold Obligations.SupplyIsSetAndMonitored
  refine ⟨fun s n low cutoff h => ⟨fun hm => ?_, fun hi hr => ?_, exec_thresholdSettleEnd h⟩, fun s mv h hw => ?_⟩
  · have hp := (passes_plain_iff _).mpr hm
    refine ⟨exec_setSupplyCeiling_range h hp, exec_setSupplyCeiling_accepted h hp, fun hv => ?_, fun hv => ?_⟩
    · exact exec_setSupplyThresholds_range h hp (mt (thresholdsValid_iff low cutoff).mp hv)
    · exact exec_setSupplyThresholds_accepted h hp ((thresholdsValid_iff low cutoff).mpr hv)
  · have hp : passes s.seat.brace.mode .plain = false := by
      rw [Bool.eq_false_iff, ne_eq, passes_plain_iff]
      exact not_or.mpr ⟨hi, hr⟩
    exact ⟨comfort_restricted h hp, comfort_restricted h hp⟩
  · intro m all w v sampled
    have pushed : pushSample m.window mv = w := pushSample_eq hw mv
    rw [exec_monitorSample h]
    refine ⟨fun short => ?_, fun full settling => ?_, fun full steady => ?_⟩
    · rw [supplySample_same (takeSample_filling pushed short) rfl]
      rfl
    · rw [supplySample_same (takeSample_settling pushed full settling) rfl]
      rfl
    · intro count belowLow belowCutoff clearLow clearCutoff state judged t
      have taken : takeSample m mv =
          { m with window := w, v := v, belowLow := belowLow, belowCutoff := belowCutoff, clearLow := clearLow,
                   clearCutoff := clearCutoff, state := state } := by
        rw [takeSample_judged pushed full steady]
        simp only [countValue, runCount_decide]
        rfl
      refine ⟨fun same => ?_, fun changed => ?_⟩
      · rw [supplySample_same taken same]
        rfl
      · rw [supplySample_changed taken changed]
        rfl

end Sys2Proof.Machine
end

section
/-! SUPPORT. The loading of patterns (06_massage_patterns.md R107 to R112, R185): the answers of LOAD PATTERN BEGIN, STEPS and END,
the judgement of the staged steps, the repacked store, and the reply of LOAD PATTERN END; then the claim on all of them. -/
namespace Sys2Proof.Machine

/-! ### Selectors, walks and room -/

theorem patternOfCode_none {n : Nat} (hn : n = 0 ∨ 8 < n) : patternOfCode n = none := by
  unfold patternOfCode
  split <;> first | rfl | omega

theorem within_iff (lo hi v : Nat) : within lo hi v = true ↔ lo ≤ v ∧ v ≤ hi := by
  simp only [within, Bool.and_eq_true, decide_eq_true_eq]

theorem walksPattern_iff (s : Seat) (k : PatternNo) :
    walksPattern s k = true ↔ (s.engine.state = .running ∨ s.engine.state = .paused) ∧ s.engine.pattern = some k := by
  simp only [walksPattern, Bool.and_eq_true, Bool.or_eq_true, decide_eq_true_eq]

/-- R177: a link write is refused for want of room alone. -/
theorem refusesLinkWrite_iff (q : StoreQueue) (w : RecordWrite) :
    refusesLinkWrite q w = true ↔ q.queue.any (sameRecord w) = false ∧ 9 ≤ q.queue.length := by
  simp only [refusesLinkWrite, Bool.and_eq_true, Bool.not_eq_true', decide_eq_true_eq]
  rfl

/-! ### Frames of the loading commands -/

theorem openFrame_patterns (s : State) : (openFrame s).base.patterns = s.base.patterns := by
  obtain ⟨l, -, e⟩ := openFrame_base s
  rw [e]

/-- A command that leaves the state as the frame found it changes nothing but the link. -/
theorem comfort_leaves {s : State} {r : Result} {k : CommandClass} {act : State → Result × State} (h : Works s)
    (hp : passes s.seat.brace.mode k = true) (ha : act (openFrame s) = (r, openFrame s)) :
    comfort k act s = .next (refused s r) := by
  rw [comfort_run h hp, ha]
  rfl

/-- An accepted frame that writes the patterns alone. -/
theorem comfort_writes_patterns {s : State} {q : Patterns} {k : CommandClass} {act : State → Result × State} (h : Works s)
    (hp : passes s.seat.brace.mode k = true) (ha : act (openFrame s) = (.accepted, withPatterns (openFrame s) q)) :
    comfort k act s = .next (withPatterns (refused s .accepted) q) := by
  rw [comfort_run h hp, ha]
  rfl

theorem refused_seat (s : State) (r : Result) :
    (refused s r).seat = { s.seat with notices := (refused s r).seat.notices } := by
  rw [refused_explicit]

/-! ### LOAD PATTERN BEGIN (R109) -/

theorem loadBegin_no_pattern {n count : Nat} (s : State) (hn : patternOfCode n = none) : loadBegin n count s = (.range, s) := by
  simp only [loadBegin, hn]

theorem loadBegin_count {n count : Nat} (s : State) (hc : ¬ (1 ≤ count ∧ count ≤ 48)) : loadBegin n count s = (.range, s) := by
  rw [← within_iff] at hc
  unfold loadBegin
  split
  · rfl
  · exact if_pos hc

theorem loadBegin_walked {n count : Nat} {s : State} {k : PatternNo} (hn : patternOfCode n = some k)
    (hc : 1 ≤ count ∧ count ≤ 48) (hw : walksPattern s.seat k = true) : loadBegin n count s = (.busy, s) := by
  simp only [loadBegin, hn, (within_iff 1 48 count).mpr hc, hw, not_true_eq_false, if_false, if_true]

theorem loadBegin_accepted {n count : Nat} {s : State} {k : PatternNo} (hn : patternOfCode n = some k)
    (hc : 1 ≤ count ∧ count ≤ 48) (hw : ¬ walksPattern s.seat k = true) :
    loadBegin n count s =
      (.accepted, withPatterns s { s.base.patterns with staging := some { pattern := k, declared := count, steps := [] } }) := by
  simp only [loadBegin, hn, (within_iff 1 48 count).mpr hc, hw, not_true_eq_false, Bool.false_eq_true, if_false]

/-! ### LOAD PATTERN STEPS (R110) -/

theorem loadSteps_count {count : Nat} (steps : List StepRec) (s : State) (hc : ¬ (1 ≤ count ∧ count ≤ 8)) :
    loadSteps count steps s = (.range, s) := by
  rw [← within_iff] at hc
  exact if_pos hc

theorem loadSteps_closed {count : Nat} (steps : List StepRec) {s : State} (hc : 1 ≤ count ∧ count ≤ 8)
    (hs : s.base.patterns.staging = none) : loadSteps count steps s = (.state, s) := by
  simp only [loadSteps, (within_iff 1 8 count).mpr hc, hs, not_true_eq_false, if_false]

theorem loadSteps_long {count : Nat} (steps : List StepRec) {s : State} {st : Staging} (hc : 1 ≤ count ∧ count ≤ 8)
    (hs : s.base.patterns.staging = some st) (hl : st.declared < st.steps.length + count) :
    loadSteps count steps s = (.length, s) := by
  simp only [loadSteps, (within_iff 1 8 count).mpr hc, hs, hl, not_true_eq_false, if_false, if_true]

theorem loadSteps_accepted {count : Nat} (steps : List StepRec) {s : State} {st : Staging} (hc : 1 ≤ count ∧ count ≤ 8)
    (hs : s.base.patterns.staging = some st) (hl : st.steps.length + count ≤ st.declared) :
    loadSteps count steps s =
      (.accepted,
        withPatterns s { s.base.patterns with staging := some { st with steps := st.steps ++ steps.take count } }) := by
  simp only [loadSteps, (within_iff 1 8 count).mpr hc, hs, Nat.not_lt.mpr hl, not_true_eq_false, if_false]

/-! ### LOAD PATTERN END (R111, R112) -/

section
variable {n : Nat} {s : State} {k : PatternNo} {st : Staging}

theorem loadEnd_no_pattern (s : State) (hn : patternOfCode n = none) : loadEnd n s = (.range, s) := by
  simp only [loadEnd, hn]

theorem loadEnd_closed (hn : patternOfCode n = some k) (hs : s.base.patterns.staging = none) : loadEnd n s = (.state, s) := by
  simp only [loadEnd, hn, hs]

theorem loadEnd_other (hn : patternOfCode n = some k) (hs : s.base.patterns.staging = some st) (hk : st.pattern ≠ k) :
    loadEnd n s = (.state, s) := by
  simp only [loadEnd, hn, hs, hk, ne_eq, not_false_eq_true, if_true]

theorem loadEnd_walked (hn : patternOfCode n = some k) (hs : s.base.patterns.staging = some st) (hk : st.pattern = k)
    (hw : walksPattern s.seat k = true) : loadEnd n s = (.busy, s) := by
  simp only [loadEnd, hn, hs, hk, hw, ne_eq, not_true_eq_false, if_false, if_true]

theorem loadEnd_judged (hn : patternOfCode n = some k) (hs : s.base.patterns.staging = some st) (hk : st.pattern = k)
    (hw : ¬ walksPattern s.seat k = true) : loadEnd n s = endStaged s k st := by
  simp only [loadEnd, hn, hs, hk, hw, ne_eq, not_true_eq_false, Bool.false_eq_true, if_false]

theorem endStaged_unsound (s : State) (k : PatternNo) (hj : ¬ (judgeSteps st.declared st.steps).check = 0) :
    endStaged s k st = (.invalid, withPatterns s { s.base.patterns with staging := none }) := if_neg hj

theorem endStaged_sound (s : State) (k : PatternNo) (hj : (judgeSteps st.declared st.steps).check = 0) :
    endStaged s k st = commitPattern s k st := if_pos hj

theorem commitPattern_full (hr : roomFor s.base.patterns k < st.declared) : commitPattern s k st = (.full, s) := if_pos hr

theorem commitPattern_busy (hr : st.declared ≤ roomFor s.base.patterns k)
    (hq : refusesLinkWrite s.seat.store (.pattern k none) = true) : commitPattern s k st = (.busy, s) := by
  rw [commitPattern, if_neg (Nat.not_lt.mpr hr), if_pos hq]

theorem commitPattern_accepted (hr : st.declared ≤ roomFor s.base.patterns k)
    (hq : ¬ refusesLinkWrite s.seat.store (.pattern k none) = true) :
    commitPattern s k st =
      (.accepted,
        withSeat (withPatterns s (repack s.base.patterns k st.steps))
          (queueWrite s.seat (.pattern k (some st.steps)))) := by
  rw [commitPattern, if_neg (Nat.not_lt.mpr hr), if_neg hq]

end

/-! ### The frame of LOAD PATTERN END (R168, R185) -/

/-- LOAD PATTERN END answers `r` and leaves these patterns and this store queue; engine, gallery, axes, claims, settings and records
stay. -/
def EndAnswers (s : State) (n : Nat) (r : Result) (q : Patterns) (store : StoreQueue) : Prop :=
  ∃ t : State, exec (.loadPatternEnd n) s = .next t ∧ t.base.link.lastResult = r ∧ t.base.patterns = q ∧
    t.seat.store = store ∧ t.seat.engine = s.seat.engine ∧ t.seat.gallery = s.seat.gallery ∧ t.seat.axes = s.seat.axes ∧
    t.seat.alloc = s.seat.alloc ∧ t.base.cfg = s.base.cfg ∧ t.base.records = s.base.records

/-- The start of a frame changes nothing but the link. -/
theorem openFrame_withLink (s : State) : ∃ l : Link, l.vehicle = s.base.link.vehicle ∧ openFrame s = withLink s l := by
  unfold openFrame
  split
  · exact ⟨s.base.link, rfl, rfl⟩
  · exact ⟨{ s.base.link with begun := true, header := statusHeader s.base s.seat, captured := none }, rfl, rfl⟩

/-- Only the capture of a notice reaches beyond the link. -/
theorem ensureCaptured_withLink {f : ReadFrame} (hf : f ≠ .notice) (s : State) : ∃ l : Link, ensureCaptured f s = withLink s l := by
  have captured : captureReply f s = withLink s { s.base.link with captured := some (f, replyBytes f s.base s.seat) } := if_neg hf
  unfold ensureCaptured
  split
  · split
    · exact ⟨s.base.link, rfl⟩
    · exact ⟨_, captured⟩
  · exact ⟨_, captured⟩

theorem exec_loadPatternEnd_works {s : State} {n : Nat} (h : Works s) :
    let t := ensureCaptured (.patternEnd n) (openFrame s)
    exec (.loadPatternEnd n) s =
      .next (closeFrame (guarded .plain (loadEnd n) t).2 (guarded .plain (loadEnd n) t).1 (capturedBytes t)) := by
  change execLoadPatternEnd n s = _
  rw [execLoadPatternEnd, frame_works h]

/-- What LOAD PATTERN END does once its frame is open, whatever the link holds, is what it answers. -/
theorem endAnswers_of_loadEnd {s : State} {n : Nat} {r : Result} {q : Patterns} {store : StoreQueue} (h : Works s)
    (hp : passes s.seat.brace.mode .plain = true)
    (he : ∀ l, loadEnd n (withLink s l) = (r, withSeat (withPatterns (withLink s l) q) { s.seat with store := store })) :
    EndAnswers s n r q store := by
  obtain ⟨l, -, opened⟩ := openFrame_withLink s
  obtain ⟨m, captured⟩ := ensureCaptured_withLink (f := .patternEnd n) (fun e => nomatch e) (openFrame s)
  have reached : ensureCaptured (.patternEnd n) (openFrame s) = withLink s m := by rw [captured, opened]; rfl
  have acts : guarded .plain (loadEnd n) (withLink s m) = loadEnd n (withLink s m) := if_pos hp
  refine ⟨_, exec_loadPatternEnd_works h, ?_⟩
  rw [reached, acts, he]
  exact ⟨rfl, rfl, rfl, rfl, rfl, rfl, rfl, rfl, rfl⟩

/-- LOAD PATTERN END that leaves the state as its frame found it. -/
theorem endAnswers_of_left {s : State} {n : Nat} {r : Result} (h : Works s) (hp : passes s.seat.brace.mode .plain = true)
    (he : ∀ l, loadEnd n (withLink s l) = (r, withLink s l)) : EndAnswers s n r s.base.patterns s.seat.store :=
  endAnswers_of_loadEnd h hp he

/-- The start of a frame leaves every reply as it was. -/
theorem replyOf_openFrame (f : ReadFrame) (s : State) : replyOf f (openFrame s).base (openFrame s).seat = replyOf f s.base s.seat := by
  obtain ⟨l, vehicle, opened⟩ := openFrame_withLink s
  rw [opened]
  exact replyOf_link f s l vehicle

/-- R168: a frame that has not begun captures its reply from the state as it stands. -/
theorem capturedBytes_of_fresh {s : State} {f : ReadFrame} {l : List Byte} (hb : s.base.link.begun = false)
    (hr : replyOf f s.base s.seat = some l) : capturedBytes (ensureCaptured f (openFrame s)) = l := by
  have fresh : (openFrame s).base.link.captured = none := by
    rw [openFrame, if_neg (by simp [hb])]
    rfl
  have reply : replyBytes f (openFrame s).base (openFrame s).seat = l := by
    rw [replyBytes, replyOf_openFrame, hr]
    rfl
  have captures : ensureCaptured f (openFrame s) = captureReply f (openFrame s) := by
    simp only [ensureCaptured, fresh]
  rw [captures]
  unfold captureReply
  split <;> exact reply

theorem exec_loadPatternEnd_reply {s : State} {n : Nat} {l : List Byte} (h : Works s) (hb : s.base.link.begun = false)
    (hr : patternEndReply s.base n = l) :
    replyOf (.patternEnd n) s.base s.seat = some l ∧ ∃ t, exec (.loadPatternEnd n) s = .next t ∧ t.base.link.reply = l := by
  have reply : replyOf (.patternEnd n) s.base s.seat = some l := congrArg some hr
  exact ⟨reply, _, exec_loadPatternEnd_works h, capturedBytes_of_fresh hb reply⟩

/-- R185: both bytes are 0 for a number that names no pattern. -/
theorem patternEndReply_no_pattern {n : Nat} (b : Base) (hn : patternOfCode n = none) : patternEndReply b n = [0, 0] := by
  simp only [patternEndReply, hn]

theorem patternEndReply_pattern {n : Nat} {k : PatternNo} (b : Base) (hn : patternOfCode n = some k) :
    patternEndReply b n = [toByte (judgeStaged b.patterns k).check, toByte (judgeStaged b.patterns k).index] := by
  simp only [patternEndReply, hn]
  rfl

theorem judgeStaged_open {p : Patterns} {k : PatternNo} {st : Staging} (hs : p.staging = some st) (hk : st.pattern = k) :
    judgeStaged p k = judgeSteps st.declared st.steps := by
  simp only [judgeStaged, hs, hk, if_true]

theorem judgeStaged_not_open {p : Patterns} {k : PatternNo} (hs : ∀ st, p.staging = some st → st.pattern ≠ k) :
    judgeStaged p k = { check := 0, index := 0 } := by
  unfold judgeStaged
  split
  · next st opened => exact if_neg (hs st opened)
  · rfl

/-! ### The repacked store (R112) -/

/-- Every present pattern lies inside the step store. -/
def InStore (p : Patterns) : Prop := ∀ j e, p.directory.get j = some e → e.start + e.length ≤ p.steps.length

theorem inStore_placePattern {p : Patterns} (n : PatternNo) (steps : List StepRec) (h : InStore p) :
    InStore (placePattern p n steps) := by
  intro j e he
  simp only [placePattern, PerPattern.get_set, List.length_append] at he ⊢
  split at he
  · cases he
    exact Nat.le_refl _
  · have := h j e he
    omega

theorem patternSteps_placePattern_same (p : Patterns) (n : PatternNo) (steps : List StepRec) :
    patternSteps (placePattern p n steps) n = steps := by
  simp [patternSteps, placePattern]

/-- Steps placed behind the store leave the patterns that lie inside it. -/
theorem patternSteps_placePattern_ne {p : Patterns} {n j : PatternNo} (steps : List StepRec) (h : InStore p) (hj : j ≠ n) :
    patternSteps (placePattern p n steps) j = patternSteps p j := by
  simp only [patternSteps, placePattern, PerPattern.get_set_ne _ _ hj]
  split
  · next e he =>
    have inside := h j e he
    rw [List.drop_append_of_le_length (by omega), List.take_append_of_le_length (by rw [List.length_drop]; omega)]
  · rfl

/-- Patterns placed one after the other with the steps that `p` holds for them. -/
def placeAll (p : Patterns) (l : List PatternNo) (q : Patterns) : Patterns :=
  l.foldl (fun q k => placePattern q k (patternSteps p k)) q

theorem inStore_placeAll {p : Patterns} (l : List PatternNo) {q : Patterns} (h : InStore q) : InStore (placeAll p l q) :=
  foldl_keeps InStore _ (fun _ k => inStore_placePattern k (patternSteps p k)) l q h

theorem placeAll_staging (p : Patterns) (l : List PatternNo) (q : Patterns) : (placeAll p l q).staging = q.staging :=
  foldl_keeps (fun x : Patterns => x.staging = q.staging) (fun x k => placePattern x k (patternSteps p k)) (fun _ _ e => e) l q rfl

/-- Each pattern placed holds the steps that `p` holds for it; the others hold what they held. -/
theorem patternSteps_placeAll {p : Patterns} (l : List PatternNo) {q : Patterns} (h : InStore q) (j : PatternNo) :
    patternSteps (placeAll p l q) j = if j ∈ l then patternSteps p j else patternSteps q j := by
  induction l generalizing q with
  | nil => simp [placeAll]
  | cons k rest ih =>
    have next : patternSteps (placeAll p (k :: rest) q) j =
        if j ∈ rest then patternSteps p j else patternSteps (placePattern q k (patternSteps p k)) j :=
      ih (inStore_placePattern k (patternSteps p k) h)
    rw [next]
    by_cases hk : j = k
    · subst hk
      simp [patternSteps_placePattern_same]
    · simp [hk, patternSteps_placePattern_ne _ h hk]

theorem mem_insertByStart {x y : PatternNo × Nat} {l : List (PatternNo × Nat)} : y ∈ insertByStart x l ↔ y = x ∨ y ∈ l := by
  induction l with
  | nil => simp [insertByStart]
  | cons z rest ih =>
    simp only [insertByStart]
    split
    · simp only [List.mem_cons, ih]
      tauto
    · simp only [List.mem_cons]

theorem mem_foldl_insertByStart {y : PatternNo × Nat} (l acc : List (PatternNo × Nat)) :
    y ∈ l.foldl (fun a x => insertByStart x a) acc ↔ y ∈ l ∨ y ∈ acc := by
  induction l generalizing acc with
  | nil => simp
  | cons x rest ih =>
    simp only [List.foldl_cons, ih, mem_insertByStart, List.mem_cons]
    tauto

theorem mem_patternOrder (j : PatternNo) : j ∈ patternOrder := by cases j <;> decide

/-- R112: every other present pattern is moved. -/
theorem mem_othersByStart {p : Patterns} {n j : PatternNo} {e : PatternEntry} (hj : j ≠ n) (he : p.directory.get j = some e) :
    j ∈ othersByStart p n := by
  refine List.mem_map.mpr ⟨(j, e.start), (mem_foldl_insertByStart _ _).mpr (.inl ?_), rfl⟩
  exact List.mem_filterMap.mpr ⟨j, mem_patternOrder j, by simp [hj, he]⟩

theorem inStore_emptyPatterns : InStore emptyPatterns := by
  intro j e he
  simp [emptyPatterns] at he

theorem patternSteps_emptyPatterns (j : PatternNo) : patternSteps emptyPatterns j = [] := by
  simp [patternSteps, emptyPatterns]

theorem repack_eq (p : Patterns) (n : PatternNo) (steps : List StepRec) :
    repack p n steps = placePattern (placeAll p (othersByStart p n) emptyPatterns) n steps := rfl

theorem repack_staging (p : Patterns) (n : PatternNo) (steps : List StepRec) : (repack p n steps).staging = none :=
  placeAll_staging p (othersByStart p n) emptyPatterns

/-- R112: the new pattern stands last, with the cells that its steps name. -/
theorem repack_last (p : Patterns) (n : PatternNo) (steps : List StepRec) : ∃ others, (repack p n steps).steps = others ++ steps ∧
    (repack p n steps).directory.get n = some { start := others.length, length := steps.length, cells := cellsOf steps } := by
  rw [repack_eq]
  exact ⟨_, rfl, PerPattern.get_set_same ..⟩

/-- R112: the other patterns keep their steps. -/
theorem patternSteps_repack_ne {p : Patterns} {n j : PatternNo} (steps : List StepRec) (hj : j ≠ n) :
    patternSteps (repack p n steps) j = patternSteps p j := by
  rw [repack_eq, patternSteps_placePattern_ne _ (inStore_placeAll _ inStore_emptyPatterns) hj,
    patternSteps_placeAll _ inStore_emptyPatterns]
  split
  · rfl
  · next absent =>
    have empty : p.directory.get j = none := Option.eq_none_iff_forall_ne_some.mpr fun e he => absent (mem_othersByStart hj he)
    rw [patternSteps_emptyPatterns, patternSteps, empty]

/-! ### Checks 5 and 6: COUNT and FIELD (R108, R111) -/

theorem stepValid_iff (st : StepRec) : stepValid st = true ↔
    ((st.action = 0 ∨ st.action = 1) ∧ st.cells ≠ 0 ∧ st.value ≤ 100) ∨
    (st.action = 2 ∧ 1 ≤ st.value ∧ st.value ≤ 255) ∨ (st.action = 3 ∧ 2 ≤ st.value ∧ st.value ≤ 255) ∨ st.action = 4 := by
  unfold stepValid
  split <;> simp_all

theorem firstInvalid_none (i : Nat) {steps : List StepRec} (h : ∀ k ∈ steps, stepValid k = true) : firstInvalid i steps = none := by
  induction steps generalizing i with
  | nil => rfl
  | cons st rest ih =>
    rw [List.forall_mem_cons] at h
    rw [firstInvalid, if_pos h.1, ih _ h.2]

theorem firstInvalid_at (i : Nat) {before : List StepRec} {st : StepRec} (after : List StepRec)
    (h : ∀ k ∈ before, stepValid k = true) (hst : ¬ stepValid st = true) :
    firstInvalid i (before ++ st :: after) = some (i + before.length) := by
  induction before generalizing i with
  | nil => exact if_neg hst
  | cons k rest ih =>
    rw [List.forall_mem_cons] at h
    rw [List.cons_append, firstInvalid, if_pos h.1, ih _ h.2, List.length_cons]
    congr 1
    omega

theorem judgeSteps_count {declared : Nat} {steps : List StepRec} (h : steps.length < declared) :
    judgeSteps declared steps = { check := 1, index := steps.length } := if_pos h

theorem judgeSteps_field {declared i : Nat} {steps : List StepRec} (h : declared ≤ steps.length)
    (hf : firstInvalid 0 steps = some i) : judgeSteps declared steps = { check := 2, index := i } := by
  simp only [judgeSteps, Nat.not_lt.mpr h, hf, if_false]

theorem judgeSteps_nesting {declared i : Nat} {steps : List StepRec} (h : declared ≤ steps.length)
    (hf : ∀ k ∈ steps, stepValid k = true) (hn : nestingFault 0 [] steps = some i) :
    judgeSteps declared steps = { check := 3, index := i } := by
  simp only [judgeSteps, Nat.not_lt.mpr h, firstInvalid_none 0 hf, hn, if_false]

theorem judgeSteps_sound {declared : Nat} {steps : List StepRec} (h : declared ≤ steps.length)
    (hf : ∀ k ∈ steps, stepValid k = true) (hn : nestingFault 0 [] steps = none) :
    judgeSteps declared steps = { check := 0, index := 0 } := by
  simp only [judgeSteps, Nat.not_lt.mpr h, firstInvalid_none 0 hf, hn, if_false]

/-! ### Check 7: NESTING (R111) -/

/-- How much deeper the walk is after a step. -/
def stepDepth (st : StepRec) : Int := if st.action = 3 then 1 else if st.action = 4 then -1 else 0

/-- The OPEN_REPEATs of steps less their CLOSE_REPEATs. -/
def repeatDepth (l : List StepRec) : Int :=
  ((l.filter (fun st => st.action = 3)).length : Int) - ((l.filter (fun st => st.action = 4)).length : Int)

@[simp] theorem repeatDepth_nil : repeatDepth [] = 0 := rfl

@[simp] theorem repeatDepth_cons (st : StepRec) (l : List StepRec) : repeatDepth (st :: l) = stepDepth st + repeatDepth l := by
  unfold repeatDepth stepDepth
  by_cases h3 : st.action = 3
  · simp [h3]
    omega
  · by_cases h4 : st.action = 4
    · simp [h4]
      omega
    · simp [h3, h4]

theorem repeatDepth_append (l r : List StepRec) : repeatDepth (l ++ r) = repeatDepth l + repeatDepth r := by
  induction l with
  | nil => simp
  | cons st rest ih => simp [ih, add_assoc]

/-- From depth `d`, the walk over the steps stays between depth 0 and `most`. -/
def StaysNested (d most : Int) (l : List StepRec) : Prop :=
  ∀ before after, l = before ++ after → 0 ≤ d + repeatDepth before ∧ d + repeatDepth before ≤ most

theorem StaysNested.head {d most : Int} {st : StepRec} {l : List StepRec} (h : StaysNested d most (st :: l)) :
    0 ≤ d + stepDepth st ∧ d + stepDepth st ≤ most := by
  simpa using h [st] l rfl

theorem StaysNested.tail {d most : Int} {st : StepRec} {l : List StepRec} (h : StaysNested d most (st :: l)) :
    StaysNested (d + stepDepth st) most l := by
  rintro before after rfl
  simpa [add_assoc] using h (st :: before) after rfl

/-- The open repeats after one step at index `i`, innermost first. -/
def stackAfter (i : Nat) (stack : List Nat) (st : StepRec) : List Nat :=
  if st.action = 3 then i :: stack else if st.action = 4 then stack.tail else stack

/-- The open repeats after steps of which the first has index `i`, innermost first. -/
def openRepeats : Nat → List Nat → List StepRec → List Nat
  | _, stack, [] => stack
  | i, stack, st :: rest => openRepeats (i + 1) (stackAfter i stack st) rest

theorem stackAfter_length (i : Nat) {stack : List Nat} {st : StepRec} (h : 0 ≤ (stack.length : Int) + stepDepth st) :
    ((stackAfter i stack st).length : Int) = stack.length + stepDepth st := by
  unfold stackAfter stepDepth at *
  split
  · simp
  · split
    · simp_all
      omega
    · simp

theorem stackAfter_append (i : Nat) {inner : List Nat} (outer : List Nat) {st : StepRec}
    (h : 0 ≤ (inner.length : Int) + stepDepth st) : stackAfter i (inner ++ outer) st = stackAfter i inner st ++ outer := by
  unfold stackAfter
  split
  · rfl
  · split
    · next h3 h4 =>
      cases inner with
      | nil => simp [stepDepth, h4] at h
      | cons x rest => rfl
    · rfl

theorem nestingFault_cons (i : Nat) {stack : List Nat} {st : StepRec} (rest : List StepRec)
    (h : 0 ≤ (stack.length : Int) + stepDepth st ∧ (stack.length : Int) + stepDepth st ≤ 2) :
    nestingFault i stack (st :: rest) = nestingFault (i + 1) (stackAfter i stack st) rest := by
  by_cases h3 : st.action = 3
  · have room : ¬ 2 ≤ stack.length := by
      simp only [stepDepth, h3, if_true] at h
      omega
    simp only [nestingFault, stackAfter, h3, room, if_true, if_false]
  · by_cases h4 : st.action = 4
    · cases stack with
      | nil => simp [stepDepth, h4] at h
      | cons x outer => simp [nestingFault, stackAfter, h4]
    · simp only [nestingFault, stackAfter, h3, h4, if_false]

/-- The walk over steps that stay nested goes on with the repeats they leave open. -/
theorem nestingFault_append {i : Nat} {stack : List Nat} {l : List StepRec} (r : List StepRec)
    (h : StaysNested stack.length 2 l) :
    nestingFault i stack (l ++ r) = nestingFault (i + l.length) (openRepeats i stack l) r := by
  induction l generalizing i stack with
  | nil => rfl
  | cons st rest ih =>
    have deeper : StaysNested (stackAfter i stack st).length 2 rest := by
      rw [stackAfter_length i h.head.1]
      exact h.tail
    rw [List.cons_append, nestingFault_cons i _ h.head, ih deeper, List.length_cons, Nat.add_right_comm, Nat.add_assoc]
    rfl

theorem openRepeats_length {i : Nat} {stack : List Nat} {most : Int} {l : List StepRec} (h : StaysNested stack.length most l) :
    ((openRepeats i stack l).length : Int) = stack.length + repeatDepth l := by
  induction l generalizing i stack with
  | nil => simp [openRepeats]
  | cons st rest ih =>
    have grown := stackAfter_length i h.head.1
    have deeper : StaysNested (stackAfter i stack st).length most rest := by
      rw [grown]
      exact h.tail
    rw [openRepeats, ih deeper, grown, repeatDepth_cons, add_assoc]

/-- Steps that stay nested above the outer repeats leave those as they are. -/
theorem openRepeats_outer {i : Nat} {inner : List Nat} (outer : List Nat) {most : Int} {l : List StepRec}
    (h : StaysNested inner.length most l) : openRepeats i (inner ++ outer) l = openRepeats i inner l ++ outer := by
  induction l generalizing i inner with
  | nil => rfl
  | cons st rest ih =>
    have deeper : StaysNested (stackAfter i inner st).length most rest := by
      rw [stackAfter_length i h.head.1]
      exact h.tail
    rw [openRepeats, stackAfter_append i outer h.head.1, ih deeper, openRepeats]

theorem openRepeats_append (i : Nat) (stack : List Nat) (l r : List StepRec) :
    openRepeats i stack (l ++ r) = openRepeats (i + l.length) (openRepeats i stack l) r := by
  induction l generalizing i stack with
  | nil => rfl
  | cons st rest ih => rw [List.cons_append, openRepeats, ih, List.length_cons, Nat.add_right_comm, Nat.add_assoc, openRepeats]

/-- Steps that stay nested and end at depth 0 leave no repeat open. -/
theorem openRepeats_balanced {i : Nat} {l : List StepRec} (h : StaysNested 0 2 l) (hd : repeatDepth l = 0) :
    openRepeats i [] l = [] := by
  have len := openRepeats_length (i := i) (stack := []) h
  exact List.length_eq_zero_iff.mp (by simpa [hd] using len)

/-- R111: a third OPEN_REPEAT inside two others, or a CLOSE_REPEAT of none. -/
theorem nestingFault_at {before : List StepRec} {st : StepRec} (after : List StepRec) (h : StaysNested 0 2 before)
    (hst : (st.action = 3 ∧ repeatDepth before = 2) ∨ (st.action = 4 ∧ repeatDepth before = 0)) :
    nestingFault 0 [] (before ++ st :: after) = some before.length := by
  have len := openRepeats_length (i := 0) (stack := []) h
  rw [nestingFault_append (stack := []) (st :: after) h, Nat.zero_add]
  generalize openRepeats 0 [] before = stack at len
  rw [List.length_nil, Nat.cast_zero, zero_add] at len
  rcases hst with ⟨h3, deep⟩ | ⟨h4, shallow⟩
  · have full : 2 ≤ stack.length := by omega
    simp only [nestingFault, h3, full, if_true]
  · have empty : stack = [] := List.length_eq_zero_iff.mp (by omega)
    simp [nestingFault, h4, empty]

theorem nestingFault_nested {l : List StepRec} (h : StaysNested 0 2 l) : nestingFault 0 [] l = (openRepeats 0 [] l).head? := by
  have walked := nestingFault_append (i := 0) (stack := []) [] h
  rwa [List.append_nil] at walked

theorem nestingFault_balanced {l : List StepRec} (h : StaysNested 0 2 l) (hd : repeatDepth l = 0) : nestingFault 0 [] l = none := by
  rw [nestingFault_nested h, openRepeats_balanced h hd]
  rfl

/-- R111: an OPEN_REPEAT after which the steps are balanced is the innermost one left open. -/
theorem nestingFault_unclosed {before after : List StepRec} {st : StepRec} (h : StaysNested 0 2 (before ++ st :: after))
    (h3 : st.action = 3) (ha : StaysNested 0 2 after) (hd : repeatDepth after = 0) :
    nestingFault 0 [] (before ++ st :: after) = some before.length := by
  have opened (i : Nat) (stack : List Nat) : stackAfter i stack st = [] ++ i :: stack := if_pos h3
  rw [nestingFault_nested h, openRepeats_append, openRepeats, opened, openRepeats_outer (inner := []) _ ha, openRepeats_balanced ha hd,
    Nat.zero_add]
  rfl

theorem staysNested_zero_iff (most : Int) (l : List StepRec) : StaysNested 0 most l ↔
    ∀ before after, l = before ++ after → 0 ≤ repeatDepth before ∧ repeatDepth before ≤ most := by
  simp only [StaysNested, zero_add]

/-- R111: steps that pass COUNT and FIELD are judged by their nesting. -/
theorem judgeSteps_nested {declared : Nat} {steps : List StepRec} (h : declared ≤ steps.length)
    (hf : ∀ k ∈ steps, stepValid k = true) :
    (∀ before st after, steps = before ++ st :: after → StaysNested 0 2 before →
      (st.action = 3 ∧ repeatDepth before = 2) ∨ (st.action = 4 ∧ repeatDepth before = 0) →
      judgeSteps declared steps = { check := 3, index := before.length }) ∧
    (StaysNested 0 2 steps → repeatDepth steps = 0 → judgeSteps declared steps = { check := 0, index := 0 }) ∧
    (StaysNested 0 2 steps → ∀ before st after, steps = before ++ st :: after → st.action = 3 → StaysNested 0 2 after →
      repeatDepth after = 0 → judgeSteps declared steps = { check := 3, index := before.length }) := by
  refine ⟨?_, fun hn hd => judgeSteps_sound h hf (nestingFault_balanced hn hd), ?_⟩
  · rintro before st after rfl hn hst
    exact judgeSteps_nesting h hf (nestingFault_at after hn hst)
  · rintro hn before st after rfl h3 ha hd
    exact judgeSteps_nesting h hf (nestingFault_unclosed hn h3 ha hd)

/-! ### What each loading command answers (R109 to R112) -/

section
variable {s : State} {n count : Nat} {steps : List StepRec} {k : PatternNo} {st : Staging} {r : Result}

theorem exec_loadPatternBegin_refused (h : Works s) (hp : passes s.seat.brace.mode .plain = true)
    (hl : loadBegin n count (openFrame s) = (r, openFrame s)) : exec (.loadPatternBegin n count) s = .next (refused s r) :=
  comfort_leaves h hp hl

theorem exec_loadPatternBegin_accepted (h : Works s) (hp : passes s.seat.brace.mode .plain = true)
    (hn : patternOfCode n = some k) (hc : 1 ≤ count ∧ count ≤ 48) (hw : ¬ walksPattern s.seat k = true) :
    exec (.loadPatternBegin n count) s = .next (withPatterns (refused s .accepted)
      { s.base.patterns with staging := some { pattern := k, declared := count, steps := [] } }) := by
  have opened := loadBegin_accepted (s := openFrame s) hn hc (by rwa [openFrame_seat])
  rw [openFrame_patterns] at opened
  exact comfort_writes_patterns h hp opened

theorem exec_loadPatternSteps_refused (h : Works s) (hp : passes s.seat.brace.mode .plain = true)
    (hl : loadSteps count steps (openFrame s) = (r, openFrame s)) : exec (.loadPatternSteps count steps) s = .next (refused s r) :=
  comfort_leaves h hp hl

theorem exec_loadPatternSteps_accepted (h : Works s) (hp : passes s.seat.brace.mode .plain = true)
    (hc : 1 ≤ count ∧ count ≤ 8) (hs : s.base.patterns.staging = some st) (hl : st.steps.length + count ≤ st.declared) :
    exec (.loadPatternSteps count steps) s = .next (withPatterns (refused s .accepted)
      { s.base.patterns with staging := some { st with steps := st.steps ++ steps.take count } }) := by
  have added := loadSteps_accepted (s := openFrame s) steps hc (by rwa [openFrame_patterns]) hl
  rw [openFrame_patterns] at added
  exact comfort_writes_patterns h hp added

/-- R111: END on a staged pattern that the engine does not walk answers as checks 5 to 7 and the commit do, whatever the link holds. -/
theorem endAnswers_of_endStaged {q : Patterns} {store : StoreQueue} (h : Works s) (hp : passes s.seat.brace.mode .plain = true)
    (hn : patternOfCode n = some k) (hs : s.base.patterns.staging = some st) (hk : st.pattern = k)
    (hw : ¬ walksPattern s.seat k = true)
    (he : ∀ l, endStaged (withLink s l) k st = (r, withSeat (withPatterns (withLink s l) q) { s.seat with store := store })) :
    EndAnswers s n r q store :=
  endAnswers_of_loadEnd h hp fun l => (loadEnd_judged (s := withLink s l) hn hs hk hw).trans (he l)

/-- R111, R112: INVALID for unsound steps, FULL without room in the step store, BUSY without room in the store queue; else the store
is repacked and the record queued. -/
theorem endAnswers_staged (h : Works s) (hp : passes s.seat.brace.mode .plain = true) (hn : patternOfCode n = some k)
    (hs : s.base.patterns.staging = some st) (hk : st.pattern = k) (hw : ¬ walksPattern s.seat k = true) :
    let sound := (judgeSteps st.declared st.steps).check = 0
    let room := roomFor s.base.patterns k
    let full := refusesLinkWrite s.seat.store (.pattern k none) = true
    (¬ sound → EndAnswers s n .invalid { s.base.patterns with staging := none } s.seat.store) ∧
    (sound → room < st.declared → EndAnswers s n .full s.base.patterns s.seat.store) ∧
    (sound → st.declared ≤ room → full → EndAnswers s n .busy s.base.patterns s.seat.store) ∧
    (sound → st.declared ≤ room → ¬ full →
      EndAnswers s n .accepted (repack s.base.patterns k st.steps) (enterWrite s.seat.store (.pattern k (some st.steps)))) := by
  intro sound room full
  refine ⟨fun hj => ?_, fun hj hr => ?_, fun hj hr hf => ?_, fun hj hr hf => ?_⟩ <;>
    refine endAnswers_of_endStaged h hp hn hs hk hw fun l => ?_
  · exact endStaged_unsound _ k hj
  · exact (endStaged_sound _ k hj).trans (commitPattern_full hr)
  · exact (endStaged_sound _ k hj).trans (commitPattern_busy hr hf)
  · exact (endStaged_sound _ k hj).trans (commitPattern_accepted hr hf)

end

/-! ### The claim -/

/-- Settles O47, from the answers of each command, the judgement of the staged steps and the captured reply. -/
theorem patternsAreLoaded : Obligations.PatternsAreLoaded := by
  unfold Obligations.PatternsAreLoaded
  refine ⟨fun s n count steps h => ⟨fun hi hr => ?_, fun hm => ?_⟩, fun declared steps => ?_, fun s n h hb => ?_⟩
  · have hp : passes s.seat.brace.mode .plain = false := by
      rw [Bool.eq_false_iff, ne_eq, passes_plain_iff]
      exact not_or.mpr ⟨hi, hr⟩
    exact ⟨comfort_restricted h hp, comfort_restricted h hp⟩
  · have hp := (passes_plain_iff _).mpr hm
    intro p walked takes ends
    have walks (k : PatternNo) : walksPattern s.seat k = true ↔ walked k := walksPattern_iff s.seat k
    have takes_of {i : Instr} {q : Patterns} (hx : exec i s = .next (withPatterns (refused s .accepted) q)) : takes i q s.seat := by
      refine hx.trans (congrArg Host.Outcome.next ?_)
      rw [← refused_seat]
      rfl
    refine ⟨fun hn => ?_, fun hn => ?_, fun hc => ?_, fun hc => ?_,
      fun low high => ⟨fun hs => ?_, fun st hs => ⟨fun hl => ?_, fun hl => ?_⟩⟩,
      fun k hn => ⟨fun low high => ⟨fun hw => ?_, fun hw => ?_⟩, fun hs => ?_,
        fun st hs => ⟨fun hk => ?_, fun hk hw => ?_, fun hk hw => ?_⟩⟩⟩
    · exact endAnswers_of_left h hp fun l => loadEnd_no_pattern _ (patternOfCode_none hn)
    · exact exec_loadPatternBegin_refused h hp (loadBegin_no_pattern _ (patternOfCode_none hn))
    · exact exec_loadPatternBegin_refused h hp (loadBegin_count _ (by omega))
    · exact exec_loadPatternSteps_refused h hp (loadSteps_count steps _ (by omega))
    · exact exec_loadPatternSteps_refused h hp (loadSteps_closed steps ⟨low, high⟩ (by rwa [openFrame_patterns]))
    · exact exec_loadPatternSteps_refused h hp (loadSteps_long steps ⟨low, high⟩ (by rwa [openFrame_patterns]) hl)
    · exact takes_of (exec_loadPatternSteps_accepted h hp ⟨low, high⟩ hs hl)
    · exact exec_loadPatternBegin_refused h hp (loadBegin_walked hn ⟨low, high⟩ (by rwa [openFrame_seat, walks]))
    · exact takes_of (exec_loadPatternBegin_accepted h hp hn ⟨low, high⟩ (by rwa [walks]))
    · exact endAnswers_of_left h hp fun l => loadEnd_closed hn hs
    · exact endAnswers_of_left h hp fun l => loadEnd_other hn hs hk
    · exact endAnswers_of_left h hp fun l => loadEnd_walked hn hs hk ((walks k).mpr hw)
    · intro lengths room full sound
      have fullQueue : refusesLinkWrite s.seat.store (.pattern k none) = true ↔ full := refusesLinkWrite_iff _ _
      obtain ⟨invalid, noRoom, noWrite, committed⟩ := endAnswers_staged h hp hn hs hk (by rwa [walks])
      refine ⟨invalid, noRoom, fun hj hr hf => noWrite hj hr (fullQueue.mpr hf), fun hj hr hf => ?_⟩
      exact ⟨committed hj hr (mt fullQueue.mp hf), repack_staging p k st.steps, fun j hj => patternSteps_repack_ne st.steps hj,
        repack_last p k st.steps⟩
  · intro allowed depth nested j
    have valid (st : StepRec) : stepValid st = true ↔ allowed st := stepValid_iff st
    have stays (l : List StepRec) : StaysNested 0 2 l ↔ nested l 2 := staysNested_zero_iff 2 l
    refine ⟨judgeSteps_count, fun hd => ⟨?_, fun ha => ?_⟩⟩
    · rintro before st after rfl hb hst
      rw [← valid] at hst
      have found := firstInvalid_at 0 after (fun k hk => (valid k).mpr (hb k hk)) hst
      rw [Nat.zero_add] at found
      exact judgeSteps_field hd found
    · simp only [← stays]
      exact judgeSteps_nested hd fun k hk => (valid k).mpr (ha k hk)
  · intro replies
    refine ⟨fun hn => ?_, fun k hn => ⟨fun hs => ?_, fun st hs hk => ?_⟩⟩
    · exact exec_loadPatternEnd_reply h hb (patternEndReply_no_pattern _ (patternOfCode_none hn))
    · refine exec_loadPatternEnd_reply h hb ?_
      rw [patternEndReply_pattern _ hn, judgeStaged_not_open hs]
      rfl
    · refine exec_loadPatternEnd_reply h hb ?_
      rw [patternEndReply_pattern _ hn, judgeStaged_open hs hk]

end Sys2Proof.Machine
end

section
/-! SUPPORT. What exec answers, by the shapes that the meanings share: a predicate of the state that every part of a shape keeps holds of
the state that the shape answers. -/
namespace Sys2Proof.Machine

/-- The answer is a next state, and `P` holds of it. -/
def Gives (P : State → Prop) (o : Out) : Prop := ∃ t, o = .next t ∧ P t

section
variable {P : State → Prop} {s : State}

theorem gives_next (h : P s) : Gives P (.next s) := ⟨s, rfl, h⟩

theorem Gives.of_next {t : State} (h : Gives P (.next t)) : P t := by
  obtain ⟨u, e, hu⟩ := h
  cases e
  exact hu

/-- A predicate that exec and the tick keep is kept by every step. -/
theorem step_keeps (hx : ∀ i u, P u → Gives P (exec i u)) (hq : ∀ u q, P u → P (u.withPending q)) (ht : P s → P (tick s))
    {t : State} (h : P s) (e : step s = .next t) : P t := by
  unfold step at e
  split at e
  · exact Gives.of_next (e ▸ hx _ _ (hq s _ h))
  · cases e
    exact ht h

/-! ### Events -/

theorem gives_event {f : Base → Seat → Did} (h : P s) (hf : P (actOn s (f s.base s.seat))) : Gives P (event s f) := by
  unfold event
  split
  · exact gives_next hf
  · exact gives_next h

theorem gives_eventIf {c : Bool} {f : Base → Seat → Did} (h : P s) (hf : c = true → P (actOn s (f s.base s.seat))) :
    Gives P (eventIf s c f) := by
  unfold eventIf
  split
  · next hc => exact gives_event h (hf hc)
  · exact gives_next h

theorem gives_wholeEvent {f : State → State} (h : P s) (hf : P (f s)) : Gives P (wholeEvent s f) := by
  unfold wholeEvent
  split
  · exact gives_next hf
  · exact gives_next h

theorem gives_lineMoment {at_ : SafetyLine → Bool} {f : State → State} (h : P s) (hf : at_ s.base.line = true → P (f s)) :
    Gives P (lineMoment s at_ f) := by
  unfold lineMoment
  split
  · next hc => exact gives_next (hf hc.2)
  · exact gives_next h

theorem gives_safetyFrame {f : State → State} (h : P s) (hf : P (f s)) (hw : P (restLine (lineWake s))) :
    Gives P (safetyFrame s f) := by
  unfold safetyFrame
  split
  · split
    · exact gives_next h
    · exact gives_next hf
  · split
    · exact gives_next h
    · exact gives_next hf
  · exact gives_next hw
  · exact gives_next h

end

/-! ### Frames of the comfort link -/

/-- The parts of a frame keep the predicate: its start, its end, the capture of a reply, and the wake that it makes. -/
structure KeptByFrames (P : State → Prop) : Prop where
  opened : ∀ s, P s → P (openFrame s)
  closed : ∀ s r l, P s → P (closeFrame s r l)
  captured : ∀ s f, P s → P (captureReply f s)
  woken : ∀ s, P s → P (chipWake s)

namespace KeptByFrames
variable {P : State → Prop} (k : KeptByFrames P) {s : State}
include k

theorem frame {f : State → State} (h : P s) (hf : P (f s)) : Gives P (frame s f) := by
  unfold Machine.frame
  split
  · exact gives_next hf
  · exact gives_next hf
  · exact gives_next (k.woken s h)
  · exact gives_next h

theorem comfort {c : CommandClass} {act : State → Result × State} (h : P s) (ha : ∀ u, P u → P (act u).2) :
    Gives P (comfort c act s) := by
  refine k.frame h (k.closed _ _ _ ?_)
  unfold guarded
  split
  · exact ha _ (k.opened s h)
  · exact k.opened s h

theorem ensured (f : ReadFrame) (h : P s) : P (ensureCaptured f s) := by
  unfold ensureCaptured
  split
  · split
    · exact h
    · exact k.captured s f h
  · exact k.captured s f h

theorem readFrame (f : ReadFrame) (h : P s) : Gives P (readFrame f s) :=
  k.frame h (k.closed _ _ _ (k.ensured f (k.opened s h)))

theorem readNotice (h : P s) (hn : ∀ u n, P u → P (withSeat u { u.seat with notices := n })) : Gives P (readNoticeFrame s) :=
  k.frame h (k.closed _ _ _ (hn _ _ (k.ensured .notice (k.opened s h))))

theorem notTaken (r : Result) (h : P s) : Gives P (Machine.frame s (fun t => closeFrame (openFrame t) r [])) :=
  k.frame h (k.closed _ _ _ (k.opened s h))

theorem replyCapture (f : ReadFrame) (h : P s) : Gives P (execReplyCapture f s) :=
  k.frame h (k.captured _ _ (k.opened s h))

theorem loadPatternEnd {pattern : Nat} (h : P s) (ha : ∀ u, P u → P (loadEnd pattern u).2) :
    Gives P (execLoadPatternEnd pattern s) := by
  refine k.frame h (k.closed _ _ _ ?_)
  unfold guarded
  split
  · exact ha _ (k.ensured _ (k.opened s h))
  · exact k.ensured _ (k.opened s h)

theorem reset (h : P s) (hd : ∀ u, P u → P (beginDrain u)) : Gives P (execReset s) := by
  refine k.frame h ?_
  split
  · exact hd _ (k.closed _ _ _ (k.opened s h))
  · exact k.closed _ _ _ (k.opened s h)

end KeptByFrames

/-! ### Predicates that do not look at the seat -/

/-- The command acts on the seat and the link alone, in a shape of a frame or of an event. -/
def onSeatAlone (i : Instr) : Bool :=
  match i with
  | .loadPatternBegin _ _ | .loadPatternSteps _ _ | .loadPatternEnd _ | .setSupplyThresholds _ _ | .setVehicleState _
  | .writeConfig _ _ _ _ | .park | .reset | .statusQuery | .brace _ | .hold | .standDown | .crash _ | .safetyFrameRefused _ _
  | .safetyFrameDrop _ | .safetyGapTimeout | .safetySymbolTimeout | .safetySymbolTooLong | .safetyReplyStart | .safetyReplySent
  | .safetyCollision | .lineStuck | .lineStuckCleared | .safetyLineWake | .monitorSample _ | .thresholdSettleEnd
  | .storeWriteComplete | .wakeIntervalInstant _ _ | .powerOnReset _ _ | .resetPin | .warmResetDrainEnd _ | .hallSample _ _
  | .safetyLineEdge _ _ | .replySymbolEnd | .powerLoss => false
  | _ => true

/-- A command that acts on the seat and the link alone keeps what frames keep and what does not look at the seat. -/
theorem exec_onSeatAlone {P : State → Prop} (k : KeptByFrames P) (seat : ∀ s t, P s → P (withSeat s t)) {i : Instr} {s : State}
    (hi : onSeatAlone i = true) (h : P s) : Gives P (exec i s) := by
  have command {c f} : Gives P (comfort c (onSeat f) s) := k.comfort h fun u hu => seat u _ hu
  have always {f} : Gives P (event s f) := gives_event h (seat s _ h)
  have whenCan {c f} : Gives P (eventIf s c f) := gives_eventIf h fun _ => seat s _ h
  cases i
  case readNotice => exact k.readNotice h fun u n => seat u _
  case readStatus | readAxis | readAllocation | readGallery | readBladder | readMassage | readClimate | readBrace | readProfile
      | readRecall | readConfig => exact k.readFrame _ h
  case comfortFrameLength | unknownCommand => exact k.notTaken _ h
  case chipSelectWake => exact k.frame h (k.opened s h)
  case replyCapture f => exact k.replyCapture f h
  case keyRearm =>
    change Gives P (ite _ _ _)
    split
    · exact gives_next (seat s _ h)
    · exact gives_next h
  case storeWindowEnd | recallTimeout | heatSample | holdTimerExpiry =>
    simp only [exec, execStoreWindowEnd, execRecallTimeout, execHeatSample, execHoldTimerExpiry]
    exact always
  case acceptedPulse | rejectedLow | stall | coastWindowEnd | overcurrentBlankingEnd | overcurrent | jogExpiry | staggerWindowEnd
      | bracePoint | axisContactPress | axisContactRelease | keyPress | keyRelease | lumbarContactPress | lumbarContactRelease
      | switchStuck | burstEnd | settleEnd | pressureReading | compressorWaitExpiry | massageHoldEnd | cycleRestEnd | sessionExpiry
      | heatStepdown | contactLevelChange | comparatorAssertionChange => exact whenCan
  case moveAxisTo | jogAxis | stopAxis | stopAll | learnAxis | clearAxisFault | storeProfile | recallProfile | eraseProfile | doorExit
      | doorEntry | setSupport | lumbarAdjust | clearGalleryFault | startMassage | setMassage | stopMassage | setHeat | setFan
      | setSupplyCeiling | unlockBrace => exact command
  all_goals cases hi

end Sys2Proof.Machine
end

section
/-! SUPPORT. The commands of the safety line: what they keep, for a predicate that the line's own data do not enter. -/
namespace Sys2Proof.Machine

/-- The parts of the line's meanings keep the predicate: a change of the receiver, a notice, a safety command, and the wake. -/
structure KeptByLine (P : State → Prop) : Prop where
  line : ∀ s l, P s → P (withLine s l)
  posted : ∀ s k sub d, P s → P (withSeat s (post s.seat k sub d))
  braced : ∀ s c, P s → P (actOn s (braceCommand c s.base s.seat))
  woken : ∀ s, P s → P (wake s)

namespace KeptByLine
variable {P : State → Prop} (k : KeptByLine P) {s : State}
include k

theorem drop (o : FrameOutcome) (fields : Option (Nat × Nat)) (next : Receiver) (h : P s) : P (dropFrame s o fields next) :=
  k.line _ _ (k.posted _ _ _ _ h)

theorem collide (h : P s) : P (collide s) := k.line _ _ (k.posted _ _ _ _ h)

theorem enterStuck (h : P s) : P (enterStuck s) := k.line _ _ (k.posted _ _ _ _ h)

theorem clearStuck (h : P s) : P (clearStuck s) := k.line _ _ (k.posted _ _ _ _ h)

theorem startLead (h : P s) : P (startLead s) := k.line _ _ h

theorem lineWake (h : P s) : P (lineWake s) := k.line _ _ (k.drop _ _ _ (k.woken s h))

theorem take (c : SafetyCommand) (h : P s) : P (takeFrame s c) := k.line _ _ (k.braced s c h)

theorem checked (command argument : Nat) (h : P s) : P (checkedFrame s command argument) := by
  unfold checkedFrame
  split
  · exact k.take _ h
  · exact k.line _ _ (k.posted _ _ _ _ h)
  · exact k.line _ _ (k.posted _ _ _ _ h)

theorem endGap (micros : Nat) (h : P s) : P (endGap s micros) := by
  unfold Machine.endGap
  split
  · exact k.line _ _ (k.drop _ _ _ h)
  · split
    · exact k.line _ _ h
    · exact k.startLead (k.drop _ _ _ h)

theorem fallingEdge (micros : Nat) (h : P s) : P (fallingEdge s micros) := by
  unfold Machine.fallingEdge
  dsimp only
  split
  · exact k.startLead h
  · exact k.endGap _ h
  · split
    · exact k.startLead (k.drop _ _ _ h)
    · exact k.line _ _ h
  · exact k.collide h
  · split
    · exact k.line _ _ h
    · exact k.startLead (k.clearStuck h)
  · exact k.line _ _ h

theorem endLead (micros : Nat) (h : P s) : P (endLead s micros) := by
  unfold Machine.endLead
  split
  · exact k.line _ _ h
  · split
    · exact k.line _ _ h
    · exact k.drop _ _ _ h

theorem endCal (micros : Nat) (h : P s) : P (endCal s micros) := by
  unfold Machine.endCal
  split
  · exact k.line _ _ h
  · exact k.drop _ _ _ h

theorem endOfData (symbols : List Bool) (h : P s) : P (endOfData s symbols) := by
  unfold Machine.endOfData
  dsimp only
  split
  · exact k.checked _ _ h
  · exact k.drop _ _ _ h

theorem endSymbol (micros : Nat) (h : P s) : P (endSymbol s micros) := by
  unfold Machine.endSymbol
  dsimp only
  split
  · exact k.drop _ _ _ h
  · split
    · exact k.drop _ _ _ h
    · split
      · exact k.line _ _ h
      · exact k.endOfData _ (k.line _ _ h)

theorem stuckByLow (micros : Nat) (h : P s) : P (stuckByLow s micros) := by
  unfold Machine.stuckByLow
  split
  · exact k.enterStuck (k.drop _ _ _ h)
  · exact k.enterStuck h

theorem risingEdge (micros : Nat) (h : P s) : P (risingEdge s micros) := by
  unfold Machine.risingEdge
  extract_lets s0 s1
  have h0 : P s0 := by
    unfold s0
    split
    · exact k.stuckByLow _ h
    · exact h
  have h1 : P s1 := k.line _ _ h0
  split
  · exact k.endLead _ h1
  · exact k.endCal _ h1
  · exact k.endSymbol _ h1
  · exact k.line _ _ h1
  · exact h1

theorem lineEdge (rising : Bool) (micros : Nat) (h : P s) : P (lineEdge s rising micros) := by
  unfold Machine.lineEdge
  split
  · split
    · exact k.risingEdge _ h
    · exact k.fallingEdge _ h
  · exact h

theorem ordinaryFall (h : P s) : P (ordinaryFall s) := by
  unfold Machine.ordinaryFall
  split
  · exact h
  · split
    · exact k.startLead h
    · exact k.line _ _ h
    · exact k.collide h
    · exact k.line _ _ h

theorem dropAtEdge (cause : DropCause) (h : P s) : P (dropAtEdge cause s) := by
  cases cause <;> exact k.line _ _ (k.drop _ _ _ h)

theorem parkedEdge (rising : Bool) (h : P s) : P (parkedEdge s rising) := by
  unfold Machine.parkedEdge
  split
  · exact k.line _ _ h
  · exact k.lineWake h

theorem safetyFrame {f : State → State} (h : P s) (hf : P (f s)) : Gives P (safetyFrame s f) :=
  gives_safetyFrame h hf (k.line _ _ (k.lineWake h))

end KeptByLine

/-- The command is a row of the safety line. -/
def ofLine (i : Instr) : Bool :=
  match i with
  | .statusQuery | .brace _ | .hold | .standDown | .crash _ | .safetyFrameRefused _ _ | .safetyFrameDrop _ | .safetyGapTimeout
  | .safetySymbolTimeout | .safetySymbolTooLong | .safetyReplyStart | .safetyReplySent | .safetyCollision | .lineStuck
  | .lineStuckCleared | .safetyLineWake | .safetyLineEdge _ _ | .replySymbolEnd => true
  | _ => false

/-- A row of the safety line keeps what the parts of the line's meanings keep. -/
theorem exec_ofLine {P : State → Prop} (k : KeptByLine P) {i : Instr} {s : State} (hi : ofLine i = true) (h : P s) :
    Gives P (exec i s) := by
  cases i
  case statusQuery | brace | hold | standDown | crash =>
    simp only [exec, execStatusQuery, execBrace, execHold, execStandDown, execCrash]
    exact k.safetyFrame h (k.take _ h)
  case safetyFrameRefused =>
    simp only [exec, execSafetyFrameRefused]
    exact k.safetyFrame h (k.checked _ _ h)
  case safetyFrameDrop cause => exact k.safetyFrame h (k.dropAtEdge cause h)
  case safetyGapTimeout | safetySymbolTimeout | safetySymbolTooLong =>
    simp only [exec, execSafetyGapTimeout, execSafetySymbolTimeout, execSafetySymbolTooLong]
    exact gives_lineMoment h fun _ => k.drop _ _ _ h
  case safetyReplyStart | replySymbolEnd =>
    simp only [exec, execSafetyReplyStart, execReplySymbolEnd]
    exact gives_lineMoment h fun _ => k.line _ _ h
  case safetyReplySent =>
    simp only [exec, execSafetyReplySent]
    exact gives_lineMoment h fun _ => k.line _ _ (k.line _ _ h)
  case safetyCollision =>
    simp only [exec, execSafetyCollision]
    exact gives_lineMoment h fun _ => k.collide (k.line _ _ h)
  case lineStuck =>
    simp only [exec, execLineStuck]
    exact gives_lineMoment h fun _ => k.enterStuck h
  case lineStuckCleared => exact gives_lineMoment (f := clearStuck) h fun _ => k.clearStuck h
  case safetyLineWake =>
    change Gives P (execSafetyLineWake s)
    unfold execSafetyLineWake
    split
    · exact gives_next (k.lineWake h)
    · exact gives_next (k.ordinaryFall h)
    · exact gives_next (k.ordinaryFall h)
    · exact gives_next h
  case safetyLineEdge rising micros =>
    change Gives P (execSafetyLineEdge rising micros s)
    unfold execSafetyLineEdge
    split
    · exact gives_next (k.parkedEdge _ h)
    · exact gives_next (k.lineEdge _ _ h)
    · exact gives_next (k.lineEdge _ _ h)
    · exact gives_next h
  all_goals cases hi

end Sys2Proof.Machine
end

section
/-! SUPPORT. Every command answers a next state with the queue it found, and keeps the supply monitor (02_supply_allocation.md R44, R45) and
the safety line (09_the_safety_line.md R159 to R165) in their ranges; then the claims on exec and on the step. -/
namespace Sys2Proof.Machine

/-! ### What most commands leave alone -/

/-- The queue, the safety line and what the monitor has measured are the same. -/
structure SameMeasures (s t : State) : Prop where
  pending : t.pending = s.pending
  line : t.base.line = s.base.line
  window : t.base.monitor.window = s.base.monitor.window
  average : t.base.monitor.v = s.base.monitor.v
  belowLow : t.base.monitor.belowLow = s.base.monitor.belowLow
  belowCutoff : t.base.monitor.belowCutoff = s.base.monitor.belowCutoff
  clearLow : t.base.monitor.clearLow = s.base.monitor.clearLow
  clearCutoff : t.base.monitor.clearCutoff = s.base.monitor.clearCutoff

theorem SameMeasures.same (s : State) : SameMeasures s s := ⟨rfl, rfl, rfl, rfl, rfl, rfl, rfl, rfl⟩

/-- A change of the seat, and of what lies beside the line and the monitor. -/
theorem SameMeasures.of_eq {s t : State} (hp : t.pending = s.pending) (hl : t.base.line = s.base.line)
    (hm : t.base.monitor = s.base.monitor) : SameMeasures s t := by
  constructor <;> simp only [hp, hl, hm]

section
variable (s : State)

theorem same_openFrame : SameMeasures s (openFrame s) := by
  unfold openFrame
  split <;> exact .of_eq rfl rfl rfl

theorem same_captureReply (f : ReadFrame) : SameMeasures s (captureReply f s) := by
  unfold captureReply
  dsimp only
  split <;> exact .of_eq rfl rfl rfl

theorem same_loadBegin (n count : Nat) : SameMeasures s (loadBegin n count s).2 := by
  unfold loadBegin
  repeat' split
  all_goals exact .of_eq rfl rfl rfl

theorem same_loadSteps (count : Nat) (steps : List StepRec) : SameMeasures s (loadSteps count steps s).2 := by
  unfold loadSteps
  repeat' split
  all_goals exact .of_eq rfl rfl rfl

theorem same_loadEnd (n : Nat) : SameMeasures s (loadEnd n s).2 := by
  unfold loadEnd endStaged commitPattern
  repeat' split
  all_goals exact .of_eq rfl rfl rfl

theorem same_setVehicleState (v : Nat) : SameMeasures s (setVehicleState v s).2 := by
  unfold setVehicleState
  dsimp only
  repeat' split
  all_goals exact .of_eq rfl rfl rfl

theorem same_writeConfig (item index v w : Nat) : SameMeasures s (writeConfig item index v w s).2 := by
  unfold writeConfig
  repeat' split
  all_goals exact .of_eq rfl rfl rfl

theorem same_park : SameMeasures s (park s).2 := by
  unfold park
  repeat' split
  all_goals exact .of_eq rfl rfl rfl

theorem same_enterParked : SameMeasures s (enterParked s) := by
  unfold enterParked
  constructor <;> simp only [withBase_pending, withBase_base, withSeat_pending, withSeat_base, actOn_pending, actOn_base]

theorem SameMeasures.trans {s t u : State} (h : SameMeasures s t) (k : SameMeasures t u) : SameMeasures s u :=
  ⟨k.pending.trans h.pending, k.line.trans h.line, k.window.trans h.window, k.average.trans h.average,
   k.belowLow.trans h.belowLow, k.belowCutoff.trans h.belowCutoff, k.clearLow.trans h.clearLow, k.clearCutoff.trans h.clearCutoff⟩

theorem same_completeWrite (w : RecordWrite) : SameMeasures s (completeWrite s w) := .of_eq rfl rfl rfl

theorem same_writeCompletes (w : RecordWrite) : SameMeasures s (writeCompletes s w) := by
  unfold writeCompletes tryPark
  repeat' split
  case isTrue.isFalse => exact (same_completeWrite s w).trans (same_enterParked _)
  all_goals exact .of_eq rfl rfl rfl

theorem same_tick : SameMeasures s (tick s) := by
  unfold tick
  split <;> exact ⟨rfl, rfl, rfl, rfl, rfl, rfl, rfl, rfl⟩

end

/-- The command takes no sample and no thresholds, makes no reset, and is no row of the safety line. -/
def leavesMeasures (i : Instr) : Bool :=
  match i with
  | .setSupplyThresholds _ _ | .monitorSample _ | .wakeIntervalInstant _ _ | .reset | .powerOnReset _ _ | .resetPin
  | .warmResetDrainEnd _ | .powerLoss => false
  | i => !ofLine i

theorem keptByFrames_of_same {P : State → Prop} (same : ∀ s t, SameMeasures s t → P s → P t) (woken : ∀ s, P s → P (wake s)) :
    KeptByFrames P where
  opened s := same _ _ (same_openFrame s)
  closed _ _ _ := same _ _ (.of_eq rfl rfl rfl)
  captured s f := same _ _ (same_captureReply s f)
  woken s h := same (wake s) _ (.of_eq rfl rfl rfl) (woken s h)

/-- A command that leaves the measures alone, or wakes the part, keeps what rests on them alone. -/
theorem exec_leavesMeasures {P : State → Prop} (same : ∀ s t, SameMeasures s t → P s → P t) (woken : ∀ s, P s → P (wake s))
    {i : Instr} {s : State} (hi : leavesMeasures i = true) (h : P s) : Gives P (exec i s) := by
  have k := keptByFrames_of_same same woken
  by_cases seat : onSeatAlone i = true
  · exact exec_onSeatAlone k (fun _ _ => same _ _ (.of_eq rfl rfl rfl)) seat h
  cases i
  case loadPatternBegin => exact k.comfort h fun u => same _ _ (same_loadBegin u _ _)
  case loadPatternSteps => exact k.comfort h fun u => same _ _ (same_loadSteps u _ _)
  case loadPatternEnd => exact k.loadPatternEnd h fun u => same _ _ (same_loadEnd u _)
  case setVehicleState => exact k.comfort h fun u => same _ _ (same_setVehicleState u _)
  case writeConfig => exact k.comfort h fun u => same _ _ (same_writeConfig u _ _ _ _)
  case park => exact k.comfort h fun u => same _ _ (same_park u)
  case thresholdSettleEnd =>
    simp only [exec, execThresholdSettleEnd]
    exact gives_wholeEvent h (same s _ ⟨rfl, rfl, rfl, rfl, rfl, rfl, rfl, rfl⟩ h)
  case hallSample a high =>
    simp only [exec, execHallSample]
    split
    · exact gives_wholeEvent h (same s _ (.of_eq rfl rfl rfl) h)
    · exact gives_next h
  case storeWriteComplete =>
    simp only [exec, execStoreWriteComplete]
    split
    · exact gives_next (same _ _ (same_writeCompletes s _) h)
    · exact gives_next h
  all_goals first | exact absurd rfl seat | cases hi

/-- A reset, a power loss and the end of a drain: one of the three ways in which the part is made anew, or nothing. -/
theorem exec_resets {P : State → Prop} (drained : ∀ s, P s → P (beginDrain s)) (lost : ∀ s, P s → P (lose s))
    (reset : ∀ s f l r, P s → P (resetPart s f l r)) {i : Instr} {s : State}
    (hi : i = .resetPin ∨ i = .powerLoss ∨ (∃ f l, i = .powerOnReset f l) ∨ ∃ l, i = .warmResetDrainEnd l) (h : P s) :
    Gives P (exec i s) := by
  rcases hi with rfl | rfl | ⟨f, l, rfl⟩ | ⟨l, rfl⟩
  · simp only [exec, execResetPin]
    split
    case h_4 => exact gives_next h
    all_goals exact gives_next (drained s h)
  · simp only [exec, execPowerLoss]
    split
    · exact gives_next h
    · exact gives_next (lost s h)
  · simp only [exec, execPowerOnReset]
    split
    · exact gives_next (reset _ _ _ _ h)
    · exact gives_next (reset _ _ _ _ (lost s h))
  · simp only [exec, execWarmResetDrainEnd]
    split
    · exact gives_next (reset _ _ _ _ h)
    · exact gives_next h

/-- WAKE_INTERVAL_INSTANT: it reads the part in PARKED, and wakes it or waits; elsewhere it measures contacts. -/
theorem exec_wakeIntervalInstant {P : State → Prop} (read : ∀ s closed mv, P s → P (readInstant s closed mv))
    (woken : ∀ s, P s → P (wake s)) (waits : ∀ s n, P s → P (withBase s { s.base with wakeLeft := n }))
    (seat : ∀ s t, P s → P (withSeat s t)) {s : State} (closed : List Contact) (mv : Nat) (h : P s) :
    Gives P (exec (.wakeIntervalInstant closed mv) s) := by
  simp only [exec, execWakeIntervalInstant]
  split
  · refine gives_next ?_
    unfold wakeInstant
    dsimp only
    split
    · exact woken _ (read s closed mv h)
    · exact waits _ _ (read s closed mv h)
  · exact gives_next (seat s _ h)
  · exact gives_next (seat s _ h)
  · exact gives_next h

/-! ### The queue -/

/-- The commands that wait are these. -/
def Waiting (q : List Instr) (s : State) : Prop := s.pending = q

theorem waiting_same {q : List Instr} (s t : State) (e : SameMeasures s t) (h : Waiting q s) : Waiting q t := e.pending.trans h

theorem waiting_keptByLine {q : List Instr} : KeptByLine (Waiting q) where
  line _ _ h := h
  posted _ _ _ _ h := h
  braced _ _ h := h
  woken _ h := h

/-- Every command answers a next state, with the queue it found. -/
theorem exec_waiting {q : List Instr} (i : Instr) {s : State} (h : Waiting q s) : Gives (Waiting q) (exec i s) := by
  by_cases leaves : leavesMeasures i = true
  · exact exec_leavesMeasures waiting_same (fun _ hs => hs) leaves h
  by_cases line : ofLine i = true
  · exact exec_ofLine waiting_keptByLine line h
  have k : KeptByFrames (Waiting q) := keptByFrames_of_same waiting_same fun _ hs => hs
  have resets {i} := exec_resets (P := Waiting q) (i := i) (s := s) (fun _ hs => hs) (fun _ hs => hs) (fun _ _ _ _ hs => hs)
  cases i
  case setSupplyThresholds =>
    refine k.comfort h fun u hu => ?_
    unfold setSupplyThresholds
    split <;> exact hu
  case reset => exact k.reset h fun _ hu => hu
  case monitorSample =>
    simp only [exec, execMonitorSample]
    exact gives_wholeEvent h h
  case wakeIntervalInstant =>
    exact exec_wakeIntervalInstant (fun _ _ _ hs => hs) (fun _ hs => hs) (fun _ _ hs => hs) (fun _ _ hs => hs) _ _ h
  case powerOnReset f l => exact resets (.inr (.inr (.inl ⟨f, l, rfl⟩))) h
  case resetPin => exact resets (.inl rfl) h
  case warmResetDrainEnd l => exact resets (.inr (.inr (.inr ⟨l, rfl⟩))) h
  case powerLoss => exact resets (.inr (.inl rfl)) h
  all_goals first | exact absurd rfl leaves | exact absurd rfl line

/-- Settles O2: no shape of a meaning stops, and none touches the queue. -/
theorem everyCommandAnswersNext : Obligations.EveryCommandAnswersNext := by
  unfold Obligations.EveryCommandAnswersNext
  exact fun i s => exec_waiting (q := s.pending) i rfl

/-- Settles O1. -/
theorem stepRunsFrontCommand : Obligations.StepRunsFrontCommand := by
  unfold Obligations.StepRunsFrontCommand
  exact fun _ _ _ => rfl

/-! ### The monitor -/

/-- The supply monitor of the part is in its ranges. -/
def MonitorHeld (s : State) : Prop := MonitorLawful s.base.monitor

theorem runCount_le {n : Nat} (c : Bool) : runCount n c ≤ 4 := by
  unfold runCount
  split <;> omega

theorem sum_le_of_le {l : List Nat} {m : Nat} (h : ∀ v ∈ l, v ≤ m) : l.sum ≤ l.length * m := by
  simpa using List.sum_le_card_nsmul l m h

theorem lawful_takeValue {m : Monitor} {v : Nat} (h : MonitorLawful m) (hv : v ≤ 20000) : MonitorLawful (takeValue m v) := by
  unfold takeValue
  split
  · exact ⟨h.window, h.samples, hv, h.counts⟩
  · exact ⟨h.window, h.samples, hv, runCount_le _, runCount_le _, runCount_le _, runCount_le _⟩

theorem mem_pushSample {w : List Nat} {mv v : Nat} (h : ∀ x ∈ w, x ≤ 20000) (hv : v ∈ pushSample w mv) : v ≤ 20000 := by
  rcases List.mem_append.mp (List.mem_of_mem_drop hv) with old | new
  · exact h v old
  · rw [List.mem_singleton.mp new]
    exact Nat.min_le_right mv 20000

/-- R44, R45: a sample keeps the window, the average and the counts in their ranges. -/
theorem lawful_takeSample {m : Monitor} (mv : Nat) (h : MonitorLawful m) : MonitorLawful (takeSample m mv) := by
  have samples : ∀ v ∈ pushSample m.window mv, v ≤ 20000 := fun v => mem_pushSample h.samples
  have room : (pushSample m.window mv).length ≤ 8 := by
    simp only [pushSample, List.length_drop]
    omega
  have pushed : MonitorLawful { m with window := pushSample m.window mv } := ⟨room, samples, h.average, h.counts⟩
  unfold takeSample
  dsimp only
  split
  · exact pushed
  · refine lawful_takeValue pushed ?_
    have total := sum_le_of_le samples
    omega

theorem lawful_resetMonitor (n : Nat) : MonitorLawful (Reset.monitor n) := by constructor <;> simp [Reset.monitor]

section
variable {s : State}

theorem monitor_wake (h : MonitorHeld s) : MonitorHeld (wake s) := ⟨h.window, h.samples, h.average, h.counts⟩

theorem monitor_same (s t : State) (e : SameMeasures s t) (h : MonitorHeld s) : MonitorHeld t where
  window := e.window ▸ h.window
  samples := e.window ▸ h.samples
  average := e.average ▸ h.average
  counts := by
    rw [e.belowLow, e.belowCutoff, e.clearLow, e.clearCutoff]
    exact h.counts

theorem monitor_keptByLine : KeptByLine MonitorHeld where
  line _ _ h := h
  posted _ _ _ _ h := h
  braced _ _ h := h
  woken _ h := monitor_wake h

theorem monitor_supplySample (mv : Nat) (next : Option Nat) (h : MonitorHeld s) : MonitorHeld (supplySample s mv next) := by
  obtain ⟨window, samples, average, counts⟩ := lawful_takeSample mv h
  exact ⟨window, samples, average, counts⟩

theorem monitor_readInstant (closed : List Contact) (mv : Nat) (h : MonitorHeld s) : MonitorHeld (readInstant s closed mv) :=
  monitor_supplySample (s := withSeat s ((watchedContacts s.base true).foldl (instantContact closed) s.seat)) mv none h

theorem monitor_idle (b : Base) (p : Power) (r : Records) (t : Seat) (q : List Instr) :
    MonitorHeld { pending := q, base := idleBase b p r, seat := t } :=
  have reset := lawful_resetMonitor 0
  ⟨reset.window, reset.samples, reset.average, reset.counts⟩

theorem monitor_setSupplyThresholds (low cutoff : Nat) (h : MonitorHeld s) :
    MonitorHeld (setSupplyThresholds low cutoff s).2 := by
  unfold setSupplyThresholds
  split
  · exact ⟨h.window, h.samples, h.average, by simp [setThresholds, withMonitor, withBase]⟩
  · exact h

end

/-- Every command keeps the monitor in its ranges. -/
theorem exec_monitor (i : Instr) {s : State} (h : MonitorHeld s) : Gives MonitorHeld (exec i s) := by
  by_cases leaves : leavesMeasures i = true
  · exact exec_leavesMeasures monitor_same (fun _ => monitor_wake) leaves h
  by_cases line : ofLine i = true
  · exact exec_ofLine monitor_keptByLine line h
  have k := keptByFrames_of_same monitor_same fun _ => monitor_wake
  have resets {i} := exec_resets (P := MonitorHeld) (i := i) (s := s) (fun _ _ => monitor_idle _ _ _ _ _)
    (fun _ _ => monitor_idle _ _ _ _ _) (fun _ _ _ _ _ => lawful_resetMonitor _)
  cases i
  case setSupplyThresholds => exact k.comfort h fun _ => monitor_setSupplyThresholds _ _
  case reset => exact k.reset h fun _ _ => monitor_idle _ _ _ _ _
  case monitorSample mv =>
    simp only [exec, execMonitorSample]
    exact gives_wholeEvent h (monitor_supplySample mv _ h)
  case wakeIntervalInstant closed mv =>
    exact exec_wakeIntervalInstant (P := MonitorHeld) (fun _ => monitor_readInstant) (fun _ => monitor_wake) (fun _ _ hs => hs)
      (fun _ _ hs => hs) closed mv h
  case powerOnReset f l => exact resets (.inr (.inr (.inl ⟨f, l, rfl⟩))) h
  case resetPin => exact resets (.inl rfl) h
  case warmResetDrainEnd l => exact resets (.inr (.inr (.inr ⟨l, rfl⟩))) h
  case powerLoss => exact resets (.inr (.inl rfl)) h
  all_goals first | exact absurd rfl leaves | exact absurd rfl line

/-- Settles O8: a sample and new thresholds keep the ranges, and a reset meets them. -/
theorem stepKeepsMonitorLawful : Obligations.StepKeepsMonitorLawful := by
  unfold Obligations.StepKeepsMonitorLawful
  exact fun s t => step_keeps (P := MonitorHeld) (fun i _ => exec_monitor i) (fun _ _ hs => hs) (monitor_same _ _ (same_tick s))

/-! ### The safety line -/

theorem lineHeld_same (s t : State) (e : SameMeasures s t) (h : LineHeld s) : LineHeld t := by
  unfold LineHeld
  rw [e.line]
  exact h

section
variable {s : State}

theorem lineOf_reset (high : Bool) : LineLawful (Reset.line high) := by
  cases high <;> constructor <;> simp [Reset.line]

theorem lineHeld_idle (b : Base) (p : Power) (r : Records) (t : Seat) (q : List Instr) :
    LineHeld { pending := q, base := idleBase b p r, seat := t } := by
  constructor <;> simp [idleBase, Reset.line]

/-- R164: the part pulls the line low for symbol 1. -/
theorem lineHeld_replyStart (h : LineHeld s) :
    LineHeld (withLine s (beginLow { s.base.line with receiver := .reply, replyIndex := 0 })) where
  stuck e := nomatch e
  driving n e := by
    cases e
    exact ⟨rfl, Nat.zero_lt_succ 7, rfl⟩
  index := Nat.zero_le 8
  symbols := h.symbols
  receiving e := nomatch e
  calibration := h.calibration

/-- R164: the reply has been sent. -/
theorem lineHeld_replySent (h : LineHeld s) : LineHeld (replySent (withLine s { s.base.line with replyIndex := 8 })) where
  stuck e := nomatch e
  driving _ e := nomatch e
  index := Nat.le_refl 8
  symbols := h.symbols
  receiving e := nomatch e
  calibration := h.calibration

end

/-- The rows of the safety line keep its receiver lawful. -/
theorem exec_ofLine_lineHeld {i : Instr} {s : State} (hi : ofLine i = true) (h : LineHeld s) : Gives LineHeld (exec i s) := by
  have safety {f} (hf : ∀ u, LineHeld u → LineHeld (f u)) : Gives LineHeld (safetyFrame s f) :=
    gives_safetyFrame h (hf s h) (line_rest (line_lineWake h) rfl)
  cases i
  case statusQuery | brace | hold | standDown | crash =>
    simp only [exec, execStatusQuery, execBrace, execHold, execStandDown, execCrash]
    exact safety fun _ => line_take _
  case safetyFrameRefused => exact safety fun _ => line_checked _ _
  case safetyFrameDrop => exact safety fun _ => line_dropAt _
  case safetyGapTimeout =>
    simp only [exec, execSafetyGapTimeout]
    exact gives_lineMoment h fun _ => line_drop _ _ _ (.inl rfl) h
  case safetySymbolTimeout =>
    simp only [exec, execSafetySymbolTimeout]
    exact gives_lineMoment h fun _ => line_drop _ _ _ (.inl rfl) h
  case safetySymbolTooLong =>
    simp only [exec, execSafetySymbolTooLong]
    exact gives_lineMoment h fun _ => line_drop _ _ _ (.inr rfl) h
  case safetyReplyStart =>
    simp only [exec, execSafetyReplyStart]
    exact gives_lineMoment h fun _ => lineHeld_replyStart h
  case replySymbolEnd =>
    simp only [exec, execReplySymbolEnd]
    exact gives_lineMoment h fun replying => lineOf_sym h (of_decide_eq_true replying)
  case safetyReplySent =>
    simp only [exec, execSafetyReplySent]
    exact gives_lineMoment h fun _ => lineHeld_replySent h
  case safetyCollision =>
    simp only [exec, execSafetyCollision]
    exact gives_lineMoment h fun _ => line_rel h
  case lineStuck =>
    simp only [exec, execLineStuck]
    exact gives_lineMoment h fun _ => line_stuck h
  case lineStuckCleared => exact gives_lineMoment (f := clearStuck) h fun _ => line_clear h
  case safetyLineWake =>
    simp only [exec, execSafetyLineWake]
    split
    · exact gives_next (line_lineWake h)
    · exact gives_next (line_ordinary h)
    · exact gives_next (line_ordinary h)
    · exact gives_next h
  case safetyLineEdge rising micros =>
    simp only [exec, execSafetyLineEdge]
    split
    · unfold parkedEdge
      split
      · exact gives_next (lineOf_low h false)
      · exact gives_next (line_lineWake h)
    · exact gives_next (line_edge _ _ h)
    · exact gives_next (line_edge _ _ h)
    · exact gives_next h
  all_goals cases hi

/-- Every command keeps the receiver lawful. -/
theorem exec_lineHeld (i : Instr) {s : State} (h : LineHeld s) : Gives LineHeld (exec i s) := by
  by_cases leaves : leavesMeasures i = true
  · exact exec_leavesMeasures lineHeld_same (fun _ => line_wake) leaves h
  by_cases line : ofLine i = true
  · exact exec_ofLine_lineHeld line h
  have k := keptByFrames_of_same lineHeld_same fun _ => line_wake
  have resets {i} := exec_resets (P := LineHeld) (i := i) (s := s) (fun _ _ => lineHeld_idle _ _ _ _ _)
    (fun _ _ => lineHeld_idle _ _ _ _ _) (fun _ _ l _ _ => lineOf_reset l)
  cases i
  case setSupplyThresholds =>
    refine k.comfort h fun u hu => ?_
    unfold setSupplyThresholds
    split <;> exact hu
  case reset => exact k.reset h fun _ _ => lineHeld_idle _ _ _ _ _
  case monitorSample =>
    simp only [exec, execMonitorSample]
    exact gives_wholeEvent h h
  case wakeIntervalInstant closed mv =>
    exact exec_wakeIntervalInstant (P := LineHeld) (fun _ _ _ hs => hs) (fun _ => line_wake) (fun _ _ hs => hs) (fun _ _ hs => hs) closed mv h
  case powerOnReset f l => exact resets (.inr (.inr (.inl ⟨f, l, rfl⟩))) h
  case resetPin => exact resets (.inl rfl) h
  case warmResetDrainEnd l => exact resets (.inr (.inr (.inr ⟨l, rfl⟩))) h
  case powerLoss => exact resets (.inr (.inl rfl)) h
  all_goals first | exact absurd rfl leaves | exact absurd rfl line

/-- Settles O9: every row of the line keeps its receiver lawful, and the other commands leave it alone or wake it. -/
theorem stepKeepsLineLawful : Obligations.StepKeepsLineLawful := by
  unfold Obligations.StepKeepsLineLawful
  exact fun s t => step_keeps (P := LineHeld) (fun i _ => exec_lineHeld i) (fun _ _ hs => hs) (lineHeld_same _ _ (same_tick s))

end Sys2Proof.Machine
end

section
/-! SUPPORT. Every step keeps the claims lawful and the outputs of every axis as its drive state allows (02_supply_allocation.md R28, the
table of 1.5): each command, by what its act keeps. -/
namespace Sys2Proof.Machine

theorem held_keptByFrames : KeptByFrames HeldState where
  opened _ := state_open
  closed _ r l := state_close r l
  captured _ f := state_capture f
  woken _ := state_chipWake

theorem held_keptByLine : KeptByLine HeldState where
  line _ l := state_withLine l
  posted _ k sub d := held_post k sub d
  braced _ c h := state_actOn _ (held_braceCommand c h)
  woken _ := state_wake

section
variable {s : State}

theorem state_loadEnd (n : Nat) (h : HeldState s) : HeldState (loadEnd n s).2 := by
  unfold loadEnd endStaged commitPattern
  repeat' split
  all_goals exact h

/-- The link's commands that act on the seat. -/
theorem exec_seatCommand_held {i : Instr} (h : HeldState s) (hc : (commandClass i).isSome = true) : Gives HeldState (exec i s) := by
  have command {c f} (hf : ∀ b u, Held u → Held (f b u).2.1) : Gives HeldState (comfort c (onSeat f) s) :=
    held_keptByFrames.comfort h fun _ => state_onSeat f hf
  have k := held_keptByFrames
  cases i
  case moveAxisTo => exact command fun _ _ => held_moveAxisTo _ _
  case jogAxis => exact command fun _ _ => held_jogAxis _ _ _
  case stopAxis => exact command fun _ _ => held_stopAxis _
  case stopAll => exact command fun _ _ => held_stopAll
  case learnAxis => exact command fun _ _ => held_learn _
  case clearAxisFault => exact command fun _ _ => held_caf _
  case storeProfile => exact command fun _ _ => held_store _
  case recallProfile => exact command fun _ _ => held_recall _
  case eraseProfile => exact command fun _ _ => held_erase _
  case doorExit => exact command fun _ _ => held_exit
  case doorEntry => exact command fun _ _ => held_entry
  case setSupport => exact command fun _ _ => held_support _ _
  case lumbarAdjust => exact command fun _ _ => held_lumbar _
  case clearGalleryFault => exact command fun _ _ => held_cgf
  case startMassage => exact command fun _ _ => held_start _ _ _
  case setMassage => exact command fun _ _ => held_setm _ _
  case stopMassage => exact command fun _ _ => held_stopm
  case setHeat => exact command fun _ _ => held_setHeatC _ _
  case setFan => exact command fun _ _ => held_setFanC _ _
  case setSupplyCeiling => exact command fun _ _ => held_ceilingC _
  case unlockBrace => exact command fun _ _ => held_unlockC
  case loadPatternBegin =>
    refine k.comfort h fun u hu => ?_
    unfold loadBegin
    repeat' split
    all_goals exact hu
  case loadPatternSteps =>
    refine k.comfort h fun u hu => ?_
    unfold loadSteps
    repeat' split
    all_goals exact hu
  case setSupplyThresholds =>
    refine k.comfort h fun u hu => ?_
    unfold setSupplyThresholds
    split <;> exact hu
  case setVehicleState => exact k.comfort h fun _ => state_vehicle _
  case writeConfig => exact k.comfort h fun _ => state_write _ _ _ _
  case park => exact k.comfort h fun _ => state_park
  all_goals cases hc

/-- The frames of the link that are no command of the restricted mode. -/
theorem exec_otherFrame_held {i : Instr} (h : HeldState s) (hf : isFrame i = true) (hc : (commandClass i).isSome = false) :
    Gives HeldState (exec i s) := by
  have k := held_keptByFrames
  by_cases seat : onSeatAlone i = true
  · cases i
    case readNotice => exact k.readNotice h fun _ _ hu => hu
    case readStatus | readAxis | readAllocation | readGallery | readBladder | readMassage | readClimate | readBrace | readProfile
        | readRecall | readConfig => exact k.readFrame _ h
    case comfortFrameLength | unknownCommand => exact k.notTaken _ h
    case chipSelectWake => exact k.frame h (k.opened s h)
    case replyCapture f => exact k.replyCapture f h
    all_goals first | exact absurd hf Bool.false_ne_true | exact absurd hc.symm Bool.false_ne_true | exact absurd seat Bool.false_ne_true
  · cases i
    case loadPatternEnd => exact k.loadPatternEnd h fun _ => state_loadEnd _
    case reset => exact k.reset h fun _ _ => held_idle _
    all_goals first | exact absurd hf Bool.false_ne_true | exact absurd hc.symm Bool.false_ne_true | exact absurd rfl seat

end

/-- The command is an event of one axis. -/
def ofAxis (i : Instr) : Bool :=
  match i with
  | .acceptedPulse _ | .rejectedLow _ | .stall _ | .coastWindowEnd _ | .overcurrentBlankingEnd _ | .overcurrent _ | .jogExpiry _
  | .comparatorAssertionChange _ _ => true
  | _ => false

theorem exec_ofAxis_held {i : Instr} {s : State} (hi : ofAxis i = true) (h : HeldState s) : Gives HeldState (exec i s) := by
  have event {a can f} (hf : can (axisOf s.seat a) = true → Held (f s.base s.seat).1) : Gives HeldState (axisEvent s a can f) :=
    gives_eventIf h fun hc => state_actOn _ (hf (Bool.and_eq_true_iff.mp hc).2)
  cases i
  case acceptedPulse =>
    simp only [exec, execAcceptedPulse]
    exact event fun _ => held_pulse _ h
  case rejectedLow =>
    simp only [exec, execRejectedLow]
    exact event fun _ => held_disturb _ h
  case stall =>
    simp only [exec, execStall]
    exact event fun _ => held_stalled _ h
  case coastWindowEnd =>
    simp only [exec, execCoastWindowEnd]
    exact event fun _ => held_endCoast _ h
  case overcurrent =>
    simp only [exec, execOvercurrent]
    exact event fun _ => held_overcurrent _ h
  case jogExpiry =>
    simp only [exec, execJogExpiry]
    exact event fun _ => held_endMove _ _ _ h
  case comparatorAssertionChange =>
    simp only [exec, execComparatorAssertionChange]
    exact event fun _ => held_compar _ _ h
  case overcurrentBlankingEnd =>
    simp only [exec, execOvercurrentBlankingEnd]
    exact event fun hc => held_endBlank _ h (Bool.and_eq_true_iff.mp hc).1
  all_goals cases hi

/-- Every command keeps the claims and the axes lawful. -/
theorem exec_held (i : Instr) {s : State} (h : HeldState s) : Gives HeldState (exec i s) := by
  have always {f} (hf : Held (f s.base s.seat).1) : Gives HeldState (event s f) := gives_event h (state_actOn _ hf)
  have whenCan {c f} (hf : c = true → Held (f s.base s.seat).1) : Gives HeldState (eventIf s c f) :=
    gives_eventIf h fun hc => state_actOn _ (hf hc)
  have resets {i} := exec_resets (P := HeldState) (i := i) (s := s) (fun _ _ => held_idle _) (fun _ _ => held_idle _)
    (fun _ f l r _ => state_resetPart f l r _)
  by_cases line : ofLine i = true
  · exact exec_ofLine held_keptByLine line h
  by_cases command : (commandClass i).isSome = true
  · exact exec_seatCommand_held h command
  by_cases frame : isFrame i = true
  · exact exec_otherFrame_held h frame (Bool.eq_false_iff.mpr command)
  cases i
  case acceptedPulse | rejectedLow | stall | coastWindowEnd | overcurrentBlankingEnd | overcurrent | jogExpiry
      | comparatorAssertionChange => exact exec_ofAxis_held rfl h
  case staggerWindowEnd | bracePoint => exact whenCan fun _ => held_alloc _ h (claims_same h.1 rfl rfl)
  case axisContactPress => exact whenCan fun _ => held_pressAxis _ _ h
  case keyPress => exact whenCan fun _ => held_pressKey _ h
  case lumbarContactPress => exact whenCan fun _ => held_pressLumbar _ h
  case axisContactRelease | lumbarContactRelease => exact whenCan fun _ => held_releaseContact _ h
  case keyRelease => exact whenCan fun _ => held_releaseContact (s := startRearm s.seat _) _ h
  case keyRearm =>
    simp only [exec, execKeyRearm]
    split <;> exact gives_next h
  case switchStuck => exact whenCan fun _ => held_stuckContact _ h
  case contactLevelChange => exact whenCan fun _ => h
  case storeWindowEnd => exact always (f := fun _ t => done (closeWindow t)) h
  case recallTimeout =>
    exact always (f := fun b t => abortRecall b (recallTimeUp t) .timeout) (held_abortRecall (s := recallTimeUp s.seat) _ h)
  case burstEnd | settleEnd => exact whenCan fun _ => h
  case pressureReading => exact whenCan fun _ => held_reading _ h
  case compressorWaitExpiry => exact whenCan fun _ => held_endFlight _ h
  case massageHoldEnd | cycleRestEnd => exact whenCan fun _ => h
  case sessionExpiry => exact whenCan fun _ => held_engineStop (s := sessionTimeUp s.seat) _ h
  case heatSample z code => exact always (f := fun b t => heatSample b t z code) (held_heatSample _ _ h)
  case heatStepdown => exact whenCan fun _ => held_stepDown _ h
  case holdTimerExpiry => exact always (held_takeStandDown h)
  case monitorSample =>
    simp only [exec, execMonitorSample]
    exact gives_wholeEvent h (state_supply _ _ h)
  case thresholdSettleEnd =>
    simp only [exec, execThresholdSettleEnd]
    exact gives_wholeEvent h h
  case hallSample =>
    simp only [exec, execHallSample]
    split
    · exact gives_wholeEvent h (state_hall _ _ h)
    · exact gives_next h
  case storeWriteComplete =>
    simp only [exec, execStoreWriteComplete]
    split
    · exact gives_next (state_writes _ h)
    · exact gives_next h
  case wakeIntervalInstant closed mv =>
    simp only [exec, execWakeIntervalInstant]
    split
    · exact gives_next (state_instant _ _ h)
    · exact gives_next (state_second _ h)
    · exact gives_next (state_second _ h)
    · exact gives_next h
  case powerOnReset f l => exact resets (.inr (.inr (.inl ⟨f, l, rfl⟩))) h
  case resetPin => exact resets (.inl rfl) h
  case warmResetDrainEnd l => exact resets (.inr (.inr (.inr ⟨l, rfl⟩))) h
  case powerLoss => exact resets (.inr (.inl rfl)) h
  all_goals first | exact absurd rfl line | exact absurd rfl command | exact absurd rfl frame

theorem held_tick {s : State} (h : HeldState s) : HeldState (tick s) := by
  have seat : Held (tickSeat s.seat) := by
    refine ⟨claims_same h.1 rfl rfl, fun a => ?_⟩
    simp only [axisOf, tickSeat, PerAxis.get_map]
    exact tick_axis (h.2 a)
  unfold tick
  split
  · exact seat
  · exact seat
  · exact h
  · exact h

/-- Settles O7: every act keeps the claims and the axes lawful. -/
theorem stepKeepsClaimsAndAxesLawful : Obligations.StepKeepsClaimsAndAxesLawful := by
  unfold Obligations.StepKeepsClaimsAndAxesLawful
  exact fun s t => step_keeps (P := HeldState) (fun i _ => exec_held i) (fun _ _ hs => hs) held_tick

end Sys2Proof.Machine
end

section
/-! SUPPORT. The notice queue (10_the_comfort_link.md R173, R174) and the store queue (11_parking_start_up_and_retained_records.md R177)
stay lawful: the commands, too, post notices and ask writes and do little else to the two queues. -/
namespace Sys2Proof.Machine

section
variable {r s : Seat} {b : Base}

/-! ### What each command's act does to the queues -/

theorem logs_moveAxisTo (x n : Nat) (h : Logs r s) : Logs r (moveAxisTo x n b s).2.1 := by
  unfold moveAxisTo
  repeat' split
  all_goals first | exact h | exact logs_takeMove _ _ _ h

theorem logs_takeJog (a : Axis) (d : Dir) (ms : Nat) (h : Logs r s) : Logs r (takeJog b s a d ms).1 := by
  unfold takeJog
  split
  · exact h
  · exact logs_takeMove _ _ _ h

theorem logs_jogAxis (x d n : Nat) (h : Logs r s) : Logs r (jogAxis x d n b s).2.1 := by
  unfold jogAxis
  repeat' split
  all_goals first | exact h | exact logs_takeJog _ _ _ h

theorem logs_stopMove (a : Axis) (h : Logs r s) : Logs r (stopMove b a s).1 := by
  unfold stopMove
  dsimp only
  repeat' split
  · exact logs_endMove _ _ _ (logs_holdOff _ (logs_holdOff _ h))
  · exact logs_endMove _ _ _ h
  · exact h

theorem logs_stopWaiting (a : Axis) (h : Logs r s) : Logs r (stopWaiting s a).1 := by
  unfold stopWaiting
  repeat' split
  all_goals exact h

theorem logs_stopAxis (x : Nat) (h : Logs r s) : Logs r (stopAxis x b s).2.1 := by
  unfold stopAxis
  split
  · exact h
  · exact logs_stopWaiting _ (logs_stopMove _ h)

theorem logs_stopOther (a : Axis) (h : Logs r s) : Logs r (stopOther b a s).1 := by
  unfold stopOther
  split
  · exact h
  · exact logs_stopMove _ h

theorem logs_stopAll (h : Logs r s) : Logs r (stopAll b s).2.1 :=
  logs_each _ (fun _ _ => logs_stopOther _) _ (logs_abortRecall _ h)

theorem logs_learnAxis (x : Nat) (h : Logs r s) : Logs r (learnAxis x b s).2.1 := by
  unfold learnAxis
  repeat' split
  all_goals first | exact h | exact logs_startLearn _ h

theorem logs_clearAxisFault (x : Nat) (h : Logs r s) : Logs r (clearAxisFault x b s).2.1 := by
  unfold clearAxisFault
  repeat' split
  all_goals exact h

theorem logs_storeProfile (x : Nat) (h : Logs r s) : Logs r (storeProfile x b s).2.1 := by
  unfold storeProfile
  repeat' split
  all_goals first | exact h | exact logs_storeSlot _ _ h

theorem logs_eraseProfile (x : Nat) (h : Logs r s) : Logs r (eraseProfile x b s).2.1 := by
  unfold eraseProfile
  repeat' split
  all_goals first | exact h | exact logs_storeSlot _ _ h

theorem logs_recallProfile (x : Nat) (h : Logs r s) : Logs r (recallProfile x b s).2.1 := by
  unfold recallProfile
  repeat' split
  all_goals first | exact h | exact logs_supersede _ _ _ h

theorem logs_doorExit (h : Logs r s) : Logs r (doorExit b s).2.1 := by
  unfold doorExit
  split
  · exact h
  · exact logs_exitStart h

theorem logs_doorEntry (h : Logs r s) : Logs r (doorEntry b s).2.1 := by
  unfold doorEntry
  split
  · exact h
  · exact logs_recallStart _ _ _ h

theorem logs_setSupport (x n : Nat) (h : Logs r s) : Logs r (setSupport x n b s).2.1 := by
  unfold setSupport
  repeat' split
  all_goals first | exact h | exact logs_askSupport _ _ h

theorem logs_lumbarAdjust (x : Nat) (h : Logs r s) : Logs r (lumbarAdjust x b s).2.1 := by
  unfold lumbarAdjust
  repeat' split
  all_goals first | exact h | exact logs_lumbarStep _ _ h

theorem logs_clearGalleryFault (h : Logs r s) : Logs r (clearGalleryFault b s).2.1 := by
  unfold clearGalleryFault
  split <;> exact h

theorem logs_startMassage (x i v : Nat) (h : Logs r s) : Logs r (startMassage x i v b s).2.1 := by
  unfold startMassage whenIdle
  repeat' split
  all_goals first | exact h | exact logs_engineStart _ _ _ h

theorem logs_setMassage (i v : Nat) (h : Logs r s) : Logs r (setMassage i v b s).2.1 := by
  unfold setMassage whenIdle
  repeat' split
  all_goals exact h

theorem logs_stopMassage (h : Logs r s) : Logs r (stopMassage b s).2.1 := by
  unfold stopMassage whenIdle
  repeat' split
  all_goals first | exact h | exact logs_engineStop _ h

theorem logs_setHeatCommand (z l : Nat) (h : Logs r s) : Logs r (setHeatCommand z l b s).2.1 := by
  unfold setHeatCommand
  repeat' split
  all_goals first | exact h | exact logs_setHeat _ _ h

theorem logs_setFanCommand (z l : Nat) (h : Logs r s) : Logs r (setFanCommand z l b s).2.1 := by
  unfold setFanCommand
  repeat' split
  all_goals first | exact h | exact logs_setFan _ _ h

theorem logs_setSupplyCeiling (n : Nat) (h : Logs r s) : Logs r (setSupplyCeiling n b s).2.1 := by
  unfold setSupplyCeiling
  split <;> exact h

theorem logs_unlockBrace (h : Logs r s) : Logs r (unlockBrace b s).2.1 := by
  unfold unlockBrace
  repeat' split
  · exact h
  · exact h
  · exact logs_unlock h

theorem logs_endLearn (a : Axis) (h : Logs r s) : Logs r (endLearn b a s).1 := by
  unfold endLearn
  split
  · exact logs_endMove _ _ _ h
  · exact h

theorem logs_fanClaimWritten (l : Nat) (h : Logs r s) : Logs r (fanClaimWritten b s l).1 := by
  unfold fanClaimWritten
  dsimp only
  split
  · exact logs_each (fun z u => levelZeroClaim b u z) (fun _ _ => logs_levelZero _) zoneOrder (logs_fanAmount _ _ h)
  · exact logs_fanAmount _ _ h

theorem logs_stepDownIfDue (z : Zone) (h : Logs r s) : Logs r (stepDownIfDue b s z).1 := by
  unfold stepDownIfDue
  split
  · exact logs_stepDown _ h
  · exact h

theorem logs_itemEffect (item index v : Nat) (h : Logs r s) : Logs r (itemEffect item index v b s).1 := by
  unfold itemEffect
  repeat' split
  all_goals first
    | exact h
    | exact logs_amount _ _ h
    | exact logs_fanClaimWritten _ h
    | exact logs_stepDownIfDue _ h

theorem logs_writeTold (w : RecordWrite) (h : Logs r s) : Logs r (writeTold b s w).1 := by
  unfold writeTold raiseDeferred
  repeat' split
  all_goals first | exact h | exact logs_raiseAxis (s := markWritten s _) _ h

theorem logs_braceCommand (c : SafetyCommand) (h : Logs r s) : Logs r (braceCommand c b s).1 := by
  cases c
  case statusQuery => exact h
  case brace => exact logs_takeBrace _ h
  case hold => exact logs_takeHold h
  case standDown => exact logs_takeStandDown h
  case crash => exact logs_takeCrash _ h

theorem logs_hallHands (e : HallEvent) (a : Axis) (h : Logs r s) : Logs r (hallHands e a b s).1 := by
  cases e
  case nothing => exact h
  case pulse => exact logs_pulse _ h
  case rejected => exact logs_disturb _ h

theorem logs_supplyChange (old new : MonitorState) (h : Logs r s) : Logs r (supplyChange old new s).1 := by
  unfold supplyChange
  split
  · exact h
  · exact logs_post _ _ _ h

theorem logs_instantContact (closed : List Contact) (c : Contact) (h : Logs r s) : Logs r (instantContact closed s c) := by
  unfold instantContact
  dsimp only
  repeat' split
  all_goals exact h

theorem logs_measureSecond (closed : List Contact) (c : Contact) (h : Logs r s) : Logs r (measureSecond b closed s c) := by
  unfold measureSecond
  dsimp only
  split <;> exact h

theorem logs_measureFromWake (c : Contact) (h : Logs r s) : Logs r (measureFromWake b s c) := by
  unfold measureFromWake
  dsimp only
  repeat' split
  all_goals exact h

theorem logs_parkContact (c : Contact) (h : Logs r s) : Logs r (parkContact s c) := by
  unfold parkContact
  dsimp only
  split <;> exact h

theorem logs_stopBlocks (h : Logs r s) : Logs r (stopBlocks s) := by
  have stopped : Logs r (contactOrder.foldl parkContact (closeWindow s)) :=
    logs_fold parkContact (fun _ _ => logs_parkContact _) _ (logs_closeWindow h)
  unfold stopBlocks
  exact stopped

theorem logs_queueClean (a : Axis) (h : Logs r s) : Logs r (queueClean s a) := logs_put _ _ (logs_axisRecord _ _ h)

end

/-! ### Loading the records -/

section
variable {n0 n : Notices} {q0 q : StoreQueue}

theorem log_axisDefaulted (r : Records) (a : Axis) (h : Log n0 q0 n q) : Log n0 q0 (axisDefaulted r n a) q := by
  unfold axisDefaulted
  split
  · exact h
  · exact .post _ _ _ h

theorem log_profileDefaulted (r : Records) (p : Retained4) (h : Log n0 q0 n q) : Log n0 q0 (profileDefaulted r n p) q := by
  unfold profileDefaulted
  split
  · exact h
  · exact .post _ _ _ h

theorem log_loadPattern (r : Records) (k : PatternNo) (x : Patterns × Notices) (h : Log n0 q0 x.2 q) :
    Log n0 q0 (loadPattern r x k).2 q := by
  unfold loadPattern
  repeat' split
  all_goals first | exact h | exact .post _ _ _ h

/-- R182: loading posts the notices of the records that are bad. -/
theorem log_loadRecords (f : Fitment) (r : Records) (q : StoreQueue) :
    Log Reset.notices q (loadRecords f r).notices q := by
  unfold loadRecords
  extract_lets cfg n0 n1 n2 n3 p
  have h0 : Log Reset.notices q n0 q := by
    unfold n0
    split
    · exact .post _ _ _ .start
    · exact .start
  have h1 : Log Reset.notices q n1 q := by
    unfold n1
    split
    · exact .post _ _ _ h0
    · exact h0
  have h2 : Log Reset.notices q n2 q :=
    foldl_keeps (fun n => Log Reset.notices q n q) _ (fun _ _ => log_axisDefaulted r _) _ _ h1
  have h3 : Log Reset.notices q n3 q :=
    foldl_keeps (fun n => Log Reset.notices q n q) _ (fun _ _ => log_profileDefaulted r _) _ _ h2
  exact foldl_keeps (fun x : Patterns × Notices => Log Reset.notices q x.2 q) _ (fun x _ => log_loadPattern r _ x) _
    (emptyPatterns, n3) h3

end

/-! ### Predicates of the two queues -/

/-- What the part does to its queues keeps the predicate: a notice posted, a write asked, the capture and the removal of a notice, the
completion of a write, the drain of a warm reset, and the empty queues of a reset. -/
structure KeptByLog (P : Notices → StoreQueue → Prop) : Prop where
  posted : ∀ n q k sub d, P n q → P (postTo n k sub d) q
  written : ∀ n q w, P n q → P n (enterWrite q w)
  captured : ∀ n q c, P n q → P { n with captured := c } q
  removed : ∀ n q, P n q → P (removeCaptured n) q
  completed : ∀ n q n1 q1, P n q → Log n { q with inFlight := none } n1 q1 → P n1 (startWrite q1)
  drained : ∀ n q, P n q → P Reset.notices q
  empty : P Reset.notices { queue := [], inFlight := none }

/-- The predicate holds of the queues of the part. -/
def Queues (P : Notices → StoreQueue → Prop) (s : State) : Prop := P s.seat.notices s.seat.store

namespace KeptByLog
variable {P : Notices → StoreQueue → Prop} (k : KeptByLog P)
include k

theorem log {n0 n : Notices} {q0 q : StoreQueue} (l : Log n0 q0 n q) (h : P n0 q0) : P n q := by
  induction l with
  | start => exact h
  | post kind sub d _ ih => exact k.posted _ _ _ _ _ ih
  | write w _ ih => exact k.written _ _ _ ih

section
variable {s : State}

theorem settles (y : Did) (h : Queues P s) (l : Logs s.seat y.1) : Queues P (actOn s y) := k.log (logs_settled y l) h

omit k in
theorem opened (h : Queues P s) : Queues P (openFrame s) := by
  unfold Queues
  rwa [openFrame_seat]

theorem capturesReply (f : ReadFrame) (h : Queues P s) : Queues P (captureReply f s) := by
  unfold captureReply
  dsimp only
  split
  · exact k.captured _ _ _ h
  · exact h

theorem wakes (h : Queues P s) : Queues P (wake s) := by
  have acted : Logs s.seat (settled (wakeBase s.base)
      (forEach zoneOrder (fun z t => levelZeroClaim (wakeBase s.base) t z) (wakeSeat (wakeBase s.base).cfg s.seat))) :=
    logs_settled _ (logs_each _ (fun _ _ => logs_levelZero _) _ .start)
  exact k.log (logs_fold (measureFromWake (wakeBase s.base)) (fun _ _ => logs_measureFromWake _) _ acted) h

theorem keptByFrames : KeptByFrames (Queues P) where
  opened _ := opened
  closed _ _ _ h := k.captured _ _ none h
  captured _ f := k.capturesReply f
  woken _ := k.wakes

theorem keptByLine : KeptByLine (Queues P) where
  line _ _ h := h
  posted _ _ _ _ h := k.posted _ _ _ _ _ h
  braced _ c h := k.settles _ h (logs_braceCommand c .start)
  woken _ := k.wakes

theorem supplySample (mv : Nat) (next : Option Nat) (h : Queues P s) : Queues P (supplySample s mv next) :=
  k.settles (s := withBase s _) _ h (logs_supplyChange _ _ .start)

theorem readInstant (closed : List Contact) (mv : Nat) (h : Queues P s) : Queues P (readInstant s closed mv) :=
  k.supplySample (s := withSeat s _) mv none
    (k.log (logs_fold (instantContact closed) (fun _ _ => logs_instantContact closed _) (watchedContacts s.base true) (.refl s.seat)) h)

theorem acceptPark (h : Queues P s) : Queues P (acceptPark s) := by
  have off (u : State) (hu : Queues P u) : Queues P (actOn u (climateOff u.base u.seat)) :=
    k.settles _ hu (logs_climateOff .start)
  have ceiling (u : State) (hu : Queues P u) : Queues P (actOn u (setCeiling u.seat u.base.cfg.parkCeiling)) :=
    k.settles _ hu .start
  have clean (u : State) (hu : Queues P u) :
      Queues P (withSeat u ((presentIn u.base.fit axisOrder).foldl queueClean (closeWindow u.seat))) :=
    k.log (logs_fold queueClean (fun _ _ => logs_queueClean _) _ (logs_closeWindow (.refl u.seat))) hu
  have based (u : State) (b : Base) (hu : Queues P u) : Queues P (withBase u b) := hu
  unfold Machine.acceptPark
  exact based _ _ (clean _ (ceiling _ (off _ (based s _ h))))

theorem enterParked (h : Queues P s) : Queues P (enterParked s) := by
  have off : Queues P (actOn s (andThen (climateOff s.base s.seat) releaseFans)) := by
    refine k.settles _ h ?_
    rw [andThen_fst]
    exact logs_releaseFans (logs_climateOff .start)
  have stopped (u : State) (hu : Queues P u) : Queues P (withSeat u (stopBlocks u.seat)) :=
    k.log (logs_stopBlocks (.refl u.seat)) hu
  have based (u : State) (b : Base) (hu : Queues P u) : Queues P (withBase u b) := hu
  unfold Machine.enterParked
  exact based _ _ (stopped _ off)

theorem tryPark (h : Queues P s) : Queues P (tryPark s) := by
  unfold Machine.tryPark
  repeat' split
  · exact h
  · exact k.enterParked h
  · exact h

theorem completeWrite (w : RecordWrite) (h : Queues P s) : Queues P (completeWrite s w) := by
  have told (u : State) : Logs u.seat (actOn u (writeTold u.base u.seat w)).seat := logs_settled _ (logs_writeTold w .start)
  exact k.completed _ _ _ _ h
    (told (withSeat (withBase s { s.base with records := writeRecord s.base.records w })
      { s.seat with store := { s.seat.store with inFlight := none } }))

theorem writeCompletes (w : RecordWrite) (h : Queues P s) : Queues P (writeCompletes s w) := by
  unfold Machine.writeCompletes
  split
  · exact k.completeWrite w h
  · exact k.tryPark (k.completeWrite w h)
  · exact k.completed _ _ _ _ h .start
  · exact h

theorem resetPart (s : State) (f : Fitment) (l : Bool) (r : Records) : Queues P (resetPart s f l r) := by
  have loaded : P (loadRecords f r).notices { queue := [], inFlight := none } := k.log (log_loadRecords f r _) k.empty
  have reset (b : Base) : Logs (resetSeat (loadRecords f r)) (afterReset b (resetSeat (loadRecords f r))).1 :=
    logs_each (fun z t => levelZeroClaim b t z) (fun _ _ => logs_levelZero _) zoneOrder .start
  exact k.log (logs_settled _ (reset _)) loaded

theorem loadEnd (n : Nat) (h : Queues P s) : Queues P (loadEnd n s).2 := by
  unfold Machine.loadEnd endStaged commitPattern
  repeat' split
  all_goals first | exact h | exact k.written _ _ _ h

theorem setVehicleState (v : Nat) (h : Queues P s) : Queues P (setVehicleState v s).2 := by
  unfold Machine.setVehicleState
  dsimp only
  repeat' split
  · exact h
  · exact k.settles (s := withLink s _) _ h (logs_each _ (fun a _ => logs_endLearn a) _ .start)
  · exact h

theorem acceptItem (c : Settings) (item index v : Nat) (h : Queues P s) : Queues P (acceptItem s c item index v) :=
  k.written _ _ _ (k.settles (s := withBase s { s.base with cfg := c }) _ h (logs_itemEffect item index v .start))

theorem writeConfig (item index v w : Nat) (h : Queues P s) : Queues P (writeConfig item index v w s).2 := by
  unfold Machine.writeConfig
  repeat' split
  · exact h
  · exact h
  · exact k.acceptItem _ _ _ _ h

theorem park (h : Queues P s) : Queues P (park s).2 := by
  unfold Machine.park
  repeat' split
  · exact h
  · exact h
  · exact k.acceptPark h

/-- The link's commands keep what posting and asking writes keep. -/
theorem command {i : Instr} (h : Queues P s) (hc : (commandClass i).isSome = true) : Gives (Queues P) (exec i s) := by
  have f := k.keptByFrames
  have command {c act} (logs : ∀ b u, Logs u (act b u).2.1) : Gives (Queues P) (comfort c (onSeat act) s) :=
    f.comfort h fun u hu => k.settles _ hu (logs u.base u.seat)
  cases i
  case moveAxisTo => exact command fun _ _ => logs_moveAxisTo _ _ .start
  case jogAxis => exact command fun _ _ => logs_jogAxis _ _ _ .start
  case stopAxis => exact command fun _ _ => logs_stopAxis _ .start
  case stopAll => exact command fun _ _ => logs_stopAll .start
  case learnAxis => exact command fun _ _ => logs_learnAxis _ .start
  case clearAxisFault => exact command fun _ _ => logs_clearAxisFault _ .start
  case storeProfile => exact command fun _ _ => logs_storeProfile _ .start
  case recallProfile => exact command fun _ _ => logs_recallProfile _ .start
  case eraseProfile => exact command fun b _ => logs_eraseProfile (b := b) _ .start
  case doorExit => exact command fun _ _ => logs_doorExit .start
  case doorEntry => exact command fun _ _ => logs_doorEntry .start
  case setSupport => exact command fun _ _ => logs_setSupport _ _ .start
  case lumbarAdjust => exact command fun _ _ => logs_lumbarAdjust _ .start
  case clearGalleryFault => exact command fun b _ => logs_clearGalleryFault (b := b) .start
  case startMassage => exact command fun _ _ => logs_startMassage _ _ _ .start
  case setMassage => exact command fun b _ => logs_setMassage (b := b) _ _ .start
  case stopMassage => exact command fun b _ => logs_stopMassage (b := b) .start
  case setHeat => exact command fun b _ => logs_setHeatCommand (b := b) _ _ .start
  case setFan => exact command fun _ _ => logs_setFanCommand _ _ .start
  case setSupplyCeiling => exact command fun b _ => logs_setSupplyCeiling (b := b) _ .start
  case unlockBrace => exact command fun _ _ => logs_unlockBrace .start
  case loadPatternBegin =>
    refine f.comfort h fun u hu => ?_
    unfold loadBegin
    repeat' split
    all_goals exact hu
  case loadPatternSteps =>
    refine f.comfort h fun u hu => ?_
    unfold loadSteps
    repeat' split
    all_goals exact hu
  case setSupplyThresholds =>
    refine f.comfort h fun u hu => ?_
    unfold setSupplyThresholds
    split <;> exact hu
  case setVehicleState => exact f.comfort h fun _ => k.setVehicleState _
  case writeConfig => exact f.comfort h fun _ => k.writeConfig _ _ _ _
  case park => exact f.comfort h fun _ => k.park
  all_goals exact absurd hc Bool.false_ne_true

/-- The other frames keep, besides, what the capture and the removal of a notice keep. -/
theorem otherFrame {i : Instr} (h : Queues P s) (hf : isFrame i = true) (hc : (commandClass i).isSome = false) :
    Gives (Queues P) (exec i s) := by
  have f := k.keptByFrames
  cases i
  case readNotice =>
    simp only [exec, execReadNotice]
    exact f.frame h (f.closed _ _ _ (k.removed _ _ (f.ensured .notice (f.opened s h))))
  case readStatus | readAxis | readAllocation | readGallery | readBladder | readMassage | readClimate | readBrace | readProfile
      | readRecall | readConfig => exact f.readFrame _ h
  case comfortFrameLength | unknownCommand => exact f.notTaken _ h
  case chipSelectWake => exact f.frame h (f.opened s h)
  case replyCapture => exact f.replyCapture _ h
  case loadPatternEnd => exact f.loadPatternEnd h fun _ => k.loadEnd _
  case reset => exact f.reset h fun _ hu => k.drained _ _ hu
  all_goals first | exact absurd hf Bool.false_ne_true | exact absurd hc.symm Bool.false_ne_true

/-- The events of one axis. -/
theorem axisEvent {i : Instr} (h : Queues P s) (hi : ofAxis i = true) : Gives (Queues P) (exec i s) := by
  have event {a can f} (logs : Logs s.seat (f s.base s.seat).1) : Gives (Queues P) (Machine.axisEvent s a can f) :=
    gives_eventIf h fun _ => k.settles _ h logs
  cases i
  case acceptedPulse =>
    simp only [exec, execAcceptedPulse]
    exact event (logs_pulse _ .start)
  case rejectedLow =>
    simp only [exec, execRejectedLow]
    exact event (logs_disturb _ .start)
  case stall =>
    simp only [exec, execStall]
    exact event (logs_stalled _ .start)
  case coastWindowEnd =>
    simp only [exec, execCoastWindowEnd]
    exact event (logs_endCoast _ .start)
  case overcurrentBlankingEnd | comparatorAssertionChange =>
    simp only [exec, execOvercurrentBlankingEnd, execComparatorAssertionChange]
    exact event (logs_put _ _ .start)
  case overcurrent =>
    simp only [exec, execOvercurrent]
    exact event (logs_overcurrent _ .start)
  case jogExpiry =>
    simp only [exec, execJogExpiry]
    exact event (logs_endMove _ _ _ .start)
  all_goals exact absurd hi Bool.false_ne_true

/-- Every command keeps it. -/
theorem exec (i : Instr) (h : Queues P s) : Gives (Queues P) (exec i s) := by
  have always {f} (logs : Logs s.seat (f s.base s.seat).1) : Gives (Queues P) (event s f) := gives_event h (k.settles _ h logs)
  have whenCan {c f} (logs : Logs s.seat (f s.base s.seat).1) : Gives (Queues P) (eventIf s c f) :=
    gives_eventIf h fun _ => k.settles _ h logs
  have resets {i} := exec_resets (P := Queues P) (i := i) (s := s) (fun _ => k.drained _ _) (fun _ _ => k.empty)
    (fun _ f l r _ => k.resetPart _ f l r)
  by_cases line : ofLine i = true
  · exact exec_ofLine k.keptByLine line h
  by_cases command : (commandClass i).isSome = true
  · exact k.command h command
  by_cases frame : isFrame i = true
  · exact k.otherFrame h frame (Bool.eq_false_iff.mpr command)
  by_cases axis : ofAxis i = true
  · exact k.axisEvent h axis
  cases i
  case staggerWindowEnd | bracePoint => exact whenCan .start
  case axisContactPress => exact whenCan (logs_pressAxis _ _ .start)
  case keyPress => exact whenCan (logs_pressKey _ .start)
  case lumbarContactPress => exact whenCan (logs_pressLumbar _ .start)
  case axisContactRelease | lumbarContactRelease => exact whenCan (logs_releaseContact _ .start)
  case keyRelease => exact whenCan (logs_releaseContact (s := startRearm s.seat _) _ .start)
  case keyRearm =>
    simp only [Machine.exec, execKeyRearm]
    split <;> exact gives_next h
  case switchStuck => exact whenCan (logs_stuckContact _ .start)
  case contactLevelChange => exact whenCan .start
  case storeWindowEnd => exact always (f := fun _ t => done (closeWindow t)) .start
  case recallTimeout =>
    exact always (f := fun b t => abortRecall b (recallTimeUp t) .timeout) (logs_abortRecall (s := recallTimeUp s.seat) _ .start)
  case burstEnd | settleEnd => exact whenCan .start
  case pressureReading => exact whenCan (logs_reading _ .start)
  case compressorWaitExpiry => exact whenCan (logs_endFlight _ .start)
  case massageHoldEnd | cycleRestEnd => exact whenCan .start
  case sessionExpiry => exact whenCan (logs_engineStop (s := sessionTimeUp s.seat) _ .start)
  case heatSample z code => exact always (f := fun b t => heatSample b t z code) (logs_heatSample _ _ .start)
  case heatStepdown => exact whenCan (logs_stepDown _ .start)
  case holdTimerExpiry => exact always (logs_takeStandDown .start)
  case monitorSample =>
    simp only [Machine.exec, execMonitorSample]
    exact gives_wholeEvent h (k.supplySample _ _ h)
  case thresholdSettleEnd =>
    simp only [Machine.exec, execThresholdSettleEnd]
    exact gives_wholeEvent h h
  case hallSample =>
    simp only [Machine.exec, execHallSample]
    split
    · exact gives_wholeEvent h (k.settles (s := withBase s _) _ h (logs_hallHands _ _ .start))
    · exact gives_next h
  case storeWriteComplete =>
    simp only [Machine.exec, execStoreWriteComplete]
    split
    · exact gives_next (k.writeCompletes _ h)
    · exact gives_next h
  case wakeIntervalInstant closed mv =>
    simp only [Machine.exec, execWakeIntervalInstant]
    have second : Queues P (secondInstant s closed) :=
      k.log (logs_fold (measureSecond s.base closed) (fun _ _ => logs_measureSecond closed _) _ (.refl s.seat)) h
    split
    · unfold wakeInstant
      dsimp only
      split
      · exact gives_next (k.wakes (k.readInstant closed mv h))
      · exact gives_next (k.readInstant closed mv h)
    · exact gives_next second
    · exact gives_next second
    · exact gives_next h
  case powerOnReset f l => exact resets (.inr (.inr (.inl ⟨f, l, rfl⟩))) h
  case resetPin => exact resets (.inl rfl) h
  case warmResetDrainEnd l => exact resets (.inr (.inr (.inr ⟨l, rfl⟩))) h
  case powerLoss => exact resets (.inr (.inl rfl)) h
  all_goals first | exact absurd rfl line | exact absurd rfl command | exact absurd rfl frame | exact absurd rfl axis

omit k in
theorem ticks (h : Queues P s) : Queues P (tick s) := by
  unfold tick
  split <;> exact h

/-- Every step keeps it. -/
theorem step {t : State} (h : Queues P s) (e : Machine.step s = .next t) : Queues P t :=
  step_keeps (fun i _ => k.exec i) (fun _ _ hs => hs) ticks h e

end
end KeptByLog

end Sys2Proof.Machine
end

section
/-! SUPPORT. The two queues are lawful after every step (R173, R177), the state after reset is lawful, and a step on an empty queue moves
timers alone. -/
namespace Sys2Proof.Machine

/-! ### The notice queue -/

section
variable {n : Notices} {k : NoticeKind} {sub : Subject} {d : Word16}

theorem sameNotice_iff (x : Notice) : sameNotice k sub x = true ↔ x.kind = k ∧ x.subject = sub := decide_eq_true_iff

theorem coalesce_key (x : Notice) : (coalesce k sub d x).kind = x.kind ∧ (coalesce k sub d x).subject = x.subject := by
  unfold coalesce
  split <;> exact ⟨rfl, rfl⟩

theorem coalesce_count {x : Notice} (h : 1 ≤ x.count ∧ x.count ≤ 255) :
    1 ≤ (coalesce k sub d x).count ∧ (coalesce k sub d x).count ≤ 255 := by
  unfold coalesce
  split
  · dsimp only
    omega
  · exact h

theorem postTo_coalesces (h : n.queue.any (sameNotice k sub) = true) :
    postTo n k sub d =
      { n with queue := n.queue.map (coalesce k sub d), captured := n.captured.map (markCapture k sub) } := if_pos h

theorem postTo_enters (h : n.queue.any (sameNotice k sub) = false) (room : n.queue.length < noticeRoom) :
    postTo n k sub d = { n with queue := n.queue ++ [{ kind := k, subject := sub, detail := d, count := 1 }] } := by
  unfold postTo
  rw [if_neg (Bool.eq_false_iff.mp h), if_pos room]

theorem postTo_drops (h : n.queue.any (sameNotice k sub) = false) (full : noticeRoom ≤ n.queue.length) :
    postTo n k sub d = { n with lost := true } := by
  unfold postTo
  rw [if_neg (Bool.eq_false_iff.mp h), if_neg (Nat.not_lt.mpr full)]

/-- R173: a notice posted keeps the queue lawful. -/
theorem lawful_postTo (k : NoticeKind) (sub : Subject) (d : Word16) (h : NoticesLawful n) : NoticesLawful (postTo n k sub d) := by
  by_cases found : n.queue.any (sameNotice k sub) = true
  · rw [postTo_coalesces found]
    refine ⟨?_, ?_, ?_, fun lost => ?_⟩
    · rw [List.length_map]
      exact h.room
    · refine List.pairwise_map.mpr (h.distinct.imp fun {x y} apart same => apart ?_)
      exact ⟨(coalesce_key x).1 ▸ (coalesce_key y).1 ▸ same.1, (coalesce_key x).2 ▸ (coalesce_key y).2 ▸ same.2⟩
    · intro y hy
      obtain ⟨x, hx, rfl⟩ := List.mem_map.mp hy
      exact coalesce_count (h.counted x hx)
    · exact fun empty => h.lost lost (List.map_eq_nil_iff.mp empty)
  · have absent := Bool.eq_false_iff.mpr found
    by_cases room : n.queue.length < noticeRoom
    · rw [postTo_enters absent room]
      refine ⟨?_, List.pairwise_append.mpr ⟨h.distinct, List.pairwise_singleton _ _, ?_⟩, ?_, fun _ => by simp⟩
      · simp only [List.length_append, List.length_singleton]
        exact room
      · intro x hx y hy same
        rw [List.mem_singleton.mp hy] at same
        have other := List.any_eq_false.mp absent x hx
        rw [sameNotice_iff] at other
        exact other same
      · intro y hy
        rcases List.mem_append.mp hy with old | new
        · exact h.counted y old
        · rw [List.mem_singleton.mp new]
          exact ⟨Nat.le_refl 1, Nat.le_add_left 1 254⟩
    · rw [postTo_drops absent (Nat.not_lt.mp room)]
      refine ⟨h.room, h.distinct, h.counted, fun _ empty => room ?_⟩
      rw [empty]
      decide

theorem dropCaptured_some {c : NoticeCapture} {x y : Notice} (h : dropCaptured c x = some y) :
    y.kind = x.kind ∧ y.subject = x.subject ∧ (y.count = x.count ∨ y.count = max 1 (x.count - c.count)) := by
  unfold dropCaptured at h
  split at h
  · split at h
    · cases h
      exact ⟨rfl, rfl, .inr rfl⟩
    · cases h
  · cases h
    exact ⟨rfl, rfl, .inl rfl⟩

/-- R174: the removal of the captured entry keeps the queue lawful. -/
theorem lawful_removeCaptured (h : NoticesLawful n) : NoticesLawful (removeCaptured n) := by
  unfold removeCaptured
  split
  · next c _ =>
    refine ⟨(List.length_filterMap_le _ _).trans h.room, ?_, ?_, ?_⟩
    · refine List.pairwise_filterMap.mpr (h.distinct.imp fun apart y hy z hz same => apart ?_)
      obtain ⟨yk, ys, -⟩ := dropCaptured_some hy
      obtain ⟨zk, zs, -⟩ := dropCaptured_some hz
      exact ⟨yk ▸ zk ▸ same.1, ys ▸ zs ▸ same.2⟩
    · intro y hy
      obtain ⟨x, hx, e⟩ := List.mem_filterMap.mp hy
      have bounds := h.counted x hx
      obtain ⟨-, -, count⟩ := dropCaptured_some e
      omega
    · dsimp only
      split
      · exact fun lost => nomatch lost
      · next some => exact fun _ empty => some (by rw [empty]; rfl)
  · exact h

theorem lawful_resetNotices : NoticesLawful Reset.notices := by constructor <;> simp [Reset.notices]

/-- Lawful notices, whatever the store queue holds. -/
theorem notices_keptByLog : KeptByLog fun n _ => NoticesLawful n where
  posted _ _ k sub d h := lawful_postTo k sub d h
  written _ _ _ h := h
  captured _ _ _ h := ⟨h.room, h.distinct, h.counted, h.lost⟩
  removed _ _ h := lawful_removeCaptured h
  completed _ _ _ _ h l := by
    induction l with
    | start => exact h
    | post k sub d _ ih => exact lawful_postTo k sub d ih
    | write _ _ ih => exact ih
  drained _ _ _ := lawful_resetNotices
  empty := lawful_resetNotices

/-- Settles O5: posting, capturing and removing keep the notices lawful, and a reset begins with none. -/
theorem stepKeepsNoticesLawful : Obligations.StepKeepsNoticesLawful := by
  unfold Obligations.StepKeepsNoticesLawful
  exact fun _ _ => notices_keptByLog.step

end

/-! ### The store queue -/

/-- The record that a write names: the write with contents that all writes of that record share. -/
def recordNamed (w : RecordWrite) : RecordWrite :=
  match w with
  | .axis a _ => .axis a Reset.axisRecord
  | .profile p _ => .profile p Reset.profile
  | .pattern p _ => .pattern p none
  | .configuration _ => .configuration defaultSettings
  | .crashLock _ => .crashLock none

theorem sameRecord_iff (x y : RecordWrite) : sameRecord x y = true ↔ recordNamed x = recordNamed y := by
  cases x <;> cases y <;> simp [sameRecord, recordNamed]

theorem sameRecord_comm (x y : RecordWrite) : sameRecord x y = sameRecord y x := by
  rw [Bool.eq_iff_iff, sameRecord_iff, sameRecord_iff, eq_comm]

/-- Writes of one record name the same records. -/
theorem sameRecord_congr {w x : RecordWrite} (h : sameRecord w x = true) (y : RecordWrite) : sameRecord w y = sameRecord x y := by
  rw [Bool.eq_iff_iff, sameRecord_iff, sameRecord_iff, (sameRecord_iff w x).mp h]

/-- At most one entry per record. -/
def OneEach (l : List RecordWrite) : Prop := l.Pairwise fun x y => sameRecord x y = false

theorem oneEach_startWrite {q : StoreQueue} (h : OneEach q.queue) : OneEach (startWrite q).queue := by
  unfold startWrite
  split
  · next e =>
    rw [e] at h
    exact h.tail
  · exact h

theorem lawful_startWrite {q : StoreQueue} (h : OneEach q.queue) : StoreLawful (startWrite q) := by
  refine ⟨oneEach_startWrite h, ?_⟩
  unfold startWrite
  cases inFlight : q.inFlight <;> cases entries : q.queue <;> simp [inFlight, entries]

/-- A write put in the place of the entry of its record. -/
theorem sameRecord_replace (w x y : RecordWrite) :
    sameRecord (if sameRecord w x then w else x) (if sameRecord w y then w else y) = sameRecord x y := by
  by_cases hx : sameRecord w x = true <;> by_cases hy : sameRecord w y = true
  · rw [if_pos hx, if_pos hy, ← sameRecord_congr hx y, hy, sameRecord_congr hx w, sameRecord_comm x w, hx]
  · rw [if_pos hx, if_neg hy, sameRecord_congr hx y]
  · rw [if_neg hx, if_pos hy, sameRecord_comm, sameRecord_congr hy x, sameRecord_comm]
  · rw [if_neg hx, if_neg hy]

theorem oneEach_replace {l : List RecordWrite} (w : RecordWrite) (h : OneEach l) :
    OneEach (l.map fun x => if sameRecord w x then w else x) :=
  List.pairwise_map.mpr (h.imp fun apart => (sameRecord_replace w _ _).trans apart)

theorem oneEach_append {l : List RecordWrite} {w : RecordWrite} (h : OneEach l) (absent : l.any (sameRecord w) = false) :
    OneEach (l ++ [w]) := by
  refine List.pairwise_append.mpr ⟨h, List.pairwise_singleton _ _, fun x hx y hy => ?_⟩
  rw [List.mem_singleton.mp hy, sameRecord_comm]
  exact Bool.eq_false_iff.mpr (List.any_eq_false.mp absent x hx)

/-- R177: a write asked keeps one entry per record, and begins when none is in flight. -/
theorem lawful_enterWrite {q : StoreQueue} (w : RecordWrite) (h : OneEach q.queue) : StoreLawful (enterWrite q w) := by
  unfold enterWrite
  split
  · exact lawful_startWrite (oneEach_replace w h)
  · next absent => exact lawful_startWrite (oneEach_append h (Bool.eq_false_iff.mpr absent))

theorem lawful_emptyStore : StoreLawful { queue := [], inFlight := none } := ⟨List.Pairwise.nil, fun _ => rfl⟩

/-- A lawful store queue, whatever the notices are. -/
theorem store_keptByLog : KeptByLog fun _ q => StoreLawful q where
  posted _ _ _ _ _ h := h
  written _ _ w h := lawful_enterWrite w h.distinct
  captured _ _ _ h := h
  removed _ _ h := h
  completed _ _ _ _ h l := by
    refine lawful_startWrite ?_
    induction l with
    | start => exact h.distinct
    | post _ _ _ _ ih => exact ih
    | write w _ ih => exact (lawful_enterWrite w ih).distinct
  drained _ _ h := h
  empty := lawful_emptyStore

/-- Settles O6: asking and completing writes keep the store queue lawful. -/
theorem stepKeepsStoreLawful : Obligations.StepKeepsStoreLawful := by
  unfold Obligations.StepKeepsStoreLawful
  exact fun _ _ => store_keptByLog.step

/-! ### The state after reset -/

/-- Settles O4. -/
theorem resetIsLawful : Obligations.ResetIsLawful := by
  unfold Obligations.ResetIsLawful
  refine ⟨?_, lawful_emptyStore, claims_reset, fun a => ?_, lawful_resetMonitor _, lineOf_reset true⟩
  · constructor
    · decide
    · simp only [sameKey]
      decide
    · decide
    · exact fun lost => nomatch lost
  · simp only [axisOf, State.reset, PerAxis.get_all]
    exact lawful_reset _ _ _ _ _

/-! ### A step on an empty queue -/

theorem contactOf_putContact (sc : Scanner) (c e : Contact) (x : ContactState) :
    contactOf (putContact sc c x) e = if e = c then x else contactOf sc e := by
  cases c <;> cases e <;> simp only [contactOf, putContact, PerAxis.get_set, PerLumbar.get_set, PerKey.get_put]
  case axis.axis a d a' d' => by_cases ha : a' = a <;> by_cases hd : d' = d <;> simp [ha, hd, PerDir.get_set]
  all_goals simp

theorem mem_contactOrder (c : Contact) : c ∈ contactOrder := by
  cases c with
  | axis a d => cases a <;> cases d <;> decide
  | lumbar l => cases l <;> decide
  | key k => cases k <;> decide

/-- Changing every contact of a list once changes those contacts alone. -/
theorem contactOf_foldl_put (f : ContactState → ContactState) (l : List Contact) (once : l.Nodup) (sc : Scanner) (e : Contact) :
    contactOf (l.foldl (fun t c => putContact t c (f (contactOf t c))) sc) e =
      if e ∈ l then f (contactOf sc e) else contactOf sc e := by
  induction l generalizing sc with
  | nil => rfl
  | cons c rest ih =>
    obtain ⟨fresh, once⟩ := List.nodup_cons.mp once
    rw [List.foldl_cons, ih once, contactOf_putContact]
    by_cases he : e = c
    · simp [he, fresh]
    · simp [he]

theorem tickContacts_contactOf (sc : Scanner) (c : Contact) : contactOf (tickContacts sc) c = tickContact (contactOf sc c) := by
  have all := contactOf_foldl_put tickContact contactOrder (by decide) sc c
  rwa [if_pos (mem_contactOrder c)] at all

/-- Nothing but contacts is put. -/
theorem foldl_putContact_rest (f : ContactState → ContactState) (l : List Contact) (sc : Scanner) :
    ∃ a u k, l.foldl (fun t c => putContact t c (f (contactOf t c))) sc = { sc with axes := a, lumbar := u, keys := k } := by
  induction l generalizing sc with
  | nil => exact ⟨_, _, _, rfl⟩
  | cons c rest ih =>
    obtain ⟨a, u, k, e⟩ := ih (putContact sc c (f (contactOf sc c)))
    exact ⟨a, u, k, by rw [List.foldl_cons, e]; cases c <;> rfl⟩

theorem tickScanner_rest (sc : Scanner) :
    tickScanner sc =
      { sc with
        axes := (tickScanner sc).axes, lumbar := (tickScanner sc).lumbar, keys := (tickScanner sc).keys,
        rearm := tickRearm sc.rearm, window := tickDown sc.window } := by
  obtain ⟨a, u, k, e⟩ := foldl_putContact_rest tickContact contactOrder (tickKeys sc)
  unfold tickScanner tickContacts
  rw [e]
  rfl

theorem contactOf_window (sc : Scanner) (w : Option Nat) (c : Contact) : contactOf { sc with window := w } c = contactOf sc c := by
  cases c <;> rfl

theorem tickScanner_contactOf (sc : Scanner) (c : Contact) : contactOf (tickScanner sc) c = tickContact (contactOf sc c) := by
  have keys : contactOf (tickKeys sc) c = contactOf sc c := by cases c <;> rfl
  unfold tickScanner
  rw [contactOf_window, tickContacts_contactOf, keys]

theorem tick_works {s : State} (h : Works s) :
    tick s = { s with base := { s.base with monitor := tickMonitor s.base.monitor }, seat := tickSeat s.seat } := by
  unfold tick
  rcases works_power h with e | e <;> rw [e] <;> rfl

theorem step_empty {s : State} (h : s.pending = []) : step s = .next (tick s) := by
  unfold step
  rw [h]

theorem sessionRuns_iff (e : Engine) : sessionRuns e = true ↔ e.state = .running ∨ e.state = .paused := by
  simp only [sessionRuns, Bool.or_eq_true, decide_eq_true_eq]

/-- R92, R93: a burst that has time left runs in a vent, and in a fill while the compressor claim is granted. -/
theorem tickIf_burstRuns (s : Seat) :
    tickIf (burstRuns s) s.gallery.burstLeft =
      if s.gallery.state = .venting ∨ (s.gallery.state = .filling ∧ isGranted s.alloc .compressor = true) then
        tickDown s.gallery.burstLeft
      else s.gallery.burstLeft := by
  unfold tickIf burstRuns compressorOn
  cases s.gallery.burstLeft <;> simp [tickDown]

/-- R92: the wait runs in a fill while the compressor claim is pending. -/
theorem tickIf_waits (s : Seat) (t : Option Nat) :
    tickIf (s.gallery.state = .filling && !isGranted s.alloc .compressor) t =
      if s.gallery.state = .filling ∧ isGranted s.alloc .compressor = false then tickDown t else t := by
  simp only [tickIf, Bool.and_eq_true, decide_eq_true_eq, Bool.not_eq_true']

theorem tickEngine_eq (e : Engine) :
    tickEngine e =
      { e with
        holdLeft := tickDown e.holdLeft, restLeft := tickDown e.restLeft,
        sessionLeft := if e.state = .running ∨ e.state = .paused then e.sessionLeft - 1 else e.sessionLeft } := by
  simp only [tickEngine, sessionRuns_iff]

theorem tickSeat_zone (s : Seat) (z : Zone) : zoneOf (tickSeat s) z = tickZone (zoneOf s z) := by cases z <;> rfl

/-- A millisecond of the seat, with the tables of axes, zones and contacts as it leaves them. -/
theorem tickSeat_eq (s : Seat) :
    tickSeat s =
      { s with
        axes := (tickSeat s).axes
        zones := (tickSeat s).zones
        alloc := tickAlloc s.alloc
        scanner :=
          { s.scanner with
            axes := (tickSeat s).scanner.axes, lumbar := (tickSeat s).scanner.lumbar, keys := (tickSeat s).scanner.keys,
            rearm := tickRearm s.scanner.rearm, window := tickDown s.scanner.window }
        recallCtx := s.recallCtx.map tickRecall
        gallery :=
          { s.gallery with
            burstLeft :=
              if s.gallery.state = .venting ∨ (s.gallery.state = .filling ∧ isGranted s.alloc .compressor = true) then
                tickDown s.gallery.burstLeft
              else s.gallery.burstLeft
            waitLeft :=
              if s.gallery.state = .filling ∧ isGranted s.alloc .compressor = false then tickDown s.gallery.waitLeft
              else s.gallery.waitLeft
            settleLeft := tickDown s.gallery.settleLeft }
        engine :=
          { s.engine with
            holdLeft := tickDown s.engine.holdLeft, restLeft := tickDown s.engine.restLeft,
            sessionLeft :=
              if s.engine.state = .running ∨ s.engine.state = .paused then s.engine.sessionLeft - 1 else s.engine.sessionLeft }
        brace := { s.brace with holdLeft := tickDown s.brace.holdLeft } } := by
  rw [← tickIf_burstRuns, ← tickIf_waits, ← tickEngine_eq]
  conv_lhs => unfold tickSeat
  rw [tickScanner_rest]
  rfl

/-- Settles O3: the step is the tick, table by table. -/
theorem idleStepMovesTimersOnly : Obligations.IdleStepMovesTimersOnly := by
  unfold Obligations.IdleStepMovesTimersOnly
  intro s empty
  rw [step_empty empty]
  refine ⟨fun works => ⟨tickSeat s.seat, congrArg _ (tick_works works), fun a => ?_, fun c => ?_, fun z => ?_, tickSeat_eq s.seat⟩,
    fun parked => ?_, fun idle => ?_⟩
  · exact PerAxis.get_map tickAxis s.seat.axes a
  · exact tickScanner_contactOf s.seat.scanner c
  · exact tickSeat_zone s.seat z
  · unfold tick
    rw [parked]
    rfl
  · unfold tick
    rcases idle with e | e <;> rw [e]

end Sys2Proof.Machine
end

section
/-! SUPPORT. The frames of the comfort link: the status header (12.1.1), the frames that are begun, cut short and not taken (R168, R169), the
reads (R172), the notices (R173, R174) and the restricted mode (R170). -/
namespace Sys2Proof.Machine

/-! ### Status header (12.1.1) -/

theorem modeCode_le (m : BraceMode) : modeCode m ≤ 4 := by cases m <;> decide

theorem monitorCode_le (m : MonitorState) : monitorCode m ≤ 2 := by cases m <;> decide

theorem resultCode_le (r : Result) : resultCode r ≤ 9 := by cases r <;> decide

theorem toNat_le_one (x : Bool) : x.toNat ≤ 1 := by cases x <;> decide

theorem pairWord_toNat {high low : Nat} (h : high ≤ 255) (l : low ≤ 255) : (pairWord high low).toNat = high * 256 + low := by
  simp only [pairWord, toWord, BitVec.toNat_ofNat]
  omega

theorem statusHeader_toNat (b : Base) (s : Seat) :
    (statusHeader b s).toNat =
      (modeCode s.brace.mode * 32 + monitorCode b.monitor.state * 8 + (decide (b.power = .parking)).toNat * 4
          + (restricted s).toNat * 2 + (attention s).toNat) * 256
        + (s.notices.lost.toNat * 128 + resultCode b.link.lastResult) := by
  have mode := modeCode_le s.brace.mode
  have monitor := monitorCode_le b.monitor.state
  have result := resultCode_le b.link.lastResult
  have lost := toNat_le_one s.notices.lost
  have att := toNat_le_one (attention s)
  have parking : (if b.power = .parking then 4 else 0) = (decide (b.power = .parking)).toNat * 4 := by
    by_cases h : b.power = .parking <;> simp [h]
  have held : (if restricted s = true then 2 else 0) = (restricted s).toNat * 2 := by
    cases restricted s <;> rfl
  have p := toNat_le_one (decide (b.power = .parking))
  have r := toNat_le_one (restricted s)
  rw [statusHeader, pairWord_toNat] <;> omega

/-- Settles O10: every field has its place in the sum, and none overflows into the next. -/
theorem statusHeaderFields : Obligations.StatusHeaderFields := by
  unfold Obligations.StatusHeaderFields
  intro b s
  dsimp only
  have mode := modeCode_le s.brace.mode
  have monitor := monitorCode_le b.monitor.state
  have result := resultCode_le b.link.lastResult
  have lost := toNat_le_one s.notices.lost
  have att := toNat_le_one (attention s)
  have p := toNat_le_one (decide (b.power = .parking))
  have r := toNat_le_one (restricted s)
  have parking : (b.power = .parking) ↔ (decide (b.power = .parking)).toNat = 1 := by
    rw [Bool.toNat_eq_one, decide_eq_true_iff]
  have held : s.brace.mode ≠ .idle ↔ (restricted s).toNat = 1 := by
    rw [Bool.toNat_eq_one, restricted, decide_eq_true_iff]
  have waiting : s.notices.queue ≠ [] ↔ (attention s).toNat = 1 := by
    rw [Bool.toNat_eq_one, attention]
    cases s.notices.queue <;> simp
  rw [statusHeader_toNat]
  refine ⟨by omega, by omega, Iff.trans (by omega) parking.symm, Iff.trans (by omega) held.symm, Iff.trans (by omega) waiting.symm,
    Iff.trans (by omega) Bool.toNat_eq_one, by omega⟩

/-! ### Frames that are begun, cut short and not taken (R168, R169, R181) -/

theorem exec_comfort {i : Instr} {k : CommandClass} (h : commandClass i = some k) : ∃ act, ∀ s, exec i s = comfort k act s := by
  cases i <;> cases h <;> exact ⟨_, fun _ => rfl⟩

/-- What comes with a period of chip-select is a frame: in PARKED it wakes the part, whatever it carries. -/
theorem exec_frame {i : Instr} (h : isFrame i = true) : ∃ f, ∀ s, exec i s = frame s f := by
  cases hc : commandClass i with
  | some k =>
    obtain ⟨act, e⟩ := exec_comfort hc
    exact ⟨_, fun s => e s⟩
  | none =>
    cases i
    case readStatus | readAxis | readAllocation | readGallery | readBladder | readMassage | readClimate | readBrace | readProfile
      | readRecall | readConfig | readNotice | loadPatternEnd | reset | comfortFrameLength | unknownCommand | chipSelectWake
      | replyCapture => exact ⟨_, fun _ => rfl⟩
    all_goals exact Bool.noConfusion (h.symm.trans (congrArg Option.isSome hc))

theorem levelZeroClaim_nothing {b : Base} {s : Seat} {z : Zone} (free : b.cfg.fanClaim.l0 = 0)
    (none : holdsClaim s.alloc (.fan z) = false) : levelZeroClaim b s z = (s, []) := by
  unfold levelZeroClaim releaseClaim
  rw [if_pos free, none]
  split <;> rfl

theorem putContact_self (sc : Scanner) (c : Contact) : putContact sc c (contactOf sc c) = sc := by
  cases c with
  | axis a d => cases a <;> cases d <;> rfl
  | lumbar l => cases l <;> rfl
  | key k => cases k <;> rfl

/-- R62: what the wake makes of a contact known to be closed. -/
def remeasured (n : Nat) (x : ContactState) : ContactState :=
  if x.closed = true ∧ x.cond ≠ some .stuck then { x with debounce := some n } else x

theorem measureFromWake_eq (b : Base) (s : Seat) (c : Contact) :
    measureFromWake b s c =
      { s with scanner := putContact s.scanner c (remeasured b.cfg.debounce (contactOf s.scanner c)) } := by
  unfold measureFromWake remeasured
  dsimp only
  split
  · rfl
  · rw [putContact_self]

theorem foldl_measureFromWake (b : Base) (l : List Contact) (s : Seat) :
    l.foldl (measureFromWake b) s =
      { s with scanner := l.foldl (fun t c => putContact t c (remeasured b.cfg.debounce (contactOf t c))) s.scanner } := by
  induction l generalizing s with
  | nil => rfl
  | cons c l ih => rw [List.foldl_cons, measureFromWake_eq, ih, List.foldl_cons]

theorem contactOrder_nodup : contactOrder.Nodup := by decide

/-- With no claim of a level-0 fan to raise or release, the blocks take up RUN as they stood, but for the contacts. -/
theorem wake_seat {s : State} (free : s.base.cfg.fanClaim.l0 = 0) (none : ∀ z, holdsClaim s.seat.alloc (.fan z) = false) :
    (wake s).seat = measureContacts (wakeBase s.base) (wakeSeat s.base.cfg s.seat) := by
  have quiet : forEach zoneOrder (fun z t => levelZeroClaim (wakeBase s.base) t z) (wakeSeat s.base.cfg s.seat) =
      (wakeSeat s.base.cfg s.seat, []) :=
    forEach_nothing _ _ _ fun z _ => levelZeroClaim_nothing free (none z)
  unfold wake
  dsimp only
  rw [show (wakeBase s.base).cfg = s.base.cfg from rfl, quiet, actOn_nil]
  rfl

theorem measureContacts_wakeBase_contactOf (b : Base) (s : Seat) (c : Contact) :
    contactOf (measureContacts (wakeBase b) s).scanner c =
      if contactPresent b.fit c = true then remeasured b.cfg.debounce (contactOf s.scanner c) else contactOf s.scanner c := by
  have watched : c ∈ watchedContacts (wakeBase b) false ↔ contactPresent b.fit c = true := by
    unfold watchedContacts contactWatched
    rw [List.mem_filter, Bool.and_eq_true_iff]
    exact ⟨fun h => h.2.1, fun h => ⟨mem_contactOrder c, h, rfl⟩⟩
  unfold measureContacts
  rw [foldl_measureFromWake]
  dsimp only
  rw [contactOf_foldl_put _ (watchedContacts (wakeBase b) false) (contactOrder_nodup.filter _)]
  simp only [watched]
  rfl

theorem measureContacts_rest (b : Base) (s : Seat) :
    let t := measureContacts b s
    t = { s with scanner := t.scanner } ∧
      t.scanner = { s.scanner with axes := t.scanner.axes, lumbar := t.scanner.lumbar, keys := t.scanner.keys } := by
  unfold measureContacts
  rw [foldl_measureFromWake]
  obtain ⟨a, u, k, e⟩ := foldl_putContact_rest (remeasured b.cfg.debounce) (watchedContacts b false) s.scanner
  rw [e]
  exact ⟨rfl, rfl⟩

theorem frame_parked {s : State} (h : s.base.power = .parked) (f : State → State) : frame s f = .next (chipWake s) := by
  unfold frame
  rw [h]

theorem frame_silent {s : State} (h : s.base.power = .draining ∨ s.base.power = .off) (f : State → State) : frame s f = .next s := by
  unfold frame
  rcases h with e | e <;> rw [e]

theorem exec_comfortFrameLength_works {s : State} (h : Works s) : exec .comfortFrameLength s = .next (refused s .length) :=
  frame_works h fun t => closeFrame (openFrame t) .length []

theorem exec_unknownCommand_works {s : State} (code : Nat) (h : Works s) :
    exec (.unknownCommand code) s = .next (refused s .unknown) :=
  frame_works h fun t => closeFrame (openFrame t) .unknown []

/-- Settles O11: a frame acts in RUN, wakes in PARKED and is ignored without supply, whatever it carries. -/
theorem framesAreBegunCutAndNotTaken : Obligations.FramesAreBegunCutAndNotTaken := by
  unfold Obligations.FramesAreBegunCutAndNotTaken
  refine ⟨fun s code h => ?_, fun s => ⟨fun h => frame_works h _, fun i h hi => ?_, fun i h hi => ?_⟩⟩
  · refine ⟨(exec_comfortFrameLength_works h).trans ?_, (exec_unknownCommand_works code h).trans ?_,
      fun r => refused_explicit s r⟩
    · exact congrArg Host.Outcome.next (refused_explicit s .length)
    · exact congrArg Host.Outcome.next (refused_explicit s .unknown)
  · obtain ⟨f, e⟩ := exec_frame hi
    refine ⟨chipWake s, (e s).trans (frame_parked h f), rfl, rfl, rfl, rfl, rfl, rfl, fun a => ?_, rfl, rfl, rfl, rfl,
      fun free none => ?_⟩
    · exact (congrArg Hall.accepted (PerAxis.get_map hallUnknown s.base.hall a))
    · have seat : (chipWake s).seat = measureContacts (wakeBase s.base) (wakeSeat s.base.cfg s.seat) := wake_seat free none
      obtain ⟨rest, scanner⟩ := measureContacts_rest (wakeBase s.base) (wakeSeat s.base.cfg s.seat)
      rw [seat]
      refine ⟨rest, scanner, fun c => ?_⟩
      rw [measureContacts_wakeBase_contactOf]
      unfold remeasured
      dsimp only
      by_cases present : contactPresent s.base.fit c = true
      · rw [if_pos present]
        simp only [present, true_and]
        rfl
      · rw [if_neg present, if_neg fun c => present c.1]
        rfl
  · obtain ⟨f, e⟩ := exec_frame hi
    exact (e s).trans (frame_silent h f)

/-! ### Reads (R168, R172) -/

theorem exec_read {f : ReadFrame} (notice : f ≠ .notice) (loads : ∀ p, f ≠ .patternEnd p) (s : State) :
    exec (readCommand f) s = readFrame f s := by
  cases f
  case notice => exact absurd rfl notice
  case patternEnd n => exact absurd rfl (loads n)
  all_goals rfl

theorem captureReply_link {f : ReadFrame} (notice : f ≠ .notice) (s : State) :
    captureReply f s = withLink s { s.base.link with captured := some (f, replyBytes f s.base s.seat) } := if_neg notice

theorem openFrame_begun {s : State} (h : s.base.link.begun = true) : openFrame s = s := if_pos h

theorem openFrame_captured {s : State} (h : s.base.link.begun = false) : (openFrame s).base.link.captured = none := by
  unfold openFrame
  rw [h]
  rfl

theorem ensureCaptured_fresh {s : State} (f : ReadFrame) (h : s.base.link.begun = false) :
    ensureCaptured f (openFrame s) = captureReply f (openFrame s) := by
  unfold ensureCaptured
  rw [openFrame_captured h]

theorem ensureCaptured_held {s : State} {f : ReadFrame} {l : List Byte} (h : s.base.link.captured = some (f, l)) :
    ensureCaptured f s = s := by
  unfold ensureCaptured
  rw [h]
  exact if_pos rfl

theorem capturedBytes_held {s : State} {f : ReadFrame} {l : List Byte} (h : s.base.link.captured = some (f, l)) :
    capturedBytes s = l := by
  unfold capturedBytes
  rw [h]
  rfl

theorem replyBytes_openFrame (f : ReadFrame) (s : State) :
    replyBytes f (openFrame s).base (openFrame s).seat = replyBytes f s.base s.seat := by
  unfold replyBytes
  rw [replyOf_openFrame]

/-- Settles O12: the reply is that of the state before the frame, and the frame leaves only the link's fields behind. -/
theorem readsAnswer : Obligations.ReadsAnswer := by
  unfold Obligations.ReadsAnswer
  refine fun s f h notice loads => ⟨fun begun => ?_, fun l begun held => ?_⟩
  · have result : readResult f (captureReply f (openFrame s)) =
        if (replyOf f s.base s.seat).isSome then .accepted else .range := by
      rw [captureReply_link notice, readResult, withLink_seat]
      exact congrArg (fun o : Option (List Byte) => if o.isSome then Result.accepted else .range)
        ((replyOf_link f (openFrame s) _ rfl).trans (replyOf_openFrame f s))
    rw [exec_read notice loads, readFrame, frame_works h]
    dsimp only
    rw [ensureCaptured_fresh f begun, result, captureReply_link notice, capturedBytes_held rfl, replyBytes_openFrame]
    rfl
  · rw [exec_read notice loads, readFrame, frame_works h]
    dsimp only
    rw [openFrame_begun begun, ensureCaptured_held held, capturedBytes_held held]
    rfl

theorem exec_replyCapture_works {s : State} (f : ReadFrame) (h : Works s) :
    exec (.replyCapture f) s = .next (captureReply f (openFrame s)) := frame_works h fun t => captureReply f (openFrame t)

/-- Settles O15: the capture is taken from the state before the frame began, which the frame's beginning does not change. -/
theorem replyCaptureHoldsTheReply : Obligations.ReplyCaptureHoldsTheReply := by
  unfold Obligations.ReplyCaptureHoldsTheReply
  intro s f h
  dsimp only
  refine (exec_replyCapture_works f h).trans (congrArg Host.Outcome.next ?_)
  unfold captureReply
  rw [replyBytes_openFrame]
  dsimp only
  by_cases notice : f = .notice
  · rw [if_pos notice, if_pos notice, withLink_seat, openFrame_seat]
    rfl
  · rw [if_neg notice, if_neg notice]
    unfold withLink withBase
    rw [openFrame_seat]

/-! ### Replies (12.1.2, R184) -/

theorem padTo_length (n : Nat) (l : List Byte) : (padTo n l).length = n := by
  unfold padTo
  rw [List.length_take, List.length_append, List.length_replicate]
  omega

theorem take_padTo {k n : Nat} {p rest : List Byte} (hp : p.length = k) (h : k ≤ n) : (padTo n (p ++ rest)).take k = p := by
  unfold padTo
  rw [List.take_take, Nat.min_eq_left h, List.append_assoc, ← hp, List.take_left]

theorem noticeReply_length (s : Seat) : (noticeReply s).length = 6 := by
  unfold noticeReply
  split <;> rfl

theorem patternEndReply_length (b : Base) (n : Nat) : (patternEndReply b n).length = 2 := by
  unfold patternEndReply
  split <;> rfl

theorem map_length {α : Type} {x : Option α} {g : α → List Byte} {n : Nat} {l : List Byte} (hg : ∀ y, (g y).length = n)
    (h : x.map g = some l) : l.length = n := by
  obtain ⟨y, _, rfl⟩ := Option.map_eq_some_iff.mp h
  exact hg y

theorem some_length {x l : List Byte} {n : Nat} (hx : x.length = n) (h : some x = some l) : l.length = n :=
  Option.some.inj h ▸ hx

theorem replyOf_length {f : ReadFrame} {b : Base} {s : Seat} {l : List Byte} (h : replyOf f b s = some l) :
    l.length = replyLength f := by
  cases f with
  | axis n => exact map_length (fun a => padTo_length 40 _) h
  | bladder n => exact map_length (fun a => padTo_length 12 _) h
  | profile n => exact map_length (fun a => padTo_length 48 _) h
  | config i x => exact map_length (g := configReply) (fun _ => rfl) h
  | notice => exact some_length (noticeReply_length s) h
  | patternEnd n => exact some_length (patternEndReply_length b n) h
  | status | gallery | massage => exact some_length (padTo_length 96 _) h
  | allocation | climate => exact some_length (padTo_length 64 _) h
  | brace => exact some_length (padTo_length 32 _) h
  | _ => exact some_length (padTo_length 80 _) h

theorem replyBytes_length (f : ReadFrame) (b : Base) (s : Seat) : (replyBytes f b s).length = replyLength f := by
  unfold replyBytes
  cases h : replyOf f b s with
  | none => exact List.length_replicate
  | some l => exact replyOf_length h

/-- Settles O13: the fields in front of a reply stand before its padding; an absent selector selects nothing. -/
theorem repliesHaveTheirFields : Obligations.RepliesHaveTheirFields := by
  unfold Obligations.RepliesHaveTheirFields
  refine ⟨fun f b s => ⟨replyBytes_length f b s, fun n h => ?_, fun h => ?_, fun n h => ?_, fun n h => ?_⟩, fun b s a x k => ?_⟩
  · rw [replyOf, presentAxis, axisOfCode, List.getElem?_eq_none h]
    rfl
  · simp only [replyOf, h]
    exact ⟨rfl, rfl⟩
  · rw [replyOf, bladderOfCode, List.getElem?_eq_none h]
    rfl
  · rw [replyOf, slotOfCode, List.getElem?_eq_none h]
    rfl
  · refine ⟨?_, ?_, ?_, ?_, ?_, ?_, ?_, ?_, ?_, ?_, fun h => ?_, fun h => ?_, fun h => ?_⟩
    · unfold statusReply
      simp only [List.append_assoc]
      exact take_padTo (p := [_, _, _, _, _]) rfl (by decide)
    · unfold axisReply
      simp only [List.append_assoc]
      exact take_padTo (p := [_, _]) rfl (by decide)
    · unfold allocationReply
      simp only [List.append_assoc]
      exact take_padTo (p := [_, _, _, _, _, _]) rfl (by decide)
    · unfold galleryReply
      simp only [List.append_assoc]
      exact take_padTo (p := [_, _, _]) rfl (by decide)
    · unfold bladderReply
      simp only [List.append_assoc]
      cases (bladderOf s.gallery x).measured <;> exact take_padTo (p := [_, _, _]) rfl (by decide)
    · unfold massageReply
      simp only [List.append_assoc]
      exact take_padTo (p := [_]) rfl (by decide)
    · unfold climateReply zoneBytes
      simp only [List.append_assoc]
      exact take_padTo (p := [_, _]) rfl (by decide)
    · unfold braceReply
      simp only [List.append_assoc]
      exact take_padTo (p := [_, _]) rfl (by decide)
    · have valid : (shownProfile b.fit (s.profiles.get k)).valid = (s.profiles.get k).valid := by
        unfold shownProfile
        cases h : (s.profiles.get k).valid
        · rfl
        · rw [if_pos rfl]
      unfold profileReply profileOf
      simp only [List.append_assoc, valid]
      cases (s.profiles.get k).valid <;> exact take_padTo (p := [_]) rfl (by decide)
    · unfold recallReply contextBytes
      cases s.recallCtx <;> simp only [List.append_assoc] <;> exact take_padTo (p := [_]) rfl (by decide)
    · unfold recallReply contextBytes
      rw [h]
      simp only [List.append_assoc]
      exact take_padTo (p := [_, _, _, _, _, _, _]) rfl (by decide)
    · unfold galleryReply flightBytes
      rw [h]
      simp only [List.append_assoc]
      rfl
    · unfold braceReply perAxisBytes
      rw [h]
      simp only [List.append_assoc]
      rfl

/-! ### Notices (R173, R174) -/

theorem map_coalesce_others {l : List Notice} {k : NoticeKind} {sub : Subject} {d : Word16}
    (h : ∀ y ∈ l, ¬ (y.kind = k ∧ y.subject = sub)) : l.map (coalesce k sub d) = l := by
  refine (List.map_congr_left fun y hy => ?_).trans (List.map_id l)
  exact if_neg fun same => h y hy ((sameNotice_iff y).mp same)

theorem none_same {l : List Notice} {k : NoticeKind} {sub : Subject} (h : ∀ y ∈ l, ¬ (y.kind = k ∧ y.subject = sub)) :
    l.any (sameNotice k sub) = false :=
  List.any_eq_false.mpr fun y hy same => h y hy ((sameNotice_iff y).mp same)

/-- What leaves the queue with the entry captured at its head: that entry, or the part of its count that was read. -/
theorem removeCaptured_head {q : Notices} {n : Notice} {rest : List Notice} {k : Nat} {again : Bool} (lawful : NoticesLawful q)
    (queue : q.queue = n :: rest)
    (captured : q.captured = some { kind := n.kind, subject := n.subject, count := k, coalesced := again }) :
    removeCaptured q =
      { queue := if again then { n with count := max 1 (n.count - k) } :: rest else rest,
        lost := if again = false ∧ rest = [] then false else q.lost, captured := none } := by
  have distinct := lawful.distinct
  rw [queue, List.pairwise_cons] at distinct
  obtain ⟨others, _⟩ := distinct
  have kept : rest.filterMap (dropCaptured { kind := n.kind, subject := n.subject, count := k, coalesced := again }) = rest := by
    refine (List.filterMap_congr (g := some) fun y hy => ?_).trans List.filterMap_some
    refine if_neg fun same => ?_
    obtain ⟨hk, hs⟩ := (sameNotice_iff y).mp same
    exact others y hy ⟨hk.symm, hs.symm⟩
  have head : dropCaptured { kind := n.kind, subject := n.subject, count := k, coalesced := again } n =
      if again then some { n with count := max 1 (n.count - k) } else none := if_pos ((sameNotice_iff n).mpr ⟨rfl, rfl⟩)
  unfold removeCaptured
  rw [captured]
  dsimp only
  rw [queue, List.filterMap_cons, head, kept]
  cases again
  · cases rest <;> rfl
  · rfl

theorem exec_readNotice_works {s : State} (h : Works s) :
    exec .readNotice s =
      .next (closeFrame
        (withSeat (ensureCaptured .notice (openFrame s))
          { (ensureCaptured .notice (openFrame s)).seat with
            notices := removeCaptured (ensureCaptured .notice (openFrame s)).seat.notices })
        .accepted (capturedBytes (ensureCaptured .notice (openFrame s)))) :=
  frame_works h fun t =>
    let t1 := ensureCaptured .notice (openFrame t)
    let t2 := withSeat t1 { t1.seat with notices := removeCaptured t1.seat.notices }
    closeFrame t2 .accepted (capturedBytes t1)

theorem exec_readNotice_fresh {s : State} (h : Works s) (begun : s.base.link.begun = false) :
    exec .readNotice s =
      .next (closeFrame
        (withSeat (openFrame s) { s.seat with notices := removeCaptured (captureNotice s.seat.notices) })
        .accepted (noticeReply s.seat)) := by
  have seat : (captureReply .notice (openFrame s)).seat = { s.seat with notices := captureNotice s.seat.notices } := by
    unfold captureReply
    rw [if_pos rfl, withSeat_seat, withLink_seat, openFrame_seat]
  have bytes : capturedBytes (captureReply .notice (openFrame s)) = noticeReply s.seat :=
    (capturedBytes_held rfl).trans (replyBytes_openFrame .notice s)
  rw [exec_readNotice_works h, ensureCaptured_fresh .notice begun, bytes, seat]
  rfl

/-- Settles O16: in a lawful queue one entry at most has the kind and the subject of a notice, or of a capture. -/
theorem noticesCoalesceAndAreRead : Obligations.NoticesCoalesceAndAreRead := by
  unfold Obligations.NoticesCoalesceAndAreRead
  refine ⟨fun q k sub d => ⟨fun before x after e kind subject others => ?_, fun others room => ?_, fun others full => ?_⟩,
    fun s h lawful => ⟨fun begun n rest queue => ?_, fun begun queue => ?_, fun n rest bytes k again queue begun held captured => ?_⟩⟩
  · have found : q.queue.any (sameNotice k sub) = true := by
      rw [e, List.any_append, List.any_cons, (sameNotice_iff x).mpr ⟨kind, subject⟩, Bool.true_or, Bool.or_true]
    have reached : coalesce k sub d x = { x with detail := d, count := min 255 (x.count + 1) } :=
      if_pos ((sameNotice_iff x).mpr ⟨kind, subject⟩)
    rw [postTo_coalesces found]
    refine ⟨?_, rfl⟩
    dsimp only
    rw [e, List.map_append, List.map_cons, reached, map_coalesce_others fun y hy => others y (List.mem_append_left _ hy),
      map_coalesce_others fun y hy => others y (List.mem_append_right _ hy)]
  · exact postTo_enters (none_same others) room
  · exact postTo_drops (none_same others) full
  · have lawfulCaptured : NoticesLawful (captureNotice s.seat.notices) := ⟨lawful.room, lawful.distinct, lawful.counted, lawful.lost⟩
    have captured : (captureNotice s.seat.notices).captured =
        some { kind := n.kind, subject := n.subject, count := n.count, coalesced := false } := by
      unfold captureNotice
      rw [queue]
      rfl
    rw [exec_readNotice_fresh h begun, removeCaptured_head lawfulCaptured queue captured, noticeReply, queue]
    simp only [true_and]
    rfl
  · have empty : removeCaptured (captureNotice s.seat.notices) = { s.seat.notices with captured := none } := by
      have captured : (captureNotice s.seat.notices).captured = none := by
        unfold captureNotice
        rw [queue]
        rfl
      unfold removeCaptured
      rw [captured]
      exact congrArg (fun x => { s.seat.notices with captured := x }) captured
    rw [exec_readNotice_fresh h begun, empty, noticeReply, queue]
    refine congrArg Host.Outcome.next ?_
    unfold closeFrame
    rw [openFrame_seat]
    rfl
  · rw [exec_readNotice_works h, openFrame_begun begun, ensureCaptured_held held, removeCaptured_head lawful queue captured,
      capturedBytes_held held]

/-! ### Restricted mode (R170) -/

theorem commandClass_ne_read {i : Instr} {k : CommandClass} (h : commandClass i = some k) : k ≠ .read := by
  intro e
  subst e
  cases i <;> cases h

/-- R170, row by row: what passes in a brace state that refuses anything. -/
theorem passes_false {m : BraceMode} {k : CommandClass} (taken : k ≠ .read)
    (h : m = .bracing ∨ m = .braced ∨ (m = .locked ∧ k ≠ .clearFault ∧ k ≠ .lockTaken) ∨
      (m = .releasing ∧ (k = .motion ∨ k = .clearFault))) : passes m k = false := by
  rcases h with rfl | rfl | ⟨rfl, notFault, notLock⟩ | ⟨rfl, rfl | rfl⟩
  · cases k <;> first | rfl | exact absurd rfl taken
  · cases k <;> first | rfl | exact absurd rfl taken
  · cases k <;> first | rfl | contradiction
  · rfl
  · rfl

theorem exec_restricted {s : State} {i : Instr} {k : CommandClass} (h : Works s) (hc : commandClass i = some k)
    (hp : passes s.seat.brace.mode k = false) : exec i s = .next (refused s .restricted) := by
  obtain ⟨act, e⟩ := exec_comfort hc
  exact (e s).trans (comfort_restricted h hp)

theorem exec_reset_works {s : State} (h : Works s) :
    exec .reset s = .next (if passes s.seat.brace.mode .plain then beginDrain (closeFrame (openFrame s) .accepted []) else refused s .restricted) :=
  frame_works h fun t =>
    if passes t.seat.brace.mode .plain then beginDrain (closeFrame (openFrame t) .accepted []) else closeFrame (openFrame t) .restricted []

/-- Settles O17: every command but LOAD PATTERN END and RESET goes through the one guard; those two ask for a plain command's way. -/
theorem restrictedModeRefuses : Obligations.RestrictedModeRefuses := by
  unfold Obligations.RestrictedModeRefuses
  refine fun s i h => ⟨fun k hc => ⟨fun mode => ?_, fun mode notFault notLock => ?_, fun mode motion => ?_⟩, fun mode => ⟨?_, fun p begun => ?_⟩⟩
  · exact exec_restricted h hc (passes_false (commandClass_ne_read hc) (mode.imp_right .inl))
  · exact exec_restricted h hc (passes_false (commandClass_ne_read hc) (.inr (.inr (.inl ⟨mode, notFault, notLock⟩))))
  · exact exec_restricted h hc (passes_false (commandClass_ne_read hc) (.inr (.inr (.inr ⟨mode, motion⟩))))
  · have refuses : passes s.seat.brace.mode .plain = false := by
      rcases mode with e | e | e <;> rw [e] <;> rfl
    rw [exec_reset_works h, refuses]
    rfl
  · have refuses : passes s.seat.brace.mode .plain = false := by
      rcases mode with e | e | e <;> rw [e] <;> rfl
    have bytes : capturedBytes (ensureCaptured (.patternEnd p) (openFrame s)) = patternEndReply s.base p :=
      capturedBytes_of_fresh begun rfl
    have closed : guarded .plain (loadEnd p) (ensureCaptured (.patternEnd p) (openFrame s)) =
        (.restricted, withLink (openFrame s) (captureReply (.patternEnd p) (openFrame s)).base.link) := by
      rw [ensureCaptured_fresh _ begun, captureReply_link ReadFrame.noConfusion, guarded, withLink_seat, openFrame_seat, refuses]
      rfl
    refine (exec_loadPatternEnd_works h).trans ?_
    rw [bytes, closed, captureReply_link ReadFrame.noConfusion]
    rfl

end Sys2Proof.Machine
end

section
/-! SUPPORT. The configuration items (12.1.2, R172): what READ CONFIG returns of what WRITE CONFIG wrote, which values an item takes, and that a
write changes its own item alone. -/
namespace Sys2Proof.Machine

theorem ite_some_ne_none {α : Type} {p : Prop} [Decidable p] {a : α} : (if p then some a else none) ≠ none ↔ p := by
  by_cases h : p <;> simp [h]

/-! ### Axis items (table of 1.2) -/

/-- The values that an axis item takes. -/
def AxisTakes (item v w : Nat) : Prop :=
  match item with
  | 0x01 => 10 ≤ v ∧ v ≤ 200
  | 0x02 => v = 0 ∨ v = 1
  | 0x03 => 0 ≤ v ∧ v ≤ 250 ∧ v % 10 = 0
  | 0x04 => 40 ≤ v ∧ v ≤ 500 ∧ v % 10 = 0
  | 0x05 => 0 ≤ v ∧ v ≤ 250 ∧ v % 10 = 0
  | 0x06 => v ≤ 255
  | 0x07 => v ≤ 127
  | 0x08 => v ≤ 2000
  | 0x09 => 200 ≤ v ∧ v ≤ 8000
  | 0x0A => v ≤ 15
  | 0x0B => v ≤ 63
  | 0x0C => v ≤ 255
  | 0x0D => v = 16 ∨ v = 32 ∨ v = 64 ∨ v = 128
  | 0x0E => 50 ≤ v ∧ v ≤ 1000
  | 0x0F => v = 0 ∨ v = 1 ∨ v = 2
  | 0x10 => v ≤ w ∧ w ≤ 16383
  | 0x11 => v = 0 ∨ v = 1
  | _ => False

theorem clearingOfCode_isSome (v : Nat) : clearingOfCode v ≠ none ↔ v = 0 ∨ v = 1 ∨ v = 2 := by
  unfold clearingOfCode
  split <;> simp_all

theorem clearingCode_of {v : Nat} {k : Clearing} (h : clearingOfCode v = some k) : clearingCode k = v := by
  unfold clearingOfCode at h
  split at h <;> cases h <;> rfl

theorem writeAxisItem_takes (item v w : Nat) (x : AxisSettings) : writeAxisItem item v w x ≠ none ↔ AxisTakes item v w := by
  unfold writeAxisItem
  split
  case h_2 => 
    by_cases h0 : v = 0
    · simp [AxisTakes, h0]
    · by_cases h1 : v = 1 <;> simp [AxisTakes, h0, h1]
  case h_15 => simpa [AxisTakes] using clearingOfCode_isSome v
  case h_17 => simp [AxisTakes]; omega
  case h_18 =>
    unfold AxisTakes
    split <;> simp_all
  all_goals exact ite_some_ne_none.trans (by simp [AxisTakes, within, onStep, maxPosition, and_assoc])

theorem readAxisItem_written {item v w : Nat} {x y : AxisSettings} (h : writeAxisItem item v w x = some y) :
    readAxisItem item y = some (toWord v, if item = 0x10 then toWord w else 0) := by
  unfold writeAxisItem at h
  split at h
  case h_2 => 
    split at h
    case isTrue e => cases h; rw [e]; rfl
    case isFalse =>
    · obtain ⟨e, hy⟩ := Option.ite_none_right_eq_some.mp h
      cases hy
      rw [e]
      rfl
  case h_15 =>
    obtain ⟨k, e, rfl⟩ := Option.map_eq_some_iff.mp h
    rw [← clearingCode_of e]
    rfl
  case h_17 =>
    obtain ⟨e, hy⟩ := Option.ite_none_right_eq_some.mp h
    cases hy
    obtain rfl | rfl : v = 0 ∨ v = 1 := by omega
    · rfl
    · rfl
  case h_18 => cases h
  all_goals
    obtain ⟨_, hy⟩ := Option.ite_none_right_eq_some.mp h
    cases hy
    rfl

theorem readAxisItem_other {item v w other : Nat} {x y : AxisSettings} (h : writeAxisItem item v w x = some y) (ne : other ≠ item) :
    readAxisItem other y = readAxisItem other x := by
  unfold writeAxisItem at h
  split at h
  case h_2 => 
    split at h
    case isTrue e => 
      cases h
      unfold readAxisItem
      split <;> first | rfl | exact absurd rfl ne
    case isFalse =>
      obtain ⟨_, hy⟩ := Option.ite_none_right_eq_some.mp h
      cases hy
      unfold readAxisItem
      split <;> first | rfl | exact absurd rfl ne
  case h_15 =>
    obtain ⟨k, e, rfl⟩ := Option.map_eq_some_iff.mp h
    unfold readAxisItem
    split <;> first | rfl | exact absurd rfl ne
  case h_18 => cases h
  all_goals
    obtain ⟨_, hy⟩ := Option.ite_none_right_eq_some.mp h
    cases hy
    unfold readAxisItem
    split <;> first | rfl | exact absurd rfl ne

/-! ### Zone items (table of 7.1) -/

/-- The values that a zone item takes. -/
def ZoneTakes (item v : Nat) : Prop :=
  match item with
  | 0x50 => 1000 ≤ v ∧ v ≤ 10000
  | 0x51 | 0x52 | 0x53 => 20 ≤ v ∧ v ≤ 118
  | 0x54 | 0x55 => v ≤ 15
  | 0x56 => 100 ≤ v ∧ v ≤ 1000 ∧ v % 10 = 0
  | 0x57 => v ≤ 60
  | _ => False

theorem writeZoneItem_takes (item v : Nat) (x : ZoneSettings) : writeZoneItem item v x ≠ none ↔ ZoneTakes item v := by
  unfold writeZoneItem
  split
  case h_9 =>
    unfold ZoneTakes
    split <;> simp_all
  all_goals exact ite_some_ne_none.trans (by simp [ZoneTakes, within, onStep, and_assoc])

theorem readZoneItem_written {item v : Nat} {x y : ZoneSettings} (h : writeZoneItem item v x = some y) :
    readZoneItem item y = some (toWord v, 0) := by
  unfold writeZoneItem at h
  split at h
  case h_9 => cases h
  all_goals
    obtain ⟨_, hy⟩ := Option.ite_none_right_eq_some.mp h
    cases hy
    rfl

theorem readZoneItem_other {item v other : Nat} {x y : ZoneSettings} (h : writeZoneItem item v x = some y) (ne : other ≠ item) :
    readZoneItem other y = readZoneItem other x := by
  unfold writeZoneItem at h
  split at h
  case h_9 => cases h
  all_goals
    obtain ⟨_, hy⟩ := Option.ite_none_right_eq_some.mp h
    cases hy
    unfold readZoneItem
    split <;> first | rfl | exact absurd rfl ne

/-! ### Breakpoints (R124) -/

theorem PerLevel.get_set_same {α : Type} {t : PerLevel α} {n : Nat} {v : α} (h : n ≤ 3) : (t.set n v).get n = v := by
  obtain rfl | rfl | rfl | rfl : n = 0 ∨ n = 1 ∨ n = 2 ∨ n = 3 := by omega
  all_goals rfl

theorem PerLevel.get_set_ne {α : Type} {t : PerLevel α} {n k : Nat} {v : α} (h : n ≤ 3) (hk : k ≤ 3) (ne : k ≠ n) :
    (t.set n v).get k = t.get k := by
  obtain rfl | rfl | rfl | rfl : n = 0 ∨ n = 1 ∨ n = 2 ∨ n = 3 := by omega
  all_goals
    obtain rfl | rfl | rfl | rfl : k = 0 ∨ k = 1 ∨ k = 2 ∨ k = 3 := by omega
    all_goals first | rfl | exact absurd rfl ne

theorem signedWord_readSigned (w : Nat) : signedWord (readSigned w) = toWord w := BitVec.ofInt_toInt

theorem readSigned_eq {w : Nat} (h : w < 65536) : readSigned w = if w < 32768 then (w : Int) else (w : Int) - 65536 := by
  rw [readSigned, BitVec.toInt_eq_toNat_cond, BitVec.toNat_ofNat, Nat.mod_eq_of_lt h]
  split <;> split <;> omega

theorem writeBreakpoint_some {t u : List Breakpoint} {index v w : Nat} (h : writeBreakpoint t index v w = some u) :
    1 ≤ index ∧ index ≤ 9 ∧ u = t.set (index - 1) { code := v, temp := readSigned w } := by
  unfold writeBreakpoint at h
  obtain ⟨⟨range, _⟩, hu⟩ := Option.ite_none_right_eq_some.mp h
  rw [within, Bool.and_eq_true_iff, decide_eq_true_iff, decide_eq_true_iff] at range
  exact ⟨range.1, range.2, (Option.some.inj hu).symm⟩

theorem orderedPair_iff (p q : Breakpoint) : orderedPair p q = true ↔ q.code < p.code ∧ p.temp ≤ q.temp := by
  rw [orderedPair, Bool.and_eq_true_iff, decide_eq_true_iff, decide_eq_true_iff]

/-- In order with a neighbour, when there is one. -/
theorem fitsBefore_iff {t : List Breakpoint} {index : Nat} {x : Breakpoint} (h : 1 ≤ index) :
    fitsBefore t (index - 1) x = true ↔
      ∀ p, 2 ≤ index → t[index - 2]? = some p → x.code < p.code ∧ p.temp ≤ x.temp := by
  unfold fitsBefore
  by_cases first : index - 1 = 0
  · rw [if_pos first]
    exact ⟨fun _ p two => by omega, fun _ => rfl⟩
  · rw [if_neg first, show index - 1 - 1 = index - 2 by omega]
    cases t[index - 2]? with
    | none => exact ⟨fun _ p _ e => (nomatch e), fun _ => rfl⟩
    | some q =>
      dsimp only
      rw [orderedPair_iff]
      exact ⟨fun ok p _ e => Option.some.inj e ▸ ok, fun ok => ok q (by omega) rfl⟩

theorem fitsAfter_iff {t : List Breakpoint} {index : Nat} {x : Breakpoint} (h : 1 ≤ index) :
    fitsAfter t (index - 1) x = true ↔ ∀ p, t[index]? = some p → p.code < x.code ∧ x.temp ≤ p.temp := by
  unfold fitsAfter
  rw [Nat.sub_add_cancel h]
  cases t[index]? with
  | none => exact ⟨fun _ p e => (nomatch e), fun _ => rfl⟩
  | some q =>
    dsimp only
    rw [orderedPair_iff]
    exact ⟨fun ok p e => Option.some.inj e ▸ ok, fun ok => ok q rfl⟩

/-- The breakpoints that the table takes at a place. -/
def BreakpointTakes (t : List Breakpoint) (index v : Nat) (temp : Int) : Prop :=
  1 ≤ index ∧ index ≤ 9 ∧ 16 ≤ v ∧ v ≤ 4079 ∧ -80 ≤ temp ∧ temp ≤ 250 ∧
    (∀ p, 2 ≤ index → t[index - 2]? = some p → v < p.code ∧ p.temp ≤ temp) ∧
    ∀ p, t[index]? = some p → p.code < v ∧ temp ≤ p.temp

theorem writeBreakpoint_takes (t : List Breakpoint) (index v w : Nat) :
    writeBreakpoint t index v w ≠ none ↔ BreakpointTakes t index v (readSigned w) := by
  unfold writeBreakpoint BreakpointTakes
  refine ite_some_ne_none.trans ?_
  simp only [within, Bool.and_eq_true_iff, decide_eq_true_iff]
  constructor
  · rintro ⟨⟨one, nine⟩, ⟨low, high⟩, cold, hot, before, after⟩
    exact ⟨one, nine, low, high, cold, hot, (fitsBefore_iff one).mp before, (fitsAfter_iff one).mp after⟩
  · rintro ⟨one, nine, low, high, cold, hot, before, after⟩
    exact ⟨⟨one, nine⟩, ⟨low, high⟩, cold, hot, (fitsBefore_iff one).mpr before, (fitsAfter_iff one).mpr after⟩

/-! ### Items of the part -/

/-- The values that an item of the part takes. -/
def PartTakes (t : List Breakpoint) (item index v : Nat) (temp : Int) : Prop :=
  match item with
  | 0x20 | 0x22 => v ≤ 400
  | 0x21 => 1 ≤ v ∧ v ≤ 8
  | 0x23 | 0x24 => 0 ≤ v ∧ v ≤ 250 ∧ v % 10 = 0
  | 0x25 => index ≤ 3 ∧ v ≤ 40
  | 0x26 => 10 ≤ v ∧ v ≤ 100
  | 0x27 => v = 1 ∨ v = 2 ∨ v = 4 ∨ v = 8
  | 0x30 => 5 ≤ v ∧ v ≤ 40
  | 0x31 => 10 ≤ v ∧ v ≤ 60
  | 0x38 | 0x49 => 5 ≤ v ∧ v ≤ 30
  | 0x39 => v ≤ 4000
  | 0x40 => v ≤ 31
  | 0x41 => 100 ≤ v ∧ v ≤ 1000 ∧ v % 50 = 0
  | 0x42 => 50 ≤ v ∧ v ≤ 500 ∧ v % 10 = 0
  | 0x43 => 1 ≤ v ∧ v ≤ 30
  | 0x44 => 4 ≤ v ∧ v ≤ 16
  | 0x48 => 100 ≤ v ∧ v ≤ 900
  | 0x58 => index ≤ 3 ∧ v ≤ 255
  | 0x59 => BreakpointTakes t index v temp
  | 0x60 => 1 ≤ v ∧ v ≤ 10
  | 0x68 => v = 10 ∨ v = 20 ∨ v = 40 ∨ v = 80
  | _ => False

theorem writePlainItem_takes (item index v w : Nat) (c : Settings) :
    writePlainItem item index v w c ≠ none ↔ PartTakes c.ntc item index v (readSigned w) := by
  unfold writePlainItem
  split
  case h_21 => exact (not_congr Option.map_eq_none_iff).trans (writeBreakpoint_takes c.ntc index v w)
  case h_24 =>
    unfold PartTakes
    split <;> simp_all
  all_goals exact ite_some_ne_none.trans (by simp [PartTakes, within, onStep, and_assoc])

theorem readPlainItem_written {item index v w : Nat} {c d : Settings} (table : c.ntc.length = 9)
    (h : writePlainItem item index v w c = some d) :
    readPlainItem item index d = some (toWord v, if item = 0x59 then toWord w else 0) := by
  unfold writePlainItem at h
  split at h
  case h_6 | h_20 =>
    obtain ⟨⟨level, _⟩, hd⟩ := Option.ite_none_right_eq_some.mp h
    cases hd
    refine (if_pos level).trans ?_
    rw [PerLevel.get_set_same level]
    rfl
  case h_21 =>
    obtain ⟨u, e, rfl⟩ := Option.map_eq_some_iff.mp h
    obtain ⟨one, nine, rfl⟩ := writeBreakpoint_some e
    refine (if_neg (by omega)).trans ?_
    rw [List.getElem?_set_self (by omega), Option.map_some, signedWord_readSigned]
    rfl
  case h_24 => cases h
  all_goals
    obtain ⟨_, hd⟩ := Option.ite_none_right_eq_some.mp h
    cases hd
    rfl

/-- A write of an item of the part leaves what belongs to the axes and the zones, and the number of breakpoints. -/
theorem writePlainItem_keeps {item index v w : Nat} {c d : Settings} (h : writePlainItem item index v w c = some d) :
    d.axis = c.axis ∧ d.zone = c.zone ∧ d.ntc.length = c.ntc.length := by
  unfold writePlainItem at h
  split at h
  case h_21 =>
    obtain ⟨u, e, rfl⟩ := Option.map_eq_some_iff.mp h
    obtain ⟨_, _, rfl⟩ := writeBreakpoint_some e
    exact ⟨rfl, rfl, List.length_set⟩
  case h_24 => cases h
  all_goals
    obtain ⟨_, hd⟩ := Option.ite_none_right_eq_some.mp h
    cases hd
    exact ⟨rfl, rfl, rfl⟩

theorem readPlainItem_other {item index v w other k : Nat} {c d : Settings} (h : writePlainItem item index v w c = some d)
    (ne : other ≠ item) : readPlainItem other k d = readPlainItem other k c := by
  unfold writePlainItem at h
  split at h
  case h_21 =>
    obtain ⟨u, e, rfl⟩ := Option.map_eq_some_iff.mp h
    unfold readPlainItem
    split <;> first | rfl | exact absurd rfl ne
  case h_24 => cases h
  all_goals
    obtain ⟨_, hd⟩ := Option.ite_none_right_eq_some.mp h
    cases hd
    unfold readPlainItem
    split <;> first | rfl | exact absurd rfl ne

/-- The items of the part that have levels or places. -/
theorem readPlainItem_otherPlace {item index v w k : Nat} {c d : Settings} (h : writePlainItem item index v w c = some d)
    (indexed : item = 0x25 ∨ item = 0x58 ∨ item = 0x59) (ne : k ≠ index) :
    readPlainItem item k d = readPlainItem item k c := by
  rcases indexed with rfl | rfl | rfl
  · obtain ⟨⟨level, _⟩, hd⟩ := Option.ite_none_right_eq_some.mp h
    cases hd
    refine ite_congr rfl (fun hk => ?_) fun _ => rfl
    rw [PerLevel.get_set_ne level hk ne]
  · obtain ⟨⟨level, _⟩, hd⟩ := Option.ite_none_right_eq_some.mp h
    cases hd
    refine ite_congr rfl (fun hk => ?_) fun _ => rfl
    rw [PerLevel.get_set_ne level hk ne]
  · obtain ⟨u, e, rfl⟩ := Option.map_eq_some_iff.mp h
    obtain ⟨one, _, rfl⟩ := writeBreakpoint_some e
    refine ite_congr rfl (fun _ => rfl) fun hk => ?_
    rw [List.getElem?_set_ne (by omega)]

/-! ### Every item -/

theorem isAxisItem_iff (item : Nat) : isAxisItem item = true ↔ 0x01 ≤ item ∧ item ≤ 0x11 := by
  rw [isAxisItem, within, Bool.and_eq_true_iff, decide_eq_true_iff, decide_eq_true_iff]

theorem isZoneItem_iff (item : Nat) : isZoneItem item = true ↔ 0x50 ≤ item ∧ item ≤ 0x57 := by
  rw [isZoneItem, within, Bool.and_eq_true_iff, decide_eq_true_iff, decide_eq_true_iff]

theorem AxisTakes.isAxis {item v w : Nat} (h : AxisTakes item v w) : isAxisItem item = true := by
  unfold AxisTakes at h
  split at h <;> first | rfl | exact h.elim

theorem ZoneTakes.isZone {item v : Nat} (h : ZoneTakes item v) : isAxisItem item = false ∧ isZoneItem item = true := by
  unfold ZoneTakes at h
  split at h <;> first | exact ⟨rfl, rfl⟩ | exact h.elim

theorem PartTakes.isPart {t : List Breakpoint} {item index v : Nat} {temp : Int} (h : PartTakes t item index v temp) :
    isAxisItem item = false ∧ isZoneItem item = false := by
  unfold PartTakes at h
  split at h <;> first | exact ⟨rfl, rfl⟩ | exact h.elim

theorem presentAxis_iff {f : Fitment} {n : Nat} {a : Axis} : presentAxis f n = some a ↔ present f a = true ∧ n = axisCode a := by
  unfold presentAxis
  rw [Option.filter_eq_some_iff]
  exact ⟨fun ⟨code, there⟩ => ⟨there, axisCode_of code⟩, fun ⟨there, code⟩ => ⟨code ▸ axisOfCode_axisCode a, there⟩⟩

theorem zoneOfCode_iff {n : Nat} {z : Zone} : zoneOfCode n = some z ↔ (n = 0 ∧ z = .c) ∨ (n = 1 ∧ z = .b) := by
  unfold zoneOfCode
  split <;> cases z <;> simp_all

section
variable {f : Fitment} {c d : Settings} {item index v w : Nat}

theorem writeItem_axis (h : isAxisItem item = true) :
    writeItem f c item index v w = some d ↔
      ∃ a x, present f a = true ∧ index = axisCode a ∧ writeAxisItem item v w (c.axis.get a) = some x ∧
        d = { c with axis := c.axis.set a x } := by
  rw [writeItem, if_pos h, Option.bind_eq_some_iff]
  constructor
  · rintro ⟨a, ha, e⟩
    obtain ⟨there, code⟩ := presentAxis_iff.mp ha
    obtain ⟨x, hx, rfl⟩ := Option.map_eq_some_iff.mp e
    exact ⟨a, x, there, code, hx, rfl⟩
  · rintro ⟨a, x, there, code, hx, rfl⟩
    exact ⟨a, presentAxis_iff.mpr ⟨there, code⟩, Option.map_eq_some_iff.mpr ⟨x, hx, rfl⟩⟩

theorem writeItem_zone (h : isAxisItem item = false) (hz : isZoneItem item = true) :
    writeItem f c item index v w = some d ↔
      ∃ z x, ((index = 0 ∧ z = .c) ∨ (index = 1 ∧ z = .b)) ∧ writeZoneItem item v (c.zone.get z) = some x ∧
        d = setZoneCfg c z x := by
  rw [writeItem, if_neg (Bool.eq_false_iff.mp h), if_pos hz, Option.bind_eq_some_iff]
  constructor
  · rintro ⟨z, e, ex⟩
    obtain ⟨x, hx, rfl⟩ := Option.map_eq_some_iff.mp ex
    exact ⟨z, x, zoneOfCode_iff.mp e, hx, rfl⟩
  · rintro ⟨z, x, e, hx, rfl⟩
    exact ⟨z, zoneOfCode_iff.mpr e, Option.map_eq_some_iff.mpr ⟨x, hx, rfl⟩⟩

theorem writeItem_part (h : isAxisItem item = false) (hz : isZoneItem item = false) :
    writeItem f c item index v w = writePlainItem item index v w c := by
  rw [writeItem, if_neg (Bool.eq_false_iff.mp h), if_neg (Bool.eq_false_iff.mp hz)]

theorem readItem_axis (h : isAxisItem item = true) :
    readItem f c item index = (presentAxis f index).bind (fun a => readAxisItem item (c.axis.get a)) := if_pos h

theorem readItem_zone (h : isAxisItem item = false) (hz : isZoneItem item = true) :
    readItem f c item index = (zoneOfCode index).bind (fun z => readZoneItem item (c.zone.get z)) := by
  rw [readItem, if_neg (Bool.eq_false_iff.mp h), if_pos hz]

theorem readItem_part (h : isAxisItem item = false) (hz : isZoneItem item = false) :
    readItem f c item index = readPlainItem item index c := by
  rw [readItem, if_neg (Bool.eq_false_iff.mp h), if_neg (Bool.eq_false_iff.mp hz)]

/-- An item of an axis reads the settings of its axis, one of a zone those of its zone, and any other the rest. -/
theorem readItem_congr {e : Settings} {k : Nat}
    (axes : isAxisItem item = true → ∀ a, k = axisCode a → readAxisItem item (d.axis.get a) = readAxisItem item (e.axis.get a))
    (zones : isZoneItem item = true → ∀ z, zoneOfCode k = some z → readZoneItem item (d.zone.get z) = readZoneItem item (e.zone.get z))
    (rest : isAxisItem item = false → isZoneItem item = false → readPlainItem item k d = readPlainItem item k e) :
    readItem f d item k = readItem f e item k := by
  cases h : isAxisItem item with
  | true =>
    rw [readItem_axis h, readItem_axis h]
    exact Option.bind_congr fun a ha => axes h a (presentAxis_iff.mp ha).2
  | false =>
    cases hz : isZoneItem item with
    | true =>
      rw [readItem_zone h hz, readItem_zone h hz]
      exact Option.bind_congr fun z ez => zones hz z ez
    | false =>
      rw [readItem_part h hz, readItem_part h hz]
      exact rest h hz

theorem readItem_written (table : c.ntc.length = 9) (h : writeItem f c item index v w = some d) :
    readItem f d item index = some (toWord v, if item = 0x10 ∨ item = 0x59 then toWord w else 0) := by
  cases ha : isAxisItem item with
  | true =>
    obtain ⟨a, x, there, code, hx, rfl⟩ := (writeItem_axis ha).mp h
    have notTable : item ≠ 0x59 := by have := (isAxisItem_iff item).mp ha; omega
    rw [readItem_axis ha, presentAxis_iff.mpr ⟨there, code⟩, Option.bind_some]
    dsimp only
    rw [PerAxis.get_set_same, readAxisItem_written hx]
    simp only [notTable, or_false]
  | false =>
    have notWindow : item ≠ 0x10 := by rintro rfl; cases ha
    cases hz : isZoneItem item with
    | true =>
      obtain ⟨z, x, code, hx, rfl⟩ := (writeItem_zone ha hz).mp h
      have notTable : item ≠ 0x59 := by rintro rfl; cases hz
      rw [readItem_zone ha hz, zoneOfCode_iff.mpr code, Option.bind_some, setZoneCfg]
      dsimp only
      rw [PerZone.get_set_same, readZoneItem_written hx, if_neg (not_or.mpr ⟨notWindow, notTable⟩)]
    | false =>
      rw [readItem_part ha hz, readPlainItem_written table ((writeItem_part ha hz).symm.trans h)]
      simp only [notWindow, false_or]

theorem writeItem_takes :
    writeItem f c item index v w ≠ none ↔
      ((∃ a, present f a = true ∧ index = axisCode a) ∧ AxisTakes item v w) ∨ (index ≤ 1 ∧ ZoneTakes item v) ∨
        PartTakes c.ntc item index v (readSigned w) := by
  have noAxis (ha : isAxisItem item = false) : ¬ AxisTakes item v w := fun h => Bool.noConfusion (ha.symm.trans h.isAxis)
  have zoneOnly (hz : isAxisItem item = true ∨ isZoneItem item = false) : ¬ ZoneTakes item v := fun h =>
    hz.elim (fun e => Bool.noConfusion (e.symm.trans h.isZone.1)) (fun e => Bool.noConfusion (e.symm.trans h.isZone.2))
  have partOnly (hp : isAxisItem item = true ∨ isZoneItem item = true) : ¬ PartTakes c.ntc item index v (readSigned w) := fun h =>
    hp.elim (fun e => Bool.noConfusion (e.symm.trans h.isPart.1)) (fun e => Bool.noConfusion (e.symm.trans h.isPart.2))
  rw [Option.ne_none_iff_exists']
  cases ha : isAxisItem item with
  | true =>
    simp only [writeItem_axis ha, zoneOnly (.inl ha), partOnly (.inl ha), and_false, or_false]
    constructor
    · rintro ⟨d, a, x, there, code, hx, _⟩
      exact ⟨⟨a, there, code⟩, (writeAxisItem_takes item v w (c.axis.get a)).mp (Option.ne_none_iff_exists'.mpr ⟨x, hx⟩)⟩
    · rintro ⟨⟨a, there, code⟩, takes⟩
      obtain ⟨x, hx⟩ := Option.ne_none_iff_exists'.mp ((writeAxisItem_takes item v w (c.axis.get a)).mpr takes)
      exact ⟨_, a, x, there, code, hx, rfl⟩
  | false =>
    cases hz : isZoneItem item with
    | true =>
      simp only [writeItem_zone ha hz, noAxis ha, partOnly (.inr hz), and_false, false_or, or_false]
      constructor
      · rintro ⟨d, z, x, code, hx, _⟩
        exact ⟨by omega, (writeZoneItem_takes item v (c.zone.get z)).mp (Option.ne_none_iff_exists'.mpr ⟨x, hx⟩)⟩
      · rintro ⟨code, takes⟩
        obtain ⟨z, hz⟩ : ∃ z : Zone, (index = 0 ∧ z = .c) ∨ (index = 1 ∧ z = .b) := by
          obtain rfl | rfl : index = 0 ∨ index = 1 := by omega
          · exact ⟨.c, .inl ⟨rfl, rfl⟩⟩
          · exact ⟨.b, .inr ⟨rfl, rfl⟩⟩
        obtain ⟨x, hx⟩ := Option.ne_none_iff_exists'.mp ((writeZoneItem_takes item v (c.zone.get z)).mpr takes)
        exact ⟨_, z, x, hz, hx, rfl⟩
    | false =>
      simp only [writeItem_part ha hz, noAxis ha, zoneOnly (.inr hz), and_false, false_or]
      rw [← Option.ne_none_iff_exists']
      exact writePlainItem_takes item index v w c

theorem readPlainItem_axes (k : Nat) (c : Settings) (x : PerAxis AxisSettings) :
    readPlainItem item k { c with axis := x } = readPlainItem item k c := by
  unfold readPlainItem
  split <;> rfl

theorem readPlainItem_zones (k : Nat) (c : Settings) (x : PerZone ZoneSettings) :
    readPlainItem item k { c with zone := x } = readPlainItem item k c := by
  unfold readPlainItem
  split <;> rfl

/-- A write changes its own item alone. -/
theorem writeItem_keeps (h : writeItem f c item index v w = some d) :
    (∀ other k, other ≠ item ∨ (((0x01 ≤ item ∧ item ≤ 0x11) ∨ (0x50 ≤ item ∧ item ≤ 0x59) ∨ item = 0x25) ∧ k ≠ index) →
        readItem f d other k = readItem f c other k) ∧
      (∀ a, ¬ ((0x01 ≤ item ∧ item ≤ 0x11) ∧ index = axisCode a) → d.axis.get a = c.axis.get a) ∧
      (∀ z, ¬ ((0x50 ≤ item ∧ item ≤ 0x57) ∧ ((index = 0 ∧ z = Zone.c) ∨ (index = 1 ∧ z = Zone.b))) →
        d.zone.get z = c.zone.get z) ∧
      d.ntc.length = c.ntc.length := by
  rw [← isAxisItem_iff, ← isZoneItem_iff]
  cases ha : isAxisItem item with
  | true =>
    obtain ⟨a, x, _, code, hx, rfl⟩ := (writeItem_axis ha).mp h
    have others (e : Axis) (ne : index ≠ axisCode e) : (c.axis.set a x).get e = c.axis.get e :=
      PerAxis.get_set_ne _ _ fun same => ne (same ▸ code)
    refine ⟨fun other k away => ?_, fun e ne => others e fun same => ne ⟨rfl, same⟩, fun _ _ => rfl, rfl⟩
    refine readItem_congr (fun _ e hk => ?_) (fun _ _ _ => rfl) (fun _ _ => readPlainItem_axes k c _)
    by_cases same : e = a
    · subst same
      have ne : other ≠ item := away.elim id fun hi => absurd (hk.trans code.symm) hi.2
      dsimp only
      rw [PerAxis.get_set_same, readAxisItem_other hx ne]
    · dsimp only
      rw [PerAxis.get_set_ne _ _ same]
  | false =>
    cases hz : isZoneItem item with
    | true =>
      obtain ⟨z, x, code, hx, rfl⟩ := (writeItem_zone ha hz).mp h
      have others (e : Zone) (ne : e ≠ z) : (c.zone.set z x).get e = c.zone.get e := PerZone.get_set_ne _ _ ne
      refine ⟨fun other k away => ?_, fun _ _ => rfl, fun e ne => others e fun same => ne ⟨rfl, same ▸ code⟩, rfl⟩
      refine readItem_congr (fun _ _ _ => rfl) (fun _ e hk => ?_) (fun _ _ => readPlainItem_zones k c _)
      by_cases same : e = z
      · subst same
        have ne : other ≠ item := away.elim id fun hi => by
          have := zoneOfCode_iff.mp hk
          rcases code with ⟨_, rfl⟩ | ⟨_, rfl⟩ <;> simp at this <;> omega
        rw [setZoneCfg, PerZone.get_set_same, readZoneItem_other hx ne]
      · exact congrArg (readZoneItem other) (others e same)
    | false =>
      have hp := (writeItem_part ha hz).symm.trans h
      obtain ⟨axes, zones, table⟩ := writePlainItem_keeps hp
      refine ⟨fun other k away => ?_, fun _ _ => by rw [axes], fun _ _ => by rw [zones], table⟩
      refine readItem_congr (fun _ _ _ => by rw [axes]) (fun _ _ _ => by rw [zones]) fun oa oz => ?_
      by_cases same : other = item
      · subst same
        obtain ⟨places, ne⟩ := away.resolve_left fun ne => ne rfl
        have notZone : ¬ (0x50 ≤ other ∧ other ≤ 0x57) := fun r => Bool.noConfusion (hz.symm.trans ((isZoneItem_iff other).mpr r))
        refine readPlainItem_otherPlace hp ?_ ne
        rcases places with r | r | r
        · exact nomatch r
        · omega
        · exact .inl r
      · exact readPlainItem_other hp same

end

/-- Settles O14: the three classes of items, each with the values it takes, what is read back and what is left as it was. -/
theorem configurationItemsAreWrittenAndRead : Obligations.ConfigurationItemsAreWrittenAndRead := by
  unfold Obligations.ConfigurationItemsAreWrittenAndRead
  refine ⟨fun f c d item index v w table h => readItem_written table h, fun f c item index v w table hv hw => ?_⟩
  intro stepped temp axisTakes zoneTakes partTakes indexed
  have ranges := writeItem_takes (f := f) (c := c) (item := item) (index := index) (v := v) (w := w)
  rw [readSigned_eq hw] at ranges
  exact ⟨ranges, fun d h => writeItem_keeps h⟩

end Sys2Proof.Machine
end

section
/-! SUPPORT. The motion commands (01_axes_and_their_moves.md R20 to R25, R71, R81): what MOVE AXIS TO, JOG AXIS, STOP AXIS, STOP ALL, LEARN
AXIS and CLEAR AXIS FAULT answer, how a move is prepared (R7), and how a claim is raised, changed and released (R29 to R31). -/
namespace Sys2Proof.Machine

/-! ### Blocks that read the settings alone -/

section
variable {b : Base} {s : Seat} {a : Axis}

theorem takeMove_link (l : Link) (o : Owner) (m : Move) : takeMove { b with link := l } s a o m = takeMove b s a o m := rfl

theorem endMove_link (l : Link) (r : MoveResult) (report : Bool) :
    endMove { b with link := l } s a r report = endMove b s a r report := rfl

theorem passes_idle {m : BraceMode} (k : CommandClass) (h : m = .idle) : passes m k = true := by
  subst h
  cases k <;> rfl

/-! ### MOVE AXIS TO and JOG AXIS (R21, R25, R71) -/

theorem moveRefusal_free (free : reserved s a = false) (running : (axisOf s a).drive ≠ .fault) :
    moveRefusal s a = ownerRefusal (ownerMet s.brace.mode (axisOf s a)) := by
  rw [moveRefusal, free, if_neg running]
  rfl

theorem moveRefusal_reserved (h : reserved s a = true) : moveRefusal s a = some .busy := if_pos h

theorem moveRefusal_fault (free : reserved s a = false) (h : (axisOf s a).drive = .fault) : moveRefusal s a = some .state := by
  rw [moveRefusal, free, if_pos h]
  rfl

section
variable {n target direction ms : Nat} {d : Dir}

theorem moveAxisTo_absent (h : ∀ a, present b.fit a = true → n ≠ axisCode a) : moveAxisTo n target b s = refuse .range s := by
  rw [moveAxisTo, presentAxis_absent h]

theorem moveAxisTo_reserved (there : present b.fit a = true) (h : reserved s a = true) :
    moveAxisTo (axisCode a) target b s = refuse .busy s := by
  rw [moveAxisTo, presentAxis_code there]
  exact if_pos h

theorem moveAxisTo_unlearned (there : present b.fit a = true) (free : reserved s a = false)
    (h : (axisOf s a).confidence = .unlearned) : moveAxisTo (axisCode a) target b s = refuse .range s := by
  rw [moveAxisTo, presentAxis_code there]
  dsimp only
  rw [free, if_pos h]
  rfl

/-- A learned axis that no recall holds answers by the check of every link move. -/
theorem moveAxisTo_checked (there : present b.fit a = true) (free : reserved s a = false)
    (known : (axisOf s a).confidence ≠ .unlearned) :
    moveAxisTo (axisCode a) target b s =
      match moveRefusal s a with
      | some r => refuse r s
      | none => accept (takeMove b s a .link (toTargetMove (b.cfg.axis.get a) (axisOf s a) target)) := by
  rw [moveAxisTo, presentAxis_code there]
  dsimp only
  rw [free, if_neg known]
  rfl

theorem jogAxis_absent (h : (∀ a, present b.fit a = true → n ≠ axisCode a) ∨ 2 ≤ direction ∨ ms < 50 ∨ 500 < ms) :
    jogAxis n direction ms b s = refuse .range s := by
  unfold jogAxis
  split
  case h_1 a d ha hd =>
    have there := (presentAxis_iff.mp ha)
    have way : direction < 2 := by
      unfold dirOfCode at hd
      split at hd <;> first | omega | cases hd
    refine if_pos fun inside => ?_
    rw [within, Bool.and_eq_true_iff, decide_eq_true_iff, decide_eq_true_iff] at inside
    rcases h with absent | rest
    · exact absent a there.1 there.2
    · omega
  case h_2 => rfl

theorem jogAxis_checked (there : present b.fit a = true) (low : 50 ≤ ms) (high : ms ≤ 500) :
    jogAxis (axisCode a) (dirCode d) ms b s =
      match moveRefusal s a with
      | some r => refuse r s
      | none => accept (takeJog b s a d ms) := by
  have inside : within 50 500 ms = true := by
    rw [within, Bool.and_eq_true_iff, decide_eq_true_iff, decide_eq_true_iff]
    exact ⟨low, high⟩
  have way : dirOfCode (dirCode d) = some d := by cases d <;> rfl
  unfold jogAxis
  rw [presentAxis_code there, way]
  dsimp only
  rw [inside]
  rfl

end

theorem isJog_iff {o : Owner} {m : Move} {d : Dir} : isJog o m d = true ↔ o = .link ∧ m.kind = .jog ∧ m.dir = d := by
  simp only [isJog, Bool.and_eq_true_iff, decide_eq_true_iff, and_assoc]

theorem keptMove_iff {x : AxisState} : keptMove x = true ↔ x.cause = some .shed ∧ x.move.isSome = true ∧ x.pending = none := by
  simp only [keptMove, Bool.and_eq_true_iff, decide_eq_true_iff, and_assoc, Option.isNone_iff_eq_none]

theorem takeJog_refreshes {d : Dir} {ms : Nat} {y : AxisState} (h : refreshJog (axisOf s a) d ms = some y) :
    takeJog b s a d ms = done (putAxis s a y) := by
  rw [takeJog, h]

theorem takeJog_takes {d : Dir} {ms : Nat} (h : refreshJog (axisOf s a) d ms = none) :
    takeJog b s a d ms = takeMove b s a .link { kind := .jog, dir := d, expiry := some ms } := by
  rw [takeJog, h]

theorem ownerMet_pending {mode : BraceMode} {x : AxisState} {p : Pending} (h : x.pending = some p) : ownerMet mode x = p.owner := by
  rw [ownerMet, h]

theorem ownerMet_link {mode : BraceMode} {x : AxisState} (h : x.pending = none) (link : x.owner = .link) :
    ownerMet mode x = .link := by
  rw [ownerMet, h, link]
  exact if_neg fun c => nomatch c.2.1

/-- An axis whose owner met is NONE has no LINK JOG to refresh. -/
theorem refreshJog_none_of_owner {mode : BraceMode} {x : AxisState} {d : Dir} {ms : Nat} (h : ownerMet mode x = .none) :
    refreshJog x d ms = none := by
  unfold refreshJog
  split
  case h_1 p _ hp =>
    rw [ownerMet_pending hp] at h
    refine if_neg fun jog => ?_
    rw [(isJog_iff.mp jog).1] at h
    cases h
  case h_2 m hp hm =>
    refine if_neg fun ⟨jog, _⟩ => ?_
    rw [ownerMet_link hp (isJog_iff.mp jog).1] at h
    cases h
  case h_3 => rfl

theorem refreshJog_pending {x : AxisState} {p : Pending} {d : Dir} {ms : Nat} (h : x.pending = some p) :
    refreshJog x d ms =
      if isJog p.owner p.move d then some { x with pending := some { p with move := refreshed p.move ms } } else none := by
  unfold refreshJog
  rw [h]

theorem refreshJog_move {x : AxisState} {m : Move} {d : Dir} {ms : Nat} (hp : x.pending = none) (h : x.move = some m) :
    refreshJog x d ms =
      if isJog x.owner m d ∧ (x.drive ≠ .coasting ∨ keptMove x) then some { x with move := some (refreshed m ms) } else none := by
  unfold refreshJog
  rw [hp, h]

end

/-- Settles O18: the checks of the command, in their order. -/
theorem moveAxisToAnswers : Obligations.MoveAxisToAnswers := by
  unfold Obligations.MoveAxisToAnswers
  intro s n target h mode i
  have pass := passes_idle .motion mode
  refine ⟨fun absent => comfort_refuses h pass fun l _ => moveAxisTo_absent absent, fun a code there => ?_⟩
  subst code
  intro x owner
  have met : ownerMet s.seat.brace.mode (axisOf s.seat a) = owner := by rw [mode]
  refine ⟨fun held => comfort_refuses h pass fun l _ => moveAxisTo_reserved there held, fun free => ⟨fun unlearned =>
    comfort_refuses h pass fun l _ => moveAxisTo_unlearned there free unlearned, fun known => ?_⟩⟩
  have refuses {r} (hr : moveRefusal s.seat a = some r) : exec i s = .next (refused s r) :=
    comfort_refuses h pass fun l _ => (moveAxisTo_checked there free known).trans (by rw [hr])
  have byOwner (running : x.drive ≠ .fault) : moveRefusal s.seat a = ownerRefusal owner :=
    (moveRefusal_free free running).trans (congrArg ownerRefusal met)
  refine ⟨fun fault => refuses (moveRefusal_fault free fault), fun running others => refuses ?_, fun running braced => refuses ?_,
    fun running link => comfort_takes h pass fun l _ => ?_⟩
  · rw [byOwner running]
    rcases others with e | e | e <;> rw [e] <;> rfl
  · rw [byOwner running, braced]
    rfl
  · have taken : moveRefusal s.seat a = none := by
      rw [byOwner running]
      rcases link with e | e <;> rw [e] <;> rfl
    refine (moveAxisTo_checked there free known).trans ?_
    rw [taken, takeMove_link]
    rfl

/-- Settles O19: the checks of every link move, and a LINK JOG held in the same direction refreshed in place. -/
theorem jogAxisAnswers : Obligations.JogAxisAnswers := by
  unfold Obligations.JogAxisAnswers
  intro s n direction ms h mode i
  have pass := passes_idle .motion mode
  refine ⟨fun absent => comfort_refuses h pass fun l _ => jogAxis_absent absent, fun a d code there way low high => ?_⟩
  subst code way
  intro x owner taken
  have met : ownerMet s.seat.brace.mode (axisOf s.seat a) = owner := by rw [mode]
  have refuses {r} (hr : moveRefusal s.seat a = some r) : exec i s = .next (refused s r) :=
    comfort_refuses h pass fun l _ => (jogAxis_checked there low high).trans (by rw [hr])
  refine ⟨fun held => refuses (moveRefusal_reserved held), fun free => ⟨fun fault => refuses (moveRefusal_fault free fault),
    fun running => ?_⟩⟩
  have byOwner : moveRefusal s.seat a = ownerRefusal owner := (moveRefusal_free free running).trans (congrArg ownerRefusal met)
  have takes (ok : owner = .none ∨ owner = .link) (new : refreshJog x d ms = none) : taken := by
    have accepted : moveRefusal s.seat a = none := by
      rw [byOwner]
      rcases ok with e | e <;> rw [e] <;> rfl
    refine comfort_takes h pass fun l _ => ?_
    refine (jogAxis_checked there low high).trans ?_
    rw [accepted, takeJog_takes new, takeMove_link]
    rfl
  have refreshes {y : AxisState} (link : owner = .link) (held : refreshJog x d ms = some y) :
      exec i s = .next (answered s .accepted ({ s.seat with axes := s.seat.axes.set a y }, [])) := by
    refine comfort_takes h pass fun l _ => ?_
    refine (jogAxis_checked there low high).trans ?_
    rw [byOwner, link, takeJog_refreshes held]
    rfl
  refine ⟨fun others => refuses ?_, fun braced => refuses ?_, fun none => takes (.inl none) (refreshJog_none_of_owner none),
    fun p hp link => ?_, fun m hp link hm => ?_, fun hp link hm => ?_⟩
  · rw [byOwner]
    rcases others with e | e | e <;> rw [e] <;> rfl
  · rw [byOwner, braced]
    rfl
  · have linked : owner = .link := (ownerMet_pending hp).trans link
    refine ⟨fun same => refreshes linked ?_, fun other => takes (.inr linked) ?_⟩
    · exact (refreshJog_pending hp).trans (if_pos (isJog_iff.mpr ⟨link, same⟩))
    · refine (refreshJog_pending hp).trans (if_neg fun jog => ?_)
      obtain ⟨_, kind, dir⟩ := isJog_iff.mp jog
      exact other.elim (absurd kind) (absurd dir)
  · have linked : owner = .link := ownerMet_link hp link
    refine ⟨fun same runs => refreshes linked ?_, fun other => takes (.inr linked) ?_⟩
    · refine (refreshJog_move hp hm).trans (if_pos ⟨isJog_iff.mpr ⟨link, same⟩, runs.imp_right fun shed => ?_⟩)
      exact keptMove_iff.mpr ⟨shed, by rw [hm]; rfl, hp⟩
    · refine (refreshJog_move hp hm).trans (if_neg fun ⟨jog, runs⟩ => ?_)
      obtain ⟨_, kind, dir⟩ := isJog_iff.mp jog
      rcases other with ne | ne | ⟨coasts, ended⟩
      · exact ne kind
      · exact ne dir
      · exact runs.elim (absurd coasts) fun kept => ended (keptMove_iff.mp kept).1
  · refine takes (.inr (ownerMet_link hp link)) ?_
    unfold refreshJog
    rw [hp, hm]

/-! ### STOP AXIS and STOP ALL (R22, R56, R81) -/

/-- Doing something for each member behind what was already done. -/
theorem andThen_forEach {α : Type} (l : List α) (f : α → Seat → Did) (x : Did) :
    andThen x (forEach l f) = l.foldl (fun y i => andThen y (f i)) x := by
  induction l generalizing x with
  | nil => exact congrArg (Prod.mk x.1) (List.append_nil x.2)
  | cons i l ih =>
    rw [List.foldl_cons, ← ih]
    have rest : forEach (i :: l) f x.1 = andThen (f i x.1) (forEach l f) := (ih (andThen (x.1, []) (f i))).symm.trans rfl
    refine Prod.ext ?_ ?_
    · rw [andThen_fst, rest, andThen_fst, andThen_fst, andThen_fst]
    · rw [andThen_snd, rest, andThen_snd, andThen_snd, andThen_snd, andThen_fst, List.append_assoc]

/-- What a stop command does to the move of an owner other than a recall (R22). -/
def stopsOther (b : Base) (t : Seat) (a : Axis) : Did :=
  if ownerMet .idle (axisOf t a) = .manual then endMove b (holdOff (holdOff t (.axis a .up)) (.axis a .down)) a .aborted false
  else if ownerMet .idle (axisOf t a) = .link ∨ ownerMet .idle (axisOf t a) = .learn then endMove b t a .aborted false
  else (t, [])

section
variable {b : Base} {s : Seat} {a : Axis}

theorem stopMove_idle (mode : s.brace.mode = .idle) :
    stopMove b a s =
      if ownerMet .idle (axisOf s a) = .recall then endMove b s a .aborted true else stopsOther b s a := by
  unfold stopMove stopsOther
  rw [mode]
  cases ownerMet .idle (axisOf s a) <;> rfl

theorem stopOther_idle (mode : s.brace.mode = .idle) : stopOther b a s = stopsOther b s a := by
  unfold stopOther
  rw [stopMove_idle mode, mode]
  split
  case isTrue h =>
    unfold stopsOther
    rw [h]
    rfl
  case isFalse h => rfl

theorem holdOff_keepsBrace (c : Contact) : (holdOff s c).brace = s.brace := by
  unfold holdOff
  split <;> rfl

theorem holdOff_keepsRecall (c : Contact) : (holdOff s c).recallCtx = s.recallCtx := by
  unfold holdOff
  split <;> rfl

theorem stopsOther_keeps : (stopsOther b s a).1.brace = s.brace ∧ (stopsOther b s a).1.recallCtx = s.recallCtx := by
  unfold stopsOther
  split
  · obtain ⟨_, _, ctx, _, _, _, _, brace⟩ :=
      endMove_keeps b (holdOff (holdOff s (.axis a .up)) (.axis a .down)) a .aborted false
    exact ⟨brace.trans ((holdOff_keepsBrace _).trans (holdOff_keepsBrace _)),
      ctx.trans ((holdOff_keepsRecall _).trans (holdOff_keepsRecall _))⟩
  · split
    · obtain ⟨_, _, ctx, _, _, _, _, brace⟩ := endMove_keeps b s a .aborted false
      exact ⟨brace, ctx⟩
    · exact ⟨rfl, rfl⟩

theorem stopMove_keepsRecall (mode : s.brace.mode = .idle) : (stopMove b a s).1.recallCtx = s.recallCtx := by
  rw [stopMove_idle mode]
  split
  · exact endMove_recall b s a .aborted true
  · exact stopsOther_keeps.2

theorem stopWaiting_nothing (h : ∀ r, s.recallCtx = some r → r.result.get a ≠ .waiting) : stopWaiting s a = (s, []) := by
  unfold stopWaiting
  split
  case h_1 r hr => exact if_neg (h r hr)
  case h_2 => rfl

theorem stopWaiting_records {r : Recall} (hr : s.recallCtx = some r) (h : r.result.get a = .waiting) :
    stopWaiting s a = ({ s with recallCtx := some { r with result := r.result.set a (.ended .aborted) } }, [.recallCheck]) := by
  unfold stopWaiting
  rw [hr]
  exact if_pos h

theorem abortRecall_link (l : Link) (o : RecallOutcome) : abortRecall { b with link := l } s o = abortRecall b s o := rfl

theorem abortRecall_mode (o : RecallOutcome) : (abortRecall b s o).1.brace.mode = s.brace.mode := by
  unfold abortRecall
  split
  · rfl
  · next r _ =>
    have ends := KeepsRest.forEach (recallOrder.filter (fun a => r.result.get a = .running))
      (fun a t => endMove b t a (abortResult (axisOf s a) o) false) s fun i t => endMove_keeps b t i _ false
    have mode := congrArg Brace.mode ends.brace
    unfold noteRestore
    split <;> exact mode

theorem foldl_stops {l : List Axis} {y : Did} (mode : y.1.brace.mode = .idle) :
    l.foldl (fun z a => andThen z (stopOther b a)) y =
      l.foldl (fun z a => ((stopsOther b z.1 a).1, z.2 ++ (stopsOther b z.1 a).2)) y := by
  induction l generalizing y with
  | nil => rfl
  | cons a l ih =>
    have stops : stopOther b a y.1 = stopsOther b y.1 a := stopOther_idle mode
    have step : andThen y (stopOther b a) = ((stopsOther b y.1 a).1, y.2 ++ (stopsOther b y.1 a).2) :=
      Prod.ext (by rw [andThen_fst, stops]) (by rw [andThen_snd, stops])
    rw [List.foldl_cons, List.foldl_cons, step]
    exact ih ((congrArg Brace.mode stopsOther_keeps.1).trans mode)

end

/-- Settles O20: both commands end the moves one by one, and no end of a move touches the brace state or the recall. -/
theorem stopCommandsEndMoves : Obligations.StopCommandsEndMoves := by
  unfold Obligations.StopCommandsEndMoves
  intro s n h mode ended
  have pass := passes_idle .motion mode
  have absent (l : Link) (none : ∀ a, present s.base.fit a = true → n ≠ axisCode a) :
      stopAxis n { s.base with link := l } s.seat = refuse .range s.seat := by
    rw [stopAxis, presentAxis_absent none]
  refine ⟨fun none => comfort_refuses h pass fun l _ => absent l none, fun a code there => ?_, ?_, fun noCtx owners => ?_⟩
  · subst code
    intro owner y waits
    have answers (l : Link) : stopAxis (axisCode a) { s.base with link := l } s.seat =
        (.accepted, andThen (stopMove s.base a s.seat) (fun t => stopWaiting t a)) := by
      rw [stopAxis, presentAxis_code there]
      rfl
    have moved : stopMove s.base a s.seat = y := stopMove_idle mode
    have ctx : (stopMove s.base a s.seat).1.recallCtx = s.seat.recallCtx := stopMove_keepsRecall mode
    have quiet (no : ¬ waits) : exec (.stopAxis (axisCode a)) s = .next (answered s .accepted y) := by
      have nothing : stopWaiting y.1 a = (y.1, []) :=
        stopWaiting_nothing fun r hr he => no ⟨r, ctx.symm.trans ((congrArg (fun z : Did => z.1.recallCtx) moved).trans hr), he⟩
      refine comfort_takes h pass fun l _ => (answers l).trans (congrArg (Prod.mk Result.accepted) ?_)
      rw [moved]
      refine Prod.ext ?_ ?_
      · rw [andThen_fst, nothing]
      · rw [andThen_snd, nothing, List.append_nil]
    refine ⟨quiet, fun r hr he => ?_, fun no none => ?_⟩
    · intro records
      have held : y.1.recallCtx = some r := (congrArg (fun z : Did => z.1.recallCtx) moved).symm.trans (ctx.trans hr)
      refine comfort_takes h pass fun l _ => (answers l).trans (congrArg (Prod.mk Result.accepted) ?_)
      rw [moved]
      refine Prod.ext ?_ ?_
      · rw [andThen_fst, stopWaiting_records held he]
      · rw [andThen_snd, stopWaiting_records held he]
    · have still : y = (s.seat, []) := by
        change (if ownerMet .idle (axisOf s.seat a) = .recall then _ else stopsOther s.base s.seat a) = _
        unfold stopsOther
        rcases none with e | e <;> rw [show ownerMet .idle (axisOf s.seat a) = _ from e] <;> rfl
      rw [quiet no, still, refused_eq_answered]
  · intro stops
    refine comfort_takes h pass fun l _ => congrArg (Prod.mk Result.accepted) ?_
    refine (andThen_forEach _ _ _).trans (foldl_stops ?_)
    exact (abortRecall_mode .stopped).trans mode
  · rw [refused_eq_answered]
    refine comfort_takes h pass fun l _ => congrArg (Prod.mk Result.accepted) ?_
    have aborts : abortRecall s.base s.seat .stopped = (s.seat, []) := by
      unfold abortRecall
      rw [noCtx]
      rfl
    have nothing : forEach (presentIn s.base.fit axisOrder) (stopOther s.base) s.seat = (s.seat, []) := by
      refine forEach_nothing _ _ _ fun a ha => (stopOther_idle mode).trans ?_
      unfold stopsOther
      rcases owners a (List.mem_filter.mp ha).2 with e | e <;> rw [e] <;> rfl
    change andThen (abortRecall s.base s.seat .stopped) (fun t => forEach (presentIn s.base.fit axisOrder) (stopOther s.base) t) = _
    rw [aborts]
    refine Prod.ext ?_ ?_
    · rw [andThen_fst, nothing]
    · rw [andThen_snd, nothing, List.append_nil]

/-! ### LEARN AXIS and CLEAR AXIS FAULT (R20, R23) -/

/-- The axis as a learn run finds it at its start (R23). -/
def learnAxisStart (cf : AxisSettings) (x : AxisState) : AxisState :=
  { x with confidence := .unlearned, lowStop := none, highStop := none, leadUp := cf.initialLead, leadDown := cf.initialLead,
           learn := .low }

theorem startLearn_eq (b : Base) (s : Seat) (a : Axis) :
    startLearn b s a =
      takeMove b
        { s with
          axes := s.axes.set a (learnAxisStart (b.cfg.axis.get a) (axisOf s a)),
          profiles := if a = .slide then s.profiles.set .return Reset.profile else s.profiles }
        a .learn { kind := .jog, dir := .down, expiry := none } := by
  unfold startLearn
  dsimp only
  by_cases slide : a = .slide
  · rw [if_pos slide, if_pos slide]
    rfl
  · rw [if_neg slide, if_neg slide]
    rfl

theorem learnAxis_checked {b : Base} {s : Seat} {a : Axis} (there : present b.fit a = true) :
    learnAxis (axisCode a) b s =
      if b.link.vehicle = .moving then refuse .state s
      else if reserved s a then refuse .busy s
      else if (axisOf s a).drive = .fault then refuse .state s
      else if (axisOf s a).owner ≠ .none then refuse .busy s
      else accept (startLearn b s a) := by
  rw [learnAxis, presentAxis_code there]

theorem clearAxisFault_checked {b : Base} {s : Seat} {a : Axis} (there : present b.fit a = true) :
    clearAxisFault (axisCode a) b s =
      if (axisOf s a).drive = .fault then accept (done (clearFault s a)) else refuse .state s := by
  rw [clearAxisFault, presentAxis_code there]

/-- Settles O21: the checks of both commands, in their order. -/
theorem learnAndClearFaultAnswer : Obligations.LearnAndClearFaultAnswer := by
  unfold Obligations.LearnAndClearFaultAnswer
  intro s n h
  have clears (mode : s.seat.brace.mode = .idle ∨ s.seat.brace.mode = .locked) : passes s.seat.brace.mode .clearFault = true := by
    rcases mode with e | e <;> rw [e] <;> rfl
  refine ⟨fun none => ⟨fun mode => ?_, fun mode => ?_⟩, fun a code there => ?_⟩
  · refine comfort_refuses h (passes_idle .motion mode) fun l _ => ?_
    rw [learnAxis, presentAxis_absent none]
  · refine comfort_refuses h (clears mode) fun l _ => ?_
    rw [clearAxisFault, presentAxis_absent none]
  · subst code
    intro x lead
    have checked (l : Link) := learnAxis_checked (b := { s.base with link := l }) (s := s.seat) there
    refine ⟨fun mode => ?_, fun mode => ⟨fun fault => ?_, fun fine => ?_⟩⟩
    · have pass := passes_idle .motion mode
      refine ⟨fun moving => ?_, fun parked held => ?_, fun parked free => ⟨fun fault => ?_, fun fine owned => ?_, fun fine unowned => ?_⟩⟩
      · exact comfort_refuses h pass fun l hv => (checked l).trans (if_pos (hv.trans moving))
      all_goals
        have still (l : Link) (hv : l.vehicle = s.base.link.vehicle) : ¬ l.vehicle = .moving := fun m =>
          nomatch (hv.trans parked).symm.trans m
      · refine comfort_refuses h pass fun l hv => (checked l).trans ((if_neg (still l hv)).trans ?_)
        exact if_pos held
      all_goals have unheld : ¬ reserved s.seat a = true := Bool.eq_false_iff.mp free
      · refine comfort_refuses h pass fun l hv => (checked l).trans ((if_neg (still l hv)).trans ?_)
        exact (if_neg unheld).trans (if_pos fault)
      · refine comfort_refuses h pass fun l hv => (checked l).trans ((if_neg (still l hv)).trans ?_)
        exact (if_neg unheld).trans ((if_neg fine).trans (if_pos owned))
      · refine comfort_takes h pass fun l hv => (checked l).trans ((if_neg (still l hv)).trans ?_)
        refine (if_neg unheld).trans ((if_neg fine).trans ((if_neg (not_not.mpr unowned)).trans ?_))
        exact congrArg (Prod.mk Result.accepted) (startLearn_eq s.base s.seat a)
    · exact comfort_takes h (clears mode) fun l _ => (clearAxisFault_checked there).trans (if_pos fault)
    · exact comfort_refuses h (clears mode) fun l _ => (clearAxisFault_checked there).trans (if_neg fine)

/-! ### Preparation (R7) -/

section
variable {cf : AxisSettings} {x : AxisState} {m : Move}

theorem onTarget_iff {p t : Nat} : onTarget cf p t = true ↔ p ≤ t + cf.onTarget ∧ t ≤ p + cf.onTarget := by
  rw [onTarget, Bool.and_eq_true_iff, decide_eq_true_iff, decide_eq_true_iff]

theorem softLimits_none (h : x.lowStop = none ∨ x.highStop = none) : softLimits cf x = none := by
  unfold softLimits
  rcases h with e | e
  · rw [e]
  · rw [e]
    cases x.lowStop <;> rfl

theorem softLimits_some {low high : Nat} (hl : x.lowStop = some low) (hh : x.highStop = some high) :
    softLimits cf x = some (low + cf.softMargin, max (low + cf.softMargin) (high - cf.softMargin)) := by
  rw [softLimits, hl, hh]

theorem atSoftLimit_unknown (h : x.confidence ≠ .learned) (d : Dir) : atSoftLimit cf x d = false := by
  unfold atSoftLimit
  split
  · exact absurd ‹_› h
  · exact absurd ‹_› h
  · rfl

theorem atSoftLimit_learned {low high : Nat} (h : x.confidence = .learned) (hl : x.lowStop = some low) (hh : x.highStop = some high)
    (d : Dir) :
    atSoftLimit cf x d = true ↔
      (d = .down ∧ x.position ≤ low + cf.softMargin) ∨
        (d = .up ∧ max (low + cf.softMargin) (high - cf.softMargin) ≤ x.position) := by
  unfold atSoftLimit
  rw [h, softLimits_some hl hh]
  cases d <;> simp

/-- R7 steps 3 and 4 for a move that is not on its target: it ends at once at a soft limit alone. -/
theorem endsAtOnce_away
    (h : m.kind = .jog ∨ ∃ t, m.kind = .toTarget t ∧ (t + cf.onTarget < x.position ∨ x.position + cf.onTarget < t)) :
    endsAtOnce cf x m = if atSoftLimit cf x m.dir then some .endStop else none := by
  unfold endsAtOnce
  rcases h with e | ⟨t, e, away⟩
  · rw [e]
  · rw [e]
    exact if_neg fun on => by have := onTarget_iff.mp on; omega

theorem clampTarget_none (h : softLimits cf x = none) (t : Nat) : clampTarget cf x t = min t maxPosition := by
  rw [clampTarget, h]

theorem clampTarget_some {lo hi : Nat} (h : softLimits cf x = some (lo, hi)) (t : Nat) :
    clampTarget cf x t = max lo (min hi (min t maxPosition)) := by
  rw [clampTarget, h]

end

/-- Settles O22: the target by the soft limits, the direction by the target, the end at once by both. -/
theorem movesArePrepared : Obligations.MovesArePrepared := by
  unfold Obligations.MovesArePrepared
  intro cf x target m taken ends
  have kind : taken.kind = .toTarget (clampTarget cf x target) := rfl
  refine ⟨fun t ht => ⟨rfl, ?_⟩, fun none => ?_, fun t ht above below => ?_, fun unknown away => ?_, fun low high hl hh => ?_⟩
  · cases kind.symm.trans ht
    change directionTo x (clampTarget cf x target) = .up ↔ _
    unfold directionTo
    split
    · exact ⟨fun _ => ‹_›, fun _ => rfl⟩
    · exact ⟨fun e => (nomatch e), fun e => absurd e ‹_›⟩
  · rw [kind, clampTarget_none (softLimits_none none)]
    rfl
  · change endsAtOnce cf x m = _
    unfold endsAtOnce
    rw [ht]
    exact if_pos (onTarget_iff.mpr ⟨above, below⟩)
  · refine (endsAtOnce_away away).trans ?_
    rw [atSoftLimit_unknown unknown]
    rfl
  · intro softLow softHigh
    refine ⟨fun room => ?_, fun learned away => ?_⟩
    · have clamp : clampTarget cf x target = max softLow (min softHigh (min target 16383)) :=
        clampTarget_some (softLimits_some hl hh) target
      have ordered : softLow ≤ softHigh := Nat.le_max_left _ _
      rw [kind, clamp]
      refine ⟨fun under => congrArg _ (by omega), fun above => congrArg _ (by omega), fun above below => congrArg _ (by omega)⟩
    · refine (endsAtOnce_away away).trans ?_
      simp only [atSoftLimit_learned learned hl hh]
      rfl

/-! ### Claims (R29 to R31) -/

section
variable {s : Seat} {c : Consumer}

theorem holdsClaim_iff {al : Alloc} :
    holdsClaim al c = true ↔ (∃ p ∈ al.pending, p.consumer = c) ∨ ∃ g ∈ al.granted, g.claim.consumer = c := by
  rw [holdsClaim, Bool.or_eq_true_iff, isGranted_iff, isPending_iff, List.mem_map, List.mem_map, or_comm]

theorem grantedClaim_none {al : Alloc} (h : ∀ g ∈ al.granted, g.claim.consumer ≠ c) : grantedClaim al c = none := by
  rw [grantedClaim, List.find?_eq_none.mpr fun g hg => by simpa using h g hg]
  rfl

theorem pendingClaim_none {al : Alloc} (h : ∀ p ∈ al.pending, p.consumer ≠ c) : pendingClaim al c = none :=
  List.find?_eq_none.mpr fun p hp => by simpa using h p hp

theorem pendingClaim_of_split {al : Alloc} {before after : List Claim} {x : Claim} (h : al.pending = before ++ x :: after)
    (hx : x.consumer = c) (others : ∀ p ∈ before, p.consumer ≠ c) : pendingClaim al c = some x := by
  have none : before.find? (fun p => p.consumer = c) = none := List.find?_eq_none.mpr fun p hp => by simpa using others p hp
  rw [pendingClaim, h, List.find?_append, none, List.find?_cons_of_pos (by simpa using hx)]
  rfl

theorem filter_others {before after : List Claim} {x : Claim} (hx : x.consumer = c)
    (others : ∀ p ∈ before ++ after, p.consumer ≠ c) :
    (before ++ x :: after).filter (fun p => p.consumer ≠ c) = before ++ after := by
  rw [List.filter_append, List.filter_cons_of_neg (by simpa using hx), ← List.filter_append]
  exact List.filter_eq_self.mpr fun p hp => by simpa using others p hp

theorem classOf_pending {al : Alloc} {p : Claim} (hg : grantedClaim al c = none) (hp : pendingClaim al c = some p) :
    classOf al c = p.cls := by
  rw [classOf, hg, hp]

theorem classOf_granted {al : Alloc} {g : Grant} (hg : al.granted.find? (fun h => h.claim.consumer = c) = some g) :
    classOf al c = g.claim.cls := by
  rw [classOf, grantedClaim, hg]
  rfl

theorem changeClass_new {cls : Nat} (held : holdsClaim s.alloc c = true) (new : classOf s.alloc c ≠ cls) :
    changeClass s c cls = ({ s with alloc := setClass s.alloc c cls }, [.pass]) := if_pos ⟨held, new⟩

end

/-- Settles O23: each operation by whether its consumer holds a claim. -/
theorem claimsAreRaisedChangedAndReleased : Obligations.ClaimsAreRaisedChangedAndReleased := by
  unfold Obligations.ClaimsAreRaisedChangedAndReleased
  intro s c cls amount al remade
  refine ⟨holdsClaim_iff, fun free => ?_, fun held => ⟨if_pos held, if_pos held, if_pos held⟩,
    fun before x after pending consumer new others ungranted => ?_, fun g unpending granted new => ?_⟩
  · have free : ¬ holdsClaim s.alloc c = true := Bool.eq_false_iff.mp free
    exact ⟨if_neg free, if_neg free, if_neg free⟩
  · have found : pendingClaim s.alloc c = some x :=
      pendingClaim_of_split pending consumer fun p hp => others p (List.mem_append_left _ hp)
    have held : holdsClaim s.alloc c = true := holdsClaim_iff.mpr (.inl ⟨x, (pendingClaim_spec found).1, consumer⟩)
    rw [changeClass_new held (classOf_pending (grantedClaim_none ungranted) found ▸ new), setClass, found]
    dsimp only
    rw [show s.alloc.pending = before ++ x :: after from pending, filter_others consumer others]
  · have held : holdsClaim s.alloc c = true :=
      holdsClaim_iff.mpr (.inr ⟨g, List.mem_of_find?_eq_some granted, by simpa using List.find?_some granted⟩)
    rw [changeClass_new held (classOf_granted granted ▸ new), setClass, pendingClaim_none unpending]
    rfl

end Sys2Proof.Machine
end

section
/-! SUPPORT. The moves of an axis (01_axes_and_their_moves.md R7 to R9, R16 to R18, R24, R25): what a move that is taken leaves, by the drive
state that it finds, how a move ends early, and what a grant and a shed do. -/
namespace Sys2Proof.Machine

/-! ### One axis, written and read -/

section
variable {b : Base} {s : Seat} {a : Axis} {x y : AxisState}

theorem putAxis_put : putAxis (putAxis s a x) a y = putAxis s a y := by
  simp only [putAxis, set_set_axis]

theorem putAxis_axisOf : putAxis s a (axisOf s a) = s := by
  simp only [putAxis, axisOf, set_get_axis]

/-! ### A change of class, by the claim held (R31) -/

theorem releaseClaim_free {c : Consumer} (h : holdsClaim s.alloc c = false) : releaseClaim s c = (s, []) := by
  rw [releaseClaim, h]
  rfl

theorem changeClass_free {c : Consumer} (cls : Nat) (h : holdsClaim s.alloc c = false) : changeClass s c cls = (s, []) := by
  rw [changeClass, h]
  exact if_neg fun held => Bool.noConfusion held.1

theorem not_pending {al : Alloc} {c : Consumer} (h : isPending al c = false) : ∀ p ∈ al.pending, p.consumer ≠ c := by
  intro p hp e
  have : isPending al c = true := isPending_iff.mpr (List.mem_map.mpr ⟨p, hp, e⟩)
  exact Bool.noConfusion (h.symm.trans this)

theorem not_granted {al : Alloc} {c : Consumer} (h : isGranted al c = false) : ∀ g ∈ al.granted, g.claim.consumer ≠ c := by
  intro g hg e
  have : isGranted al c = true := isGranted_iff.mpr (List.mem_map.mpr ⟨g, hg, e⟩)
  exact Bool.noConfusion (h.symm.trans this)

theorem holdsClaim_of_pending {al : Alloc} {c : Consumer} {p : Claim} (h : pendingClaim al c = some p) : holdsClaim al c = true :=
  holdsClaim_iff.mpr (.inl ⟨p, (pendingClaim_spec h).1, (pendingClaim_spec h).2⟩)

theorem holdsClaim_of_granted {al : Alloc} {c : Consumer} {g : Grant} (h : al.granted.find? (fun g => g.claim.consumer = c) = some g) :
    holdsClaim al c = true :=
  holdsClaim_iff.mpr (.inr ⟨g, List.mem_of_find?_eq_some h, by simpa using List.find?_some h⟩)

theorem changeClass_pending {c : Consumer} {p : Claim} (cls : Nat) (ungranted : isGranted s.alloc c = false)
    (h : pendingClaim s.alloc c = some p) :
    changeClass s c cls =
      if p.cls = cls then (s, [])
      else ({ s with alloc := { s.alloc with
                pending := insertClaim { p with cls := cls } (s.alloc.pending.filter (fun x => x.consumer ≠ c)) } }, [.pass]) := by
  have held := holdsClaim_of_pending h
  have class_ : classOf s.alloc c = p.cls := classOf_pending (grantedClaim_none (not_granted ungranted)) h
  by_cases same : p.cls = cls
  · rw [if_pos same, changeClass, class_]
    exact if_neg fun new => new.2 same
  · rw [if_neg same, changeClass_new held (class_ ▸ same), setClass, h]

theorem changeClass_granted {c : Consumer} {g : Grant} (cls : Nat) (unpending : isPending s.alloc c = false)
    (h : s.alloc.granted.find? (fun g => g.claim.consumer = c) = some g) :
    changeClass s c cls =
      if g.claim.cls = cls then (s, [])
      else ({ s with alloc := { s.alloc with
                granted := s.alloc.granted.map
                  (fun h => if h.claim.consumer = c then { h with claim := { h.claim with cls := cls } } else h) } }, [.pass]) := by
  have held := holdsClaim_of_granted h
  have class_ : classOf s.alloc c = g.claim.cls := classOf_granted h
  by_cases same : g.claim.cls = cls
  · rw [if_pos same, changeClass, class_]
    exact if_neg fun new => new.2 same
  · have others : s.alloc.pending.map (fun p => if p.consumer = c then { p with cls := cls } else p) = s.alloc.pending :=
      (List.map_congr_left fun p hp => if_neg (not_pending unpending p hp)).trans (List.map_id _)
    rw [if_neg same, changeClass_new held (class_ ▸ same), setClass, pendingClaim_none (not_pending unpending), mapClaims]
    dsimp only
    rw [others]

/-! ### A move that is prepared (R7, R9, R13) -/

/-- An axis whose move has ended with a result (R7, R17). -/
def endedAxis (x : AxisState) (r : MoveResult) : AxisState := { toIdle x with lastResult := some r }

/-- An axis whose bridge is driven for a move (R9). -/
def drivenAxis (cf : AxisSettings) (x : AxisState) (m : Move) : AxisState :=
  { x with
    drive := .driving, move := some m, bridge := drivenBridge m.dir, driveDir := m.dir,
    stallLeft := some (cf.stallTimeout + cf.startAllowance), coastLeft := none, blankLeft := some blankingTime,
    overcurrentLeft := none, coastResult := none, coastReport := false, afterShed := false }

theorem startDrive_put (m : Move) : startDrive b (putAxis s a x) a m = putAxis s a (drivenAxis (b.cfg.axis.get a) x m) := by
  unfold startDrive
  dsimp only
  rw [axisOf_putAxis, putAxis_put]
  rfl

theorem finishAtOnce_put {r : MoveResult} {report : Bool} (plain : ¬ (x.owner = .learn ∧ x.learn = .settle ∧ r = .reached)) :
    finishAtOnce (putAxis s a x) a r report =
      ((releaseClaim (putAxis s a (endedAxis x r)) (.axis a)).1,
        (releaseClaim (putAxis s a (endedAxis x r)) (.axis a)).2 ++ reportIf report a x.owner r) := by
  unfold finishAtOnce
  dsimp only
  rw [axisOf_putAxis, putAxis_put, if_neg plain]
  rfl

theorem prepare_ends {m : Move} {r : MoveResult} (ends : endsAtOnce (b.cfg.axis.get a) x m = some r)
    (plain : ¬ (x.owner = .learn ∧ x.learn = .settle ∧ r = .reached)) :
    prepare b (putAxis s a x) a m =
      ((releaseClaim (putAxis s a (endedAxis x r)) (.axis a)).1,
        (releaseClaim (putAxis s a (endedAxis x r)) (.axis a)).2 ++ [.moveEnded a x.owner r]) := by
  unfold prepare
  dsimp only
  rw [axisOf_putAxis, ends]
  exact finishAtOnce_put plain

theorem prepare_drives {m : Move} (ends : endsAtOnce (b.cfg.axis.get a) x m = none) (granted : isGranted s.alloc (.axis a) = true) :
    prepare b (putAxis s a x) a m = (putAxis s a (drivenAxis (b.cfg.axis.get a) x m), []) := by
  unfold prepare
  dsimp only
  rw [axisOf_putAxis, ends, putAxis_alloc, if_pos granted, startDrive_put]
  rfl

theorem prepare_waits {m : Move} (ends : endsAtOnce (b.cfg.axis.get a) x m = none) (ungranted : isGranted s.alloc (.axis a) = false)
    (still : isPending s.alloc (.axis a) = true ∨ (x.dirty = .queued ∧ x.owner ≠ .brace)) :
    prepare b (putAxis s a x) a m = (putAxis s a (waiting x m), []) := by
  unfold prepare raiseAxis
  dsimp only
  rw [axisOf_putAxis, ends, putAxis_alloc, ungranted, putAxis_put, axisOf_putAxis]
  dsimp only
  rw [putAxis_alloc]
  cases pending : isPending s.alloc (.axis a) with
  | true => rfl
  | false => exact if_pos (still.resolve_left fun e => Bool.noConfusion (pending.symm.trans e))

theorem prepare_raises {m : Move} (ends : endsAtOnce (b.cfg.axis.get a) x m = none) (free : holdsClaim s.alloc (.axis a) = false)
    (now : x.dirty ≠ .queued ∨ x.owner = .brace) :
    prepare b (putAxis s a x) a m =
      ({ putAxis s a (waiting x m) with
          alloc := arrive s.alloc (.axis a) (axisClass x.owner) (b.cfg.axis.get a).claim 0 }, [.pass]) := by
  obtain ⟨ungranted, unpending⟩ := Bool.or_eq_false_iff.mp free
  have raised : ¬ (x.dirty = .queued ∧ x.owner ≠ .brace) := fun ⟨queued, other⟩ => now.elim (absurd queued) (fun e => other e)
  unfold prepare raiseAxis
  dsimp only
  rw [axisOf_putAxis, ends, putAxis_alloc, ungranted, putAxis_put, axisOf_putAxis]
  dsimp only
  rw [putAxis_alloc, unpending]
  refine (if_neg raised).trans ?_
  rw [raiseClaim, putAxis_alloc, free]
  rfl

/-! ### A move that is taken (R8, R16, R17, R25, R84) -/

/-- RETURN after a move of owner `o` on an axis (R84). -/
def profilesAfter (s : Seat) (a : Axis) (o : Owner) : PerSlot Profile :=
  if a = .slide ∧ (o = .manual ∨ o = .link) then s.profiles.set .return Reset.profile else s.profiles

theorem spoilReturn_eq (o : Owner) : spoilReturn s a o = { s with profiles := profilesAfter s a o } := by
  unfold spoilReturn profilesAfter
  split <;> rfl

theorem markDirty_old (h : (axisOf s a).dirty ≠ .notMarked) : markDirty s a = s := if_neg h

/-- The axis and the store queue after the dirty mark of a move (R8). -/
theorem markDirty_eq :
    markDirty s a =
      { s with
        axes := s.axes.set a { axisOf s a with dirty := if (axisOf s a).dirty = .notMarked then .queued else (axisOf s a).dirty },
        store := if (axisOf s a).dirty = .notMarked then enterWrite s.store (.axis a (recordOf (axisOf s a) false)) else s.store } := by
  by_cases new : (axisOf s a).dirty = .notMarked
  · simp only [if_pos new]
    refine (if_pos new).trans ?_
    unfold queueAxisRecord
    rw [axisOf_putAxis]
    rfl
  · simp only [if_neg new]
    exact (markDirty_old new).trans putAxis_axisOf.symm

theorem ownerMet_still {mode : BraceMode} (h : x.pending = none) (still : x.drive ≠ .coasting) : ownerMet mode x = x.owner := by
  rw [ownerMet, h]
  exact if_neg fun coasts => still coasts.1

theorem loseLearn_none (h : (axisOf s a).learn = .none) : loseLearn s a = s := if_pos h

theorem takeOver_put {o old : Owner} (h : x.learn = .none) :
    (takeOver (putAxis s a x) a o old).1 =
      putAxis s a { x with lastResult := if old = o ∨ old = .none then x.lastResult else some .aborted } := by
  unfold takeOver
  by_cases same : old = o ∨ old = .none
  · rw [if_pos same, if_pos same]
    rfl
  · have kept : (if old = .learn then loseLearn (putAxis s a x) a else putAxis s a x) = putAxis s a x := by
      split
      · exact loseLearn_none (by rw [axisOf_putAxis]; exact h)
      · rfl
    rw [if_neg same, if_neg same, kept]
    dsimp only
    rw [axisOf_putAxis]
    exact putAxis_put

end

/-- Settles O24: the mark of the first move of a run, then the preparation on an axis that holds no claim. -/
theorem moveTakenFromIdle : Obligations.MoveTakenFromIdle := by
  unfold Obligations.MoveTakenFromIdle
  intro b s a o m x cf mark still claim left idle free plain
  let t : Seat :=
    { s with
      profiles := profilesAfter s a o,
      store := if x.dirty = .notMarked then enterWrite s.store (.axis a (recordOf x false)) else s.store }
  let marked : AxisState := { x with dirty := mark, drive := .idle, owner := o }
  have taken : takeMove b s a o m = prepare b (putAxis t a marked) a m := by
    have begun : spoilReturn (markDirty s a) a o = putAxis t a { x with dirty := mark } := by
      rw [spoilReturn_eq, markDirty_eq]
      rfl
    have drive : (axisOf (putAxis t a { x with dirty := mark }) a).drive = .idle :=
      (congrArg AxisState.drive (axisOf_putAxis t a _)).trans idle
    unfold takeMove
    dsimp only
    rw [begun, drive]
    dsimp only
    rw [axisOf_putAxis, putAxis_put]
  have free : holdsClaim t.alloc (.axis a) = false := free
  have unlearned (r : MoveResult) : ¬ (marked.owner = .learn ∧ marked.learn = .settle ∧ r = .reached) := fun ⟨learn, settle, _⟩ =>
    plain.elim (fun ne => ne learn) (fun ne => ne settle)
  refine ⟨fun r ends => ?_, fun ends => ⟨fun other queued => ?_, fun now => ?_⟩⟩
  · rw [taken, prepare_ends (x := marked) ends (unlearned r),
      releaseClaim_free (s := putAxis t a (endedAxis marked r)) free]
    rfl
  · rw [taken, prepare_waits (x := marked) ends (Bool.or_eq_false_iff.mp free).1 (.inr ⟨queued, other⟩)]
    rfl
  · have raised : marked.dirty ≠ .queued ∨ marked.owner = .brace := by
      refine now.symm.imp_left fun e => ?_
      rw [show marked.dirty = .marked from e]
      exact DirtyMark.noConfusion
    rw [taken, prepare_raises (x := marked) ends free raised]
    rfl

section
variable {b : Base} {s : Seat} {a : Axis} {o : Owner} {m : Move}

/-- The owner of the ended move is told at once (R17, R25). -/
def toldTakenOver (a : Axis) (o old : Owner) : List Task := if old = o ∨ old = .none then [] else [.moveEnded a old .aborted]

/-- An axis after the move that it held was taken over (R17). -/
def takenOver (x : AxisState) (o old : Owner) : AxisState :=
  { x with lastResult := if old = o ∨ old = .none then x.lastResult else some .aborted }

/-- The seat after RETURN was lost to a move (R84). -/
def returnSpoilt (s : Seat) (a : Axis) (o : Owner) : Seat := { s with profiles := profilesAfter s a o }

/-- A move that is taken after the first of the run, on an axis that is not learning: RETURN is lost, and the drive state decides. -/
theorem takeMove_begins (dirty : (axisOf s a).dirty ≠ .notMarked) : spoilReturn (markDirty s a) a o = returnSpoilt s a o := by
  rw [markDirty_old dirty, spoilReturn_eq]
  rfl

theorem takeOver_returnSpoilt {old : Owner} (h : (axisOf s a).learn = .none) :
    (takeOver (returnSpoilt s a o) a o old).1 = putAxis (returnSpoilt s a o) a (takenOver (axisOf s a) o old) := by
  have self : putAxis (returnSpoilt s a o) a (axisOf s a) = returnSpoilt s a o := putAxis_axisOf
  rw [← self]
  exact (takeOver_put h).trans (by rw [self]; rfl)

theorem takeMove_waitGrant (drive : (axisOf s a).drive = .waitGrant) (dirty : (axisOf s a).dirty ≠ .notMarked)
    (learn : (axisOf s a).learn = .none) :
    takeMove b s a o m =
      let old := ownerMet s.brace.mode (axisOf s a)
      let y := changeClass (putAxis (returnSpoilt s a o) a { takenOver (axisOf s a) o old with owner := o }) (.axis a) (axisClass o)
      let z := prepare b y.1 a m
      (z.1, toldTakenOver a o old ++ y.2 ++ z.2) := by
  unfold takeMove
  dsimp only
  rw [takeMove_begins dirty, show (axisOf (returnSpoilt s a o) a).drive = .waitGrant from drive]
  dsimp only
  rw [takeOver_returnSpoilt learn, axisOf_putAxis, putAxis_put]
  rfl

theorem takeMove_driving (drive : (axisOf s a).drive = .driving) (dirty : (axisOf s a).dirty ≠ .notMarked)
    (learn : (axisOf s a).learn = .none) :
    takeMove b s a o m =
      let old := ownerMet s.brace.mode (axisOf s a)
      let x := takenOver (axisOf s a) o old
      if x.driveDir = m.dir then
        let y := changeClass (putAxis (returnSpoilt s a o) a { x with move := some m, owner := o }) (.axis a) (axisClass o)
        (y.1, toldTakenOver a o old ++ y.2)
      else
        let y := changeClass (putAxis (returnSpoilt s a o) a { noExpiry x with pending := some { move := m, owner := o } })
          (.axis a) (axisClass o)
        let z := switchOff b y.1 a .request none false
        (z.1, toldTakenOver a o old ++ y.2 ++ z.2) := by
  unfold takeMove
  dsimp only
  rw [takeMove_begins dirty, show (axisOf (returnSpoilt s a o) a).drive = .driving from drive]
  dsimp only
  rw [takeOver_returnSpoilt learn, axisOf_putAxis, putAxis_put, putAxis_put]
  rfl

theorem takeMove_coasting (drive : (axisOf s a).drive = .coasting) (dirty : (axisOf s a).dirty ≠ .notMarked)
    (learn : (axisOf s a).learn = .none) :
    takeMove b s a o m =
      let old := ownerMet s.brace.mode (axisOf s a)
      let y := changeClass (takeCoasting (returnSpoilt s a o) a o old m) (.axis a) (axisClass o)
      (y.1, toldTakenOver a o old ++ y.2) := by
  have kept : (if ownerMet s.brace.mode (axisOf s a) = .learn ∧ o ≠ .learn then loseLearn (returnSpoilt s a o) a
      else returnSpoilt s a o) = returnSpoilt s a o := by
    split
    · exact loseLearn_none learn
    · rfl
  unfold takeMove
  dsimp only
  rw [takeMove_begins dirty, show (axisOf (returnSpoilt s a o) a).drive = .coasting from drive]
  dsimp only
  rw [kept]
  rfl

/-- An axis that reverses keeps its claim for the pending move (R12, R16). -/
theorem switchOff_pending {x : AxisState} {cause : Cause} {result : Option MoveResult} {report : Bool} (h : x.pending.isSome = true) :
    switchOff b (putAxis s a x) a cause result report =
      (putAxis s a (coasting (b.cfg.axis.get a) x cause result report), coastTasks (b.cfg.axis.get a) a) := by
  unfold switchOff
  dsimp only
  rw [axisOf_putAxis, h, putAxis_put]
  rfl

theorem switchOff_releases {x : AxisState} {cause : Cause} {result : Option MoveResult} {report : Bool} (h : x.pending = none) :
    switchOff b (putAxis s a x) a cause result report =
      ((releaseClaim (putAxis s a (coasting (b.cfg.axis.get a) x cause result report)) (.axis a)).1,
        (releaseClaim (putAxis s a (coasting (b.cfg.axis.get a) x cause result report)) (.axis a)).2
          ++ coastTasks (b.cfg.axis.get a) a) := by
  unfold switchOff
  dsimp only
  rw [axisOf_putAxis, h, putAxis_put]
  rfl

end

/-- Settles O25: in the same direction a new move on the claim held, in the other a reversal; the class by the new owner. -/
theorem moveTakenWhileDriving : Obligations.MoveTakenWhileDriving := by
  unfold Obligations.MoveTakenWhileDriving
  intro b s a o m g x cf result told kept replaced reversing ends braced drive pending dirty learn granted unpending
  have old : ownerMet s.brace.mode (axisOf s a) = x.owner := ownerMet_still pending (by rw [drive]; exact Drive.noConfusion)
  have taken := takeMove_driving (b := b) (o := o) (m := m) drive dirty learn
  rw [old] at taken
  have class_ (z : AxisState) := changeClass_granted (s := putAxis (returnSpoilt s a o) a z) (c := .axis a) (axisClass o) unpending granted
  have toBrace (one : g.claim.cls = 1) (brace : o = .brace) : ¬ g.claim.cls = axisClass o := by
    rw [one, brace]
    decide
  refine ⟨fun same => ?_, fun other => ?_⟩
  · have stays := taken.trans (if_pos same.symm)
    refine ⟨fun cls => ?_, fun one brace => ?_⟩
    · rw [stays, class_, if_pos (show g.claim.cls = axisClass o from cls)]
      exact Prod.ext rfl (List.append_nil _)
    · rw [stays, class_, if_neg (toBrace one brace)]
      subst brace
      rfl
  · have reverses := taken.trans (if_neg fun same => other same.symm)
    refine ⟨fun cls => ?_, fun one brace => ?_⟩
    · rw [reverses, class_, if_pos (show g.claim.cls = axisClass o from cls)]
      dsimp only
      rw [switchOff_pending rfl]
      exact Prod.ext rfl (congrArg (· ++ ends) (List.append_nil told))
    · rw [reverses, class_, if_neg (toBrace one brace)]
      subst brace
      exact congrArg (fun z : Did => (z.1, told ++ [.pass] ++ z.2))
        (switchOff_pending (b := b) (s := { returnSpoilt s a .brace with alloc := { s.alloc with granted := braced } }) (a := a)
          (x := { noExpiry (takenOver x .brace x.owner) with pending := some { move := m, owner := .brace } }) rfl)

/-! ### A move taken in WAIT_GRANT and in COASTING (R16 to R18, R25) -/

section
variable {b : Base} {s : Seat} {a : Axis} {o : Owner} {m : Move}

theorem isPending_inserted {al : Alloc} {c : Consumer} {p : Claim} (l : List Claim) (h : p.consumer = c) :
    isPending { al with pending := insertClaim p l } c = true :=
  isPending_iff.mpr (List.mem_map.mpr ⟨p, (insertClaim_perm p l).mem_iff.mpr List.mem_cons_self, h⟩)

theorem filter_insertClaim {q : Claim → Bool} {p : Claim} (h : q p = false) (l : List Claim) :
    (insertClaim p l).filter q = l.filter q := by
  induction l with
  | nil => exact List.filter_cons_of_neg (by rw [h]; exact Bool.false_ne_true)
  | cons x rest ih =>
    unfold insertClaim
    split
    · rw [List.filter_cons, List.filter_cons, ih]
    · exact List.filter_cons_of_neg (by rw [h]; exact Bool.false_ne_true)

/-- A claim that moved to another class is released as it would have been from its old place. -/
theorem releaseClaim_moved {c : Consumer} {p : Claim} (cls : Nat) (h : pendingClaim s.alloc c = some p) :
    releaseClaim { s with alloc := { s.alloc with
        pending := insertClaim { p with cls := cls } (s.alloc.pending.filter (fun x => x.consumer ≠ c)) } } c =
      releaseClaim s c := by
  obtain ⟨_, consumer⟩ := pendingClaim_spec h
  have moved : isPending { s.alloc with
      pending := insertClaim { p with cls := cls } (s.alloc.pending.filter (fun x => x.consumer ≠ c)) } c = true :=
    isPending_inserted _ consumer
  have rest : (insertClaim { p with cls := cls } (s.alloc.pending.filter (fun x => x.consumer ≠ c))).filter (fun x => x.consumer ≠ c) =
      s.alloc.pending.filter (fun x => x.consumer ≠ c) := by
    rw [filter_insertClaim (by simpa using consumer), List.filter_filter]
    simp only [Bool.and_self]
  rw [releaseClaim, releaseClaim, if_pos (holdsClaim_of_pending h)]
  dsimp only
  rw [holdsClaim, moved, Bool.or_true, if_pos rfl, dropClaims]
  dsimp only
  rw [rest]
  rfl

/-- The owner met is that of the pending move, else of the move in progress (notes/assumptions/14.md). -/
def moveOwner (x : AxisState) : Owner :=
  match x.pending with
  | some q => q.owner
  | none => x.owner

theorem ownerMet_eq {mode : BraceMode} {x : AxisState} (h : x.pending.isSome = true ∨ mode ≠ .idle ∨ x.owner ≠ .brace) :
    ownerMet mode x = moveOwner x := by
  unfold ownerMet moveOwner
  cases hp : x.pending with
  | some q => rfl
  | none =>
    refine if_neg fun ⟨_, brace, idle⟩ => ?_
    rw [hp] at h
    rcases h with none | busy | other
    · cases none
    · exact busy idle
    · exact other brace

/-- The coast of a move that was taken over: its result is ABORTED, and its end is not reported to the new owner. -/
def coastTaken (x : AxisState) (o old : Owner) : AxisState :=
  { x with coastReport := false, coastResult := if old = o ∨ old = .none then x.coastResult else some .aborted }

theorem takeCoasting_kept {old : Owner} (h : keptMove (axisOf s a) = true) :
    takeCoasting s a o old m = putAxis s a { coastTaken (axisOf s a) o old with move := some m, owner := o } := by
  unfold takeCoasting coastTaken
  dsimp only
  rw [if_pos h]
  by_cases same : old = o ∨ old = .none
  · rw [if_pos same, if_neg fun other => same.elim other.1 other.2]
  · rw [if_neg same, if_pos (not_or.mp same)]

theorem takeCoasting_pending {old : Owner} (h : ¬ keptMove (axisOf s a) = true) :
    takeCoasting s a o old m =
      putAxis s a { noExpiry (coastTaken (axisOf s a) o old) with pending := some { move := m, owner := o } } := by
  unfold takeCoasting coastTaken
  dsimp only
  rw [if_neg h]
  by_cases same : old = o ∨ old = .none
  · rw [if_pos same, if_neg fun other => same.elim other.1 other.2]
    rfl
  · rw [if_neg same, if_pos (not_or.mp same)]
    rfl

end

/-- Settles O26: the move is replaced in place, and the claim held follows the class of the new owner. -/
theorem moveTakenWhileWaitingOrCoasting : Obligations.MoveTakenWhileWaitingOrCoasting := by
  unfold Obligations.MoveTakenWhileWaitingOrCoasting
  intro b s a o m x old told cls kept takes dirty learn known
  have met : ownerMet s.brace.mode (axisOf s a) = old := ownerMet_eq known
  have free_class (y : AxisState) (free : holdsClaim s.alloc (.axis a) = false) :
      changeClass (putAxis (returnSpoilt s a o) a y) (.axis a) cls = (kept y s.alloc, []) :=
    changeClass_free (s := putAxis (returnSpoilt s a o) a y) cls free
  have pending_class (y : AxisState) (p : Claim) (ungranted : isGranted s.alloc (.axis a) = false)
      (hp : pendingClaim s.alloc (.axis a) = some p) :=
    changeClass_pending (s := putAxis (returnSpoilt s a o) a y) cls ungranted hp
  have granted_class (y : AxisState) (g : Grant) (unpending : isPending s.alloc (.axis a) = false)
      (hg : s.alloc.granted.find? (fun h => h.claim.consumer = .axis a) = some g) :=
    changeClass_granted (s := putAxis (returnSpoilt s a o) a y) cls unpending hg
  let z : AxisState := { takenOver x o old with owner := o }
  have replaces {y : Did} (drive : x.drive = .waitGrant) (h : changeClass (putAxis (returnSpoilt s a o) a z) (.axis a) cls = y) :
      takeMove b s a o m = ((prepare b y.1 a m).1, told ++ y.2 ++ (prepare b y.1 a m).2) := by
    have taken := takeMove_waitGrant (b := b) (o := o) (m := m) drive dirty learn
    rw [met] at taken
    subst h
    exact taken
  refine ⟨fun drive pending ends ungranted => ?_, fun v drive pending ends ungranted => ?_, fun drive => ?_⟩
  · intro waits
    have here : waiting z m = waits := by
      change ({ waits with drive := .waitGrant } : AxisState) = { waits with drive := x.drive }
      rw [drive]
    refine ⟨fun still => ⟨fun free => ?_, fun p _ hp => ?_, fun g _ hg => ?_⟩, fun unpending brace => ?_⟩
    · have waitsHere := prepare_waits (b := b) (s := returnSpoilt s a o) (x := z) ends ungranted still
      rw [here] at waitsHere
      rw [replaces drive (free_class z free)]
      refine (congrArg (fun y : Did => (y.1, told ++ [] ++ y.2)) waitsHere).trans ?_
      exact Prod.ext rfl (by simp)
    · have consumer := (pendingClaim_spec hp).2
      refine ⟨fun same => ?_, fun new => ?_⟩
      · have waitsHere := prepare_waits (b := b) (s := returnSpoilt s a o) (x := z) ends ungranted still
        rw [here] at waitsHere
        rw [replaces drive ((pending_class z p ungranted hp).trans (if_pos same))]
        refine (congrArg (fun y : Did => (y.1, told ++ [] ++ y.2)) waitsHere).trans ?_
        exact Prod.ext rfl (by simp)
      · let al : Alloc :=
          { s.alloc with pending := insertClaim { p with cls := cls } (s.alloc.pending.filter (fun c => c.consumer ≠ .axis a)) }
        have waitsHere := prepare_waits (b := b) (s := { returnSpoilt s a o with alloc := al }) (x := z) ends ungranted
          (.inl (isPending_inserted (al := s.alloc) _ consumer))
        rw [here] at waitsHere
        rw [replaces drive ((pending_class z p ungranted hp).trans (if_neg new))]
        refine (congrArg (fun y : Did => (y.1, told ++ [.pass] ++ y.2)) waitsHere).trans ?_
        exact Prod.ext rfl (by simp)
    · exact absurd (isGranted_iff.mpr (List.mem_map.mpr ⟨g, List.mem_of_find?_eq_some hg, by simpa using List.find?_some hg⟩))
        (Bool.eq_false_iff.mp ungranted)
    · intro claim
      have free : holdsClaim s.alloc (.axis a) = false := Bool.or_eq_false_iff.mpr ⟨ungranted, unpending⟩
      have raisesHere := prepare_raises (b := b) (s := returnSpoilt s a o) (x := z) ends free (.inr brace)
      rw [here] at raisesHere
      rw [replaces drive (free_class z free)]
      refine (congrArg (fun y : Did => (y.1, told ++ [] ++ y.2)) raisesHere).trans (Prod.ext ?_ (by simp))
      subst brace
      rfl
  · intro still y moved
    have plain : ¬ (z.owner = .learn ∧ z.learn = .settle ∧ v = .reached) := fun ⟨_, settle, _⟩ => nomatch learn.symm.trans settle
    have pendingNone : endedAxis z v = still := by
      change ({ toIdle z with lastResult := some v } : AxisState) = { still with pending := x.pending }
      rw [show x.pending = none from pending]
      rfl
    refine ⟨fun ⟨p, hp, new⟩ => ?_, fun same => ?_⟩
    · let al : Alloc :=
        { s.alloc with pending := insertClaim { p with cls := cls } (s.alloc.pending.filter (fun c => c.consumer ≠ .axis a)) }
      have endsHere := prepare_ends (b := b) (s := { returnSpoilt s a o with alloc := al }) (x := z) ends plain
      have released : releaseClaim (putAxis { returnSpoilt s a o with alloc := al } a (endedAxis z v)) (.axis a) = y := by
        rw [pendingNone]
        exact releaseClaim_moved (s := kept still s.alloc) cls hp
      rw [released] at endsHere
      rw [replaces drive ((pending_class z p ungranted hp).trans (if_neg new))]
      refine (congrArg (fun w : Did => (w.1, told ++ [.pass] ++ w.2)) endsHere).trans ?_
      exact Prod.ext rfl (List.append_assoc (told ++ [.pass]) y.2 [.moveEnded a o v]).symm
    · have endsHere := prepare_ends (b := b) (s := returnSpoilt s a o) (x := z) ends plain
      rw [pendingNone] at endsHere
      have stays : changeClass (putAxis (returnSpoilt s a o) a z) (.axis a) cls = (kept z s.alloc, []) := by
        cases hp : pendingClaim s.alloc (.axis a) with
        | some p =>
          have unchanged : p.cls = cls := by
            by_contra new
            exact same ⟨p, hp, new⟩
          rw [pending_class z p ungranted hp, if_pos unchanged]
          rfl
        | none =>
          have unpending : isPending s.alloc (.axis a) = false :=
            Bool.eq_false_iff.mpr fun e => by
              obtain ⟨p, mem, consumer⟩ := List.mem_map.mp (isPending_iff.mp e)
              exact List.find?_eq_none.mp hp p mem (by simpa using consumer)
          exact free_class z (Bool.or_eq_false_iff.mpr ⟨ungranted, unpending⟩)
      rw [replaces drive stays]
      refine (congrArg (fun w : Did => (w.1, told ++ [] ++ w.2)) endsHere).trans ?_
      exact Prod.ext rfl (by simp only [List.append_nil, List.append_assoc]; rfl)
  · intro ended
    have takes_of {y : AxisState} (h : takeCoasting (returnSpoilt s a o) a o old m = putAxis (returnSpoilt s a o) a y) : takes y := by
      have taken : takeMove b s a o m =
          ((changeClass (putAxis (returnSpoilt s a o) a y) (.axis a) cls).1,
            told ++ (changeClass (putAxis (returnSpoilt s a o) a y) (.axis a) cls).2) := by
        have coasts := takeMove_coasting (b := b) (o := o) (m := m) drive dirty learn
        rw [met] at coasts
        dsimp only at coasts
        rw [h] at coasts
        exact coasts
      refine ⟨fun free => ?_, fun p ungranted hp => ⟨fun same => ?_, fun new => ?_⟩, fun g unpending hg => ⟨fun same => ?_, fun new => ?_⟩⟩
      · exact taken.trans ((congrArg (fun w : Did => (w.1, told ++ w.2)) (free_class y free)).trans (by rw [List.append_nil]))
      · exact taken.trans ((congrArg (fun w : Did => (w.1, told ++ w.2))
          ((pending_class y p ungranted hp).trans (if_pos same))).trans (by rw [List.append_nil]; rfl))
      · exact taken.trans (congrArg (fun w : Did => (w.1, told ++ w.2)) ((pending_class y p ungranted hp).trans (if_neg new)))
      · exact taken.trans ((congrArg (fun w : Did => (w.1, told ++ w.2))
          ((granted_class y g unpending hg).trans (if_pos same))).trans (by rw [List.append_nil]; rfl))
      · exact taken.trans (congrArg (fun w : Did => (w.1, told ++ w.2)) ((granted_class y g unpending hg).trans (if_neg new)))
    refine ⟨fun away => takes_of (takeCoasting_pending fun keeps => ?_), fun none shed move => takes_of (takeCoasting_kept ?_)⟩
    · obtain ⟨shed, move, none⟩ := keptMove_iff.mp keeps
      rcases away with held | other | gone
      · exact absurd (held.symm.trans (congrArg Option.isSome none)) Bool.noConfusion
      · exact other shed
      · exact absurd (move.symm.trans (congrArg Option.isSome gone)) Bool.noConfusion
    · exact keptMove_iff.mpr ⟨shed, move, none⟩

end Sys2Proof.Machine
end

section
/-! SUPPORT. The early end of a move (01_axes_and_their_moves.md R17), the interruption of a learn run (R24, R25), and what an axis does with a
grant and with a shed (R9, R18). -/
namespace Sys2Proof.Machine

section
variable {b : Base} {s : Seat} {a : Axis} {r : MoveResult} {report : Bool}

/-! ### A move that ends early, by drive state (R17) -/

/-- A release changes nothing but the claims. -/
theorem releaseClaim_seat (s : Seat) (c : Consumer) : (releaseClaim s c).1 = { s with alloc := (releaseClaim s c).1.alloc } := by
  unfold releaseClaim
  split <;> rfl

theorem endMove_plain (learn : (axisOf s a).learn = .none) :
    endMove b s a r report =
      match (axisOf s a).drive with
      | .waitGrant => finishAtOnce s a r report
      | .driving => switchOff b (putAxis s a (noExpiry (axisOf s a))) a .request (some r) report
      | .coasting => endCoasting s a r report
      | _ => done s := by
  have kept : (if ownerMet s.brace.mode (axisOf s a) = .learn then loseLearn s a else s) = s := by
    split
    · exact loseLearn_none learn
    · rfl
  unfold endMove
  rw [kept] <;> rfl

theorem endMove_still (learn : (axisOf s a).learn = .none) (drive : (axisOf s a).drive = .idle ∨ (axisOf s a).drive = .fault) :
    endMove b s a r report = (s, []) := by
  rw [endMove_plain learn]
  rcases drive with e | e <;> rw [e] <;> rfl

theorem endMove_waitGrant (learn : (axisOf s a).learn = .none) (drive : (axisOf s a).drive = .waitGrant) :
    endMove b s a r report =
      ((releaseClaim (putAxis s a (endedAxis (axisOf s a) r)) (.axis a)).1,
        (releaseClaim (putAxis s a (endedAxis (axisOf s a) r)) (.axis a)).2 ++ reportIf report a (axisOf s a).owner r) := by
  have plain : ¬ ((axisOf s a).owner = .learn ∧ (axisOf s a).learn = .settle ∧ r = .reached) := fun ⟨_, settle, _⟩ =>
    nomatch learn.symm.trans settle
  have ends := finishAtOnce_put (s := s) (a := a) (report := report) plain
  rw [putAxis_axisOf] at ends
  rw [endMove_plain learn, drive]
  exact ends

theorem endMove_driving (learn : (axisOf s a).learn = .none) (drive : (axisOf s a).drive = .driving) :
    endMove b s a r report = switchOff b (putAxis s a (noExpiry (axisOf s a))) a .request (some r) report := by
  rw [endMove_plain learn, drive]

theorem endMove_coasting (learn : (axisOf s a).learn = .none) (drive : (axisOf s a).drive = .coasting) :
    endMove b s a r report = endCoasting s a r report := by
  rw [endMove_plain learn, drive]

theorem endCoasting_pending {p : Pending} (h : (axisOf s a).pending = some p) :
    endCoasting s a r report =
      releaseClaim
        (putAxis s a { noExpiry (axisOf s a) with
          pending := none, owner := p.owner, coastResult := some r, coastReport := report, afterShed := false })
        (.axis a) := by
  unfold endCoasting
  dsimp only
  rw [h]

theorem endCoasting_kept (h : keptMove (axisOf s a) = true) :
    endCoasting s a r report =
      releaseClaim
        (putAxis s a { axisOf s a with move := none, coastResult := some r, coastReport := report, afterShed := false })
        (.axis a) := by
  unfold endCoasting
  dsimp only
  rw [(keptMove_iff.mp h).2.2]
  exact if_pos h

theorem endCoasting_plain (none : (axisOf s a).pending = none) (h : ¬ keptMove (axisOf s a) = true) :
    endCoasting s a r report = (putAxis s a { noExpiry (axisOf s a) with coastResult := some r, coastReport := report }, []) := by
  unfold endCoasting
  dsimp only
  rw [none]
  exact if_neg h

/-- What an early end leaves of an axis whose move runs, with the claims aside. -/
def EndedEarly (s : Seat) (a : Axis) (r : MoveResult) (t : Seat) : Prop :=
  ∃ z al, t = { putAxis s a z with alloc := al } ∧ z.confidence = (axisOf s a).confidence ∧ z.lowStop = (axisOf s a).lowStop ∧
    z.highStop = (axisOf s a).highStop ∧ z.learn = (axisOf s a).learn ∧
    ((axisOf s a).drive = .waitGrant → z.drive = .idle ∧ z.lastResult = some r) ∧
    ((axisOf s a).drive = .driving ∨ (axisOf s a).drive = .coasting → z.drive = .coasting ∧ z.coastResult = some r)

theorem switchOff_seat {x : AxisState} {cause : Cause} {result : Option MoveResult} :
    ∃ al, (switchOff b (putAxis s a x) a cause result report).1 =
      { putAxis s a (coasting (b.cfg.axis.get a) x cause result report) with alloc := al } := by
  cases h : x.pending with
  | some p =>
    rw [switchOff_pending (by rw [h]; rfl)]
    exact ⟨s.alloc, rfl⟩
  | none =>
    rw [switchOff_releases h]
    exact ⟨_, releaseClaim_seat _ _⟩

theorem endMove_endsEarly (learn : (axisOf s a).learn = .none)
    (moves : (axisOf s a).drive = .waitGrant ∨ (axisOf s a).drive = .driving ∨ (axisOf s a).drive = .coasting) :
    EndedEarly s a r (endMove b s a r report).1 := by
  rcases moves with e | e | e
  · rw [endMove_waitGrant learn e]
    refine ⟨endedAxis (axisOf s a) r, _, releaseClaim_seat _ _, rfl, rfl, rfl, rfl, fun _ => ⟨rfl, rfl⟩, fun other => ?_⟩
    rw [e] at other
    rcases other with h | h <;> cases h
  · obtain ⟨al, seat⟩ := switchOff_seat (b := b) (s := s) (a := a) (x := noExpiry (axisOf s a)) (cause := .request)
      (result := some r) (report := report)
    rw [endMove_driving learn e]
    exact ⟨_, al, seat, rfl, rfl, rfl, rfl, fun h => (nomatch e.symm.trans h), fun _ => ⟨rfl, rfl⟩⟩
  · have wait (h : (axisOf s a).drive = .waitGrant) : False := nomatch e.symm.trans h
    rw [endMove_coasting learn e]
    cases hp : (axisOf s a).pending with
    | some p =>
      rw [endCoasting_pending hp]
      exact ⟨_, _, releaseClaim_seat _ _, rfl, rfl, rfl, rfl, fun h => (wait h).elim, fun _ => ⟨e, rfl⟩⟩
    | none =>
      by_cases kept : keptMove (axisOf s a) = true
      · rw [endCoasting_kept kept]
        exact ⟨_, _, releaseClaim_seat _ _, rfl, rfl, rfl, rfl, fun h => (wait h).elim, fun _ => ⟨e, rfl⟩⟩
      · rw [endCoasting_plain hp kept]
        exact ⟨_, s.alloc, rfl, rfl, rfl, rfl, rfl, fun h => (wait h).elim, fun _ => ⟨e, rfl⟩⟩

/-! ### The interruption of a learn run (R24, R25) -/

/-- An axis whose learn run did not complete. -/
def learnLostAxis (x : AxisState) : AxisState :=
  { x with lowStop := none, highStop := none, confidence := .unlearned, learn := .none }

/-- The seat after a learn run that did not complete: the record is queued with the clean marker cleared. -/
def learnLost (s : Seat) (a : Axis) : Seat :=
  { putAxis s a (learnLostAxis (axisOf s a)) with
    store := enterWrite s.store (.axis a (recordOf (learnLostAxis (axisOf s a)) false)) }

theorem loseLearn_lost (h : (axisOf s a).learn ≠ .none) : loseLearn s a = learnLost s a := by
  refine (if_neg h).trans ?_
  unfold queueAxisRecord
  rw [axisOf_putAxis]
  rfl

theorem axisOf_learnLost : axisOf (learnLost s a) a = learnLostAxis (axisOf s a) := axisOf_putAxis s a _

theorem endMove_learning (learning : (axisOf s a).learn ≠ .none) (met : ownerMet s.brace.mode (axisOf s a) = .learn) :
    endMove b s a r report = endMove b (learnLost s a) a r report := by
  have lost : (if ownerMet (learnLost s a).brace.mode (axisOf (learnLost s a) a) = .learn then loseLearn (learnLost s a) a
      else learnLost s a) = learnLost s a := by
    split
    · exact loseLearn_none (by rw [axisOf_learnLost]; rfl)
    · rfl
  have begun : (if ownerMet s.brace.mode (axisOf s a) = .learn then loseLearn s a else s) = learnLost s a :=
    (if_pos met).trans (loseLearn_lost learning)
  unfold endMove
  rw [begun, lost]

theorem takeOver_learning {o : Owner} (learning : (axisOf s a).learn ≠ .none) (other : o ≠ .learn) :
    (takeOver (returnSpoilt s a o) a o .learn).1 = (takeOver (returnSpoilt (learnLost s a) a o) a o .learn).1 := by
  have differs : ¬ (Owner.learn = o ∨ Owner.learn = .none) := fun h => h.elim (fun e => other e.symm) Owner.noConfusion
  have lost : loseLearn (returnSpoilt s a o) a = returnSpoilt (learnLost s a) a o := loseLearn_lost (s := returnSpoilt s a o) learning
  have again : loseLearn (returnSpoilt (learnLost s a) a o) a = returnSpoilt (learnLost s a) a o :=
    loseLearn_none ((congrArg AxisState.learn axisOf_learnLost).trans rfl)
  unfold takeOver
  rw [if_neg differs, if_neg differs, if_pos rfl, if_pos rfl, lost, again]

/-- A move of another owner takes over an axis that learns as if the run had been lost before. -/
theorem takeMove_learning {o : Owner} {m : Move} (learning : (axisOf s a).learn ≠ .none)
    (met : ownerMet s.brace.mode (axisOf s a) = .learn) (other : o ≠ .learn) (dirty : (axisOf s a).dirty ≠ .notMarked)
    (moves : (axisOf s a).drive = .waitGrant ∨ (axisOf s a).drive = .driving ∨ (axisOf s a).drive = .coasting) :
    takeMove b s a o m = takeMove b (learnLost s a) a o m := by
  have axis : axisOf (learnLost s a) a = learnLostAxis (axisOf s a) := axisOf_learnLost
  have metLost : ownerMet (learnLost s a).brace.mode (axisOf (learnLost s a) a) = .learn := by
    rw [axis]
    exact met
  have begins : spoilReturn (markDirty s a) a o = returnSpoilt s a o := takeMove_begins dirty
  have beginsLost : spoilReturn (markDirty (learnLost s a) a) a o = returnSpoilt (learnLost s a) a o :=
    takeMove_begins (by rw [axis]; exact dirty)
  have drive : (axisOf (returnSpoilt s a o) a).drive = (axisOf s a).drive := rfl
  have driveLost : (axisOf (returnSpoilt (learnLost s a) a o) a).drive = (axisOf s a).drive :=
    (congrArg AxisState.drive axis).trans (b := (learnLostAxis (axisOf s a)).drive) rfl
  have overtaken := takeOver_learning learning other
  unfold takeMove
  rw [begins, beginsLost, met, metLost]
  dsimp only
  rcases moves with e | e | e
  · rw [drive, driveLost, e]
    dsimp only
    rw [overtaken]
  · rw [drive, driveLost, e]
    dsimp only
    rw [overtaken]
  · have lost : (if Owner.learn = .learn ∧ o ≠ .learn then loseLearn (returnSpoilt s a o) a else returnSpoilt s a o) =
        returnSpoilt (learnLost s a) a o := (if_pos ⟨rfl, other⟩).trans (loseLearn_lost (s := returnSpoilt s a o) learning)
    have again : (if Owner.learn = .learn ∧ o ≠ .learn then loseLearn (returnSpoilt (learnLost s a) a o) a
        else returnSpoilt (learnLost s a) a o) = returnSpoilt (learnLost s a) a o :=
      (if_pos ⟨rfl, other⟩).trans (loseLearn_none ((congrArg AxisState.learn axis).trans rfl))
    rw [drive, driveLost, e]
    dsimp only
    rw [lost, again]

end

/-- Settles O27: the early end by drive state, and a learn run lost before its move ends or is taken over. -/
theorem movesEndEarly : Obligations.MovesEndEarly := by
  unfold Obligations.MovesEndEarly
  refine ⟨fun b s a r report => ?_, fun b s a r report o m => ?_⟩
  · intro x cf put told still learn
    refine ⟨fun drive => endMove_still learn drive, fun drive => endMove_waitGrant learn drive, fun drive none => ?_,
      fun drive none away => ?_, fun drive none shed move => ?_, fun p drive held => ?_⟩
    · exact (endMove_driving learn drive).trans (switchOff_releases none)
    · refine (endMove_coasting learn drive).trans (endCoasting_plain none fun kept => ?_)
      obtain ⟨shed, move, _⟩ := keptMove_iff.mp kept
      exact away.elim (fun other => other shed) fun gone => Bool.noConfusion (move.symm.trans (congrArg Option.isSome gone))
    · exact (endMove_coasting learn drive).trans (endCoasting_kept (keptMove_iff.mpr ⟨shed, move, none⟩))
    · exact (endMove_coasting learn drive).trans (endCoasting_pending held)
  · intro x lost record l moves learning met
    have seat : learnLost s a = l := rfl
    refine ⟨endMove_learning learning met, fun other dirty moving => takeMove_learning learning met other dirty moving, fun moving => ?_⟩
    intro y z
    have axis : axisOf (learnLost s a) a = lost := axisOf_learnLost
    have ended : y = (endMove b (learnLost s a) a .aborted report).1 := congrArg Prod.fst (endMove_learning learning met)
    obtain ⟨w, al, hy, confidence, low, high, learn, waits, coasts⟩ :=
      endMove_endsEarly (b := b) (s := learnLost s a) (a := a) (r := .aborted) (report := report)
        (by rw [axis]) (by rw [axis]; exact moving)
    rw [axis] at confidence low high learn waits coasts
    have hz : z = w := by
      change axisOf y a = w
      rw [ended, hy]
      exact axisOf_putAxis _ a w
    have parts : y = { putAxis (learnLost s a) a w with alloc := al } := ended.trans hy
    rw [hz]
    refine ⟨confidence, low, high, learn, ?_, ?_, waits, coasts⟩
    · rw [parts]
      rfl
    · rw [parts]
      rfl

/-! ### Grant and shed (R9, R18) -/

section
variable {b : Base} {s : Seat} {a : Axis}

theorem axisGranted_waits {m : Move} (drive : (axisOf s a).drive = .waitGrant) (move : (axisOf s a).move = some m) :
    axisGranted b s a =
      if atSoftLimit (b.cfg.axis.get a) (axisOf s a) m.dir then finishAtOnce s a .endStop true else done (startDrive b s a m) := by
  unfold axisGranted
  dsimp only
  rw [drive, move]

theorem axisGranted_other (drive : (axisOf s a).drive ≠ .waitGrant) : axisGranted b s a = (s, []) := by
  unfold axisGranted
  dsimp only
  split
  · exact absurd ‹_› drive
  · rfl

end

/-- Settles O28: a grant by the soft limit, a shed by the drive state. -/
theorem grantsDriveAndShedsCoast : Obligations.GrantsDriveAndShedsCoast := by
  unfold Obligations.GrantsDriveAndShedsCoast
  intro b s a x cf put
  refine ⟨fun m drive move => ⟨fun clear => ?_, fun limit => ?_⟩, axisGranted_other, fun drive => ?_, fun drive => ?_,
    fun notDriving notCoasting => ?_⟩
  · rw [axisGranted_waits drive move, show atSoftLimit (b.cfg.axis.get a) (axisOf s a) m.dir = false from clear]
    refine Prod.ext ?_ rfl
    change startDrive b s a m = putAxis s a { drivenAxis cf x m with move := x.move }
    have starts := startDrive_put (b := b) (s := s) (a := a) (x := x) m
    rw [show putAxis s a x = s from putAxis_axisOf] at starts
    rw [starts, show x.move = some m from move]
    rfl
  · have ends := finishAtOnce_put (s := s) (a := a) (x := x) (r := .endStop) (report := true) fun ⟨_, _, e⟩ => nomatch e
    rw [show putAxis s a x = s from putAxis_axisOf] at ends
    rw [axisGranted_waits drive move, show atSoftLimit (b.cfg.axis.get a) (axisOf s a) m.dir = true from limit, if_pos rfl]
    exact ends
  · unfold axisShed
    dsimp only
    rw [show (axisOf s a).drive = .driving from drive]
    rfl
  · unfold axisShed
    dsimp only
    rw [show (axisOf s a).drive = .coasting from drive]
    rfl
  · unfold axisShed
    dsimp only
    split
    · exact absurd ‹_› notDriving
    · exact absurd ‹_› notCoasting
    · rfl

end Sys2Proof.Machine
end

section
/-! SUPPORT. The events of a driving axis (01_axes_and_their_moves.md R3 to R6, R10 to R12, R15, R19, R21, R23, R24, R38): hall samples and
pulses, stalls, overcurrent, the expiry of a jog and the moments of the stagger window. -/
namespace Sys2Proof.Machine

/-! ### Pulses (R5, R6, R10) -/

section
variable {b : Base} {s : Seat} {a : Axis}

theorem doubt_eq (c : Confidence) : doubt c = if c = .learned then .suspect else c := by cases c <;> rfl

theorem saturates_iff {x : AxisState} :
    saturates x = true ↔ (x.driveDir = .up ∧ 16383 ≤ x.position) ∨ (x.driveDir = .down ∧ x.position = 0) := by
  unfold saturates
  cases x.driveDir with
  | up => exact decide_eq_true_iff.trans ⟨fun e => .inl ⟨rfl, e⟩, fun e => e.elim And.right fun down => nomatch down.1⟩
  | down => exact decide_eq_true_iff.trans ⟨fun e => .inr ⟨rfl, e⟩, fun e => e.elim (fun up => nomatch up.1) And.right⟩

/-- An axis after a pulse that is counted (R5). -/
def pulsedAxis (x : AxisState) : AxisState :=
  { x with
    confidence := if saturates x then doubt x.confidence else x.confidence
    position := if saturates x then x.position else counted x }

/-- The seat that a pulse leaves, the axis aside (R5). -/
def pulsedSeat (s : Seat) (a : Axis) : Seat := if saturates (axisOf s a) then post s .axisSuspect (.axis a) 0 else s

theorem countPulse_eq : countPulse s a = putAxis (pulsedSeat s a) a (pulsedAxis (axisOf s a)) := by
  unfold countPulse pulsedSeat pulsedAxis
  dsimp only
  cases saturates (axisOf s a) <;> rfl

theorem leadReached_iff {x : AxisState} {m : Move} :
    leadReached x m = true ↔ ∃ t, m.kind = .toTarget t ∧ remaining x m t ≤ (leadOf x m.dir : Int) := by
  unfold leadReached
  cases h : m.kind with
  | jog => exact ⟨fun e => Bool.noConfusion e, fun ⟨_, e, _⟩ => nomatch e⟩
  | toTarget t =>
    dsimp only
    rw [decide_eq_true_iff]
    exact ⟨fun e => ⟨t, rfl, e⟩, fun ⟨_, e, near⟩ => MoveKind.toTarget.inj e ▸ near⟩

theorem drivenPulse_put {y : AxisState} {m : Move} (move : y.move = some m) :
    drivenPulse b (putAxis s a y) a =
      let cf := b.cfg.axis.get a
      let z : AxisState := { y with stallLeft := some cf.stallTimeout }
      match switchOffTest cf z m with
      | some .lead => switchOff b (putAxis s a z) a .lead none true
      | some _ => switchOff b (putAxis s a z) a .limit (some .endStop) true
      | none => done (putAxis s a z) := by
  unfold drivenPulse
  dsimp only
  rw [axisOf_putAxis, putAxis_put, axisOf_putAxis]
  dsimp only
  rw [move] <;> rfl

theorem exec_acceptedPulse_works {s : State} (h : Works s) (there : present s.base.fit a = true) :
    exec (.acceptedPulse a) s = .next (actOn s (pulse s.base s.seat a)) :=
  axisEvent_works (can := fun _ => true) (f := fun b t => pulse b t a) h there rfl

theorem exec_rejectedLow_works {s : State} (h : Works s) (there : present s.base.fit a = true) :
    exec (.rejectedLow a) s = .next { s with seat := disturb s.base s.seat a } :=
  (axisEvent_works (can := fun _ => true) (f := fun b t => done (disturb b t a)) h there rfl).trans
    (congrArg Host.Outcome.next (actOn_done s _))

theorem exec_acceptedPulse_driving {s : State} {m : Move} (h : Works s) (there : present s.base.fit a = true)
    (drive : (axisOf s.seat a).drive = .driving) (move : (axisOf s.seat a).move = some m) :
    exec (.acceptedPulse a) s =
      let cf := s.base.cfg.axis.get a
      let z : AxisState := { pulsedAxis (axisOf s.seat a) with stallLeft := some cf.stallTimeout }
      .next (actOn s
        (match switchOffTest cf z m with
        | some .lead => switchOff s.base (putAxis (pulsedSeat s.seat a) a z) a .lead none true
        | some _ => switchOff s.base (putAxis (pulsedSeat s.seat a) a z) a .limit (some .endStop) true
        | none => done (putAxis (pulsedSeat s.seat a) a z))) := by
  rw [exec_acceptedPulse_works h there, pulse, drive, countPulse_eq]
  dsimp only
  rw [drivenPulse_put (y := pulsedAxis (axisOf s.seat a)) move]

end

/-- Settles O29: a pulse by the drive state, the switch-off test after it is counted, and a disturbance by the limit. -/
theorem pulsesCountAndRejectedLowsDisturb : Obligations.PulsesCountAndRejectedLowsDisturb := by
  unfold Obligations.PulsesCountAndRejectedLowsDisturb
  refine ⟨fun s a h there => ?_, fun s a h there => ?_⟩
  · intro x cf put atEnd seen moved off
    have seat : seen = pulsedSeat s.seat a := ite_congr (propext saturates_iff.symm) (fun _ => rfl) (fun _ => rfl)
    have axis : moved = pulsedAxis x := by
      by_cases full : atEnd
      · have sat := saturates_iff.mpr full
        refine (if_pos full).trans ?_
        unfold pulsedAxis
        rw [if_pos sat, if_pos sat, doubt_eq]
      · have sat : ¬ saturates x = true := fun e => full (saturates_iff.mp e)
        refine (if_neg full).trans ?_
        unfold pulsedAxis
        rw [if_neg sat, if_neg sat]
        have room : counted x = (match x.driveDir with | .up => x.position + 1 | .down => x.position - 1) := by
          unfold counted
          cases dir : x.driveDir with
          | up =>
            have : ¬ 16383 ≤ x.position := fun e => full (.inl ⟨dir, e⟩)
            change min 16383 (x.position + 1) = x.position + 1
            omega
          | down => rfl
        rw [room] <;> rfl
    have written (y : AxisState) : put y (pulsedSeat s.seat a) = putAxis (pulsedSeat s.seat a) a y := by
      have axes : (pulsedSeat s.seat a).axes = s.seat.axes := by
        unfold pulsedSeat
        split <;> rfl
      unfold putAxis
      rw [axes]
    rw [seat, axis]
    refine ⟨fun notDriving notCoasting => ?_, fun drive => ?_, fun m drive pending move => ?_⟩
    · rw [exec_acceptedPulse_works h there, exec_rejectedLow_works h there, pulse]
      split
      · exact absurd ‹_› notDriving
      · exact absurd ‹_› notCoasting
      · rw [actOn_done]
    · rw [exec_acceptedPulse_works h there, pulse, show (axisOf s.seat a).drive = .coasting from drive]
      dsimp only
      rw [actOn_done, countPulse_eq, written]
    · obtain ⟨kind, dir, expiry⟩ := m
      intro y lead leads
      have acts := exec_acceptedPulse_driving h there drive move
      dsimp only at acts
      have reached : leadReached y ⟨kind, dir, expiry⟩ = true ↔ leads := by
        refine leadReached_iff.trans (exists_congr fun t => and_congr_right fun _ => ?_)
        cases dir <;> exact Iff.rfl
      have switches {c : Cause} {r : Option MoveResult}
          (e : exec (.acceptedPulse a) s = .next (actOn s (switchOff s.base (putAxis (pulsedSeat s.seat a) a y) a c r true))) :
          exec (.acceptedPulse a) s = .next (actOn s
            ((releaseClaim (put (coasting cf y c r true) seen) (.axis a)).1,
              (releaseClaim (put (coasting cf y c r true) seen) (.axis a)).2 ++ coastTasks cf a)) := by
        rw [seat, written, e, switchOff_releases (x := y) pending]
      refine ⟨fun leading => ?_, fun away limit => ?_, fun away clear => ?_⟩
      · have test : switchOffTest cf y ⟨kind, dir, expiry⟩ = some .lead := if_pos (reached.mpr leading)
        rw [test] at acts
        exact switches acts
      · have test : switchOffTest cf y ⟨kind, dir, expiry⟩ = some .limit := (if_neg fun e => away (reached.mp e)).trans (if_pos limit)
        rw [test] at acts
        exact switches acts
      · have test : switchOffTest cf y ⟨kind, dir, expiry⟩ = none :=
          (if_neg fun e => away (reached.mp e)).trans (if_neg (Bool.eq_false_iff.mp clear))
        rw [test] at acts
        rw [acts, written]
        exact congrArg Host.Outcome.next (actOn_done s _)
  · intro x limit put n
    rw [exec_rejectedLow_works h there]
    unfold disturb
    refine ⟨fun at_ room learned => ?_, fun other => ?_⟩
    · dsimp only
      rw [if_pos ⟨at_, room, learned⟩]
      rfl
    · dsimp only
      rw [if_neg]
      · rfl
      · rintro ⟨at_, room, learned⟩
        rcases other with ne | full | ne
        · exact ne at_
        · exact absurd room (Nat.not_lt.mpr full)
        · exact ne learned

/-! ### Hall samples (R3, R4) -/

theorem hallRun_eq (h : Hall) (high : Bool) :
    hallRun h high =
      if (h.accepted = .high ∧ high = true) ∨ (h.accepted = .low ∧ high = false) then 0
      else if h.runLength ≠ 0 ∧ h.runHigh = high then h.runLength + 1 else 1 := by
  have agrees : levelIs h.accepted high = true ↔ (h.accepted = .high ∧ high = true) ∨ (h.accepted = .low ∧ high = false) := by
    cases h.accepted <;> cases high <;> decide
  exact ite_congr (propext agrees) (fun _ => rfl) (fun _ => rfl)

/-- The low measured at a sample (R4). -/
def lowSoFar (h : Hall) : Nat := if h.accepted = .low then h.lowMicros + h.spacing else 0

theorem hallStep_eq (interval minLow : Nat) (h : Hall) (high : Bool) :
    hallStep interval minLow h high =
      ({ accepted := if hallRun h high < 3 then h.accepted else if high = true then .high else .low
         runHigh := high
         runLength := if hallRun h high < 3 then hallRun h high else 0
         lowMicros := if hallRun h high < 3 then lowSoFar h else 0
         spacing := interval },
        if hallRun h high < 3 ∨ high = false ∨ h.accepted ≠ .low then .nothing
        else if minLow ≤ lowSoFar h then .pulse else .rejected) := by
  unfold hallStep lowSoFar
  dsimp only
  by_cases short : hallRun h high < 3
  · simp only [short, if_true, true_or]
  · cases high with
    | false => simp only [short, if_false, if_true, or_true, true_or, Bool.false_eq_true]
    | true =>
      unfold judgeLow
      simp only [short, if_false, if_true, false_or, Bool.true_eq_false]
      cases h.accepted <;> simp only [ne_eq, not_true_eq_false, not_false_eq_true, reduceCtorEq, if_true, if_false]

theorem exec_hallSample_works {s : State} {a : Axis} {high : Bool} (h : Works s) (there : present s.base.fit a = true) :
    exec (.hallSample a high) s = .next (hallSample a high s) := by
  change execHallSample a high s = _
  unfold execHallSample wholeEvent
  rw [if_pos there, if_pos (show running s.base.power = true from h)]

/-- Settles O30: the sample accepts or not, and a low that ends is handed to the axis as its own event would. -/
theorem hallSamplesAcceptLevels : Obligations.HallSamplesAcceptLevels := by
  unfold Obligations.HallSamplesAcceptLevels
  intro s a high works there h cf low agrees run after t
  have stepped := hallStep_eq cf.hallInterval cf.minLowWidth h high
  rw [hallRun_eq] at stepped
  have worksT : Works t := works
  have sampled : hallSample a high s =
      actOn t (hallHands (if run < 3 ∨ high = false ∨ h.accepted ≠ .low then .nothing
        else if cf.minLowWidth ≤ low then .pulse else .rejected) a s.base s.seat) := by
    unfold hallSample
    dsimp only
    rw [stepped]
    rfl
  rw [exec_hallSample_works works there, sampled]
  refine ⟨fun quiet => ?_, fun long rises wasLow wide => ?_, fun long rises wasLow narrow => ?_⟩
  · rw [if_pos quiet]
    exact congrArg Host.Outcome.next (actOn_done t s.seat)
  all_goals
    have ends : ¬ (run < 3 ∨ high = false ∨ h.accepted ≠ .low) := by
      rintro (short | falls | other)
      · exact absurd short (Nat.not_lt.mpr long)
      · exact Bool.noConfusion (rises.symm.trans falls)
      · exact other wasLow
  · rw [if_neg ends, if_pos wide, exec_acceptedPulse_works worksT there]
    rfl
  · rw [if_neg ends, if_neg (Nat.not_le.mpr narrow), exec_rejectedLow_works worksT there]
    exact congrArg Host.Outcome.next (actOn_done t _)

/-! ### Stalls (R11, R15, R23, R24) -/

section
variable {s : Seat} {a : Axis}

theorem exec_stall_works {s : State} (h : Works s) (there : present s.base.fit a = true)
    (drive : (axisOf s.seat a).drive = .driving) (runs : (axisOf s.seat a).stallLeft.isSome = true) :
    exec (.stall a) s = .next (actOn s (stalled s.base s.seat a)) :=
  axisEvent_works (can := fun x => isDriving x && x.stallLeft.isSome) (f := fun b t => stalled b t a) h there
    (Bool.and_eq_true_iff.mpr ⟨decide_eq_true drive, runs⟩)

theorem classifyStall_anchors {b : Base} {stop : Nat} (known : (axisOf s a).confidence ≠ .unlearned)
    (h : stallAnchor (b.cfg.axis.get a) (axisOf s a) = some stop) : classifyStall b s a = (anchor s a stop, .endStop) := by
  unfold classifyStall
  dsimp only
  rw [if_neg known, h]

theorem classifyStall_obstacle {b : Base} (known : (axisOf s a).confidence ≠ .unlearned)
    (h : stallAnchor (b.cfg.axis.get a) (axisOf s a) = none) :
    classifyStall b s a = (post s .axisObstacle (.axis a) (toWord (axisOf s a).position), .obstacle) := by
  unfold classifyStall
  dsimp only
  rw [if_neg known, h]

/-- Where a stall anchors the axis, by confidence and direction (R15). -/
theorem stallAnchor_learned_up {cf : AxisSettings} {x : AxisState} {high : Nat} (c : x.confidence = .learned) (d : x.driveDir = .up)
    (h : x.highStop = some high) : stallAnchor cf x = if high ≤ x.position + cf.endWindow then some high else none := by
  unfold stallAnchor
  rw [c, d, h]

theorem stallAnchor_learned_down {cf : AxisSettings} {x : AxisState} {low : Nat} (c : x.confidence = .learned) (d : x.driveDir = .down)
    (h : x.lowStop = some low) : stallAnchor cf x = if x.position ≤ low + cf.endWindow then some low else none := by
  unfold stallAnchor
  rw [c, d, h]

theorem stallAnchor_suspect_down {cf : AxisSettings} {x : AxisState} (c : x.confidence = .suspect) (d : x.driveDir = .down)
    (low : x.lowStop.isSome = true) (high : x.highStop.isSome = true) :
    stallAnchor cf x = if x.position ≤ 256 + cf.suspectWindow then some 256 else none := by
  obtain ⟨l, hl⟩ := Option.isSome_iff_exists.mp low
  obtain ⟨h, hh⟩ := Option.isSome_iff_exists.mp high
  unfold stallAnchor
  rw [c, d, hl, hh]
  rfl

theorem stallAnchor_suspect_up {cf : AxisSettings} {x : AxisState} (c : x.confidence = .suspect) (d : x.driveDir = .up) :
    stallAnchor cf x = none := by
  unfold stallAnchor
  rw [c, d]

/-- A failed learn run: its stops are lost, its record is queued, and LEARN_FAILED is posted. -/
theorem failLearn_eq (detail : Nat) (learning : (axisOf s a).learn ≠ .none) :
    failLearn s a detail = post (learnLost s a) .learnFailed (.axis a) (toWord detail) := by
  rw [failLearn, loseLearn_lost learning]

end

/-- Settles O31: the judgement of the stall, and then the switch-off with cause STALL. -/
theorem stallsAreClassified : Obligations.StallsAreClassified := by
  unfold Obligations.StallsAreClassified
  intro s a h there x cf drive runs pending put ends anchored obstacle lost fails
  have stalls {y : AxisState} {r : MoveResult} {t : Seat} (none : y.pending = none) (axes : t.axes = s.seat.axes)
      (judged : (if (axisOf s.seat a).learn = .none then classifyStall s.base s.seat a else learnStall s.base s.seat a) =
        (putAxis t a y, r)) : ends y r t := by
    have written (z : AxisState) : put z t = putAxis t a z := by
      unfold putAxis
      rw [axes]
    refine (exec_stall_works h there drive runs).trans ?_
    unfold stalled
    dsimp only
    rw [judged, switchOff_releases (x := y) none, written]
    rfl
  have self (t : Seat) (axes : t.axes = s.seat.axes) : putAxis t a x = t := by
    have same : axisOf t a = x := by rw [axisOf, axes]; rfl
    rw [← same]
    exact putAxis_axisOf
  refine ⟨fun plain => ?_, fun low => ?_, fun high => ?_, fun settle => ?_⟩
  · have judge {v : Seat × MoveResult} (e : classifyStall s.base s.seat a = v) :
        (if (axisOf s.seat a).learn = .none then classifyStall s.base s.seat a else learnStall s.base s.seat a) = v :=
      (if_pos plain).trans e
    have hits (known : x.confidence ≠ .unlearned) (free : stallAnchor cf x = none) : obstacle :=
      stalls pending rfl (judge ((classifyStall_obstacle known free).trans (congrArg (Prod.mk · _)
        (self (post s.seat .axisObstacle (.axis a) (toWord x.position)) rfl).symm)))
    have anchorsLearned {stop : Nat} (learned : x.confidence = .learned) (at_ : stallAnchor cf x = some stop) : anchored stop x := by
      refine stalls pending rfl (judge ((classifyStall_anchors (by rw [learned]; exact Confidence.noConfusion) at_).trans ?_))
      refine congrArg (Prod.mk · _) ?_
      unfold anchor
      dsimp only
      rw [if_neg (by rw [show (axisOf s.seat a).confidence = .learned from learned]; exact Confidence.noConfusion)]
      rfl
    refine ⟨fun unlearned => ?_, fun high learned up stop => ⟨fun near => ?_, fun far => ?_⟩,
      fun low learned down stop => ⟨fun near => ?_, fun far => ?_⟩, fun suspect down low high => ⟨fun near => ?_, fun far => ?_⟩,
      fun suspect up => ?_⟩
    · refine stalls pending rfl (judge ?_)
      refine (if_pos unlearned).trans (congrArg (Prod.mk · _) (self _ rfl).symm)
    · exact anchorsLearned learned ((stallAnchor_learned_up learned up stop).trans (if_pos near))
    · exact hits (by rw [learned]; exact Confidence.noConfusion)
        ((stallAnchor_learned_up learned up stop).trans (if_neg (Nat.not_le.mpr far)))
    · exact anchorsLearned learned ((stallAnchor_learned_down learned down stop).trans (if_pos near))
    · exact hits (by rw [learned]; exact Confidence.noConfusion)
        ((stallAnchor_learned_down learned down stop).trans (if_neg (Nat.not_le.mpr far)))
    · have at_ : stallAnchor cf x = some 256 := (stallAnchor_suspect_down suspect down low high).trans (if_pos near)
      refine stalls pending rfl (judge ((classifyStall_anchors (by rw [suspect]; exact Confidence.noConfusion) at_).trans ?_))
      refine congrArg (Prod.mk · _) ?_
      unfold anchor
      dsimp only
      rw [if_pos (show (axisOf s.seat a).confidence = .suspect from suspect)]
      rfl
    · exact hits (by rw [suspect]; exact Confidence.noConfusion)
        ((stallAnchor_suspect_down suspect down low high).trans (if_neg (Nat.not_le.mpr far)))
    · exact hits (by rw [suspect]; exact Confidence.noConfusion) (stallAnchor_suspect_up suspect up)
  all_goals
    have judge {v : Seat × MoveResult} {p : LearnPhase} (phase : x.learn = p) (other : p ≠ .none)
        (e : learnStall s.base s.seat a = v) :
        (if (axisOf s.seat a).learn = .none then classifyStall s.base s.seat a else learnStall s.base s.seat a) = v :=
      (if_neg (by rw [show (axisOf s.seat a).learn = p from phase]; exact other)).trans e
    have fail {p : LearnPhase} {r : MoveResult} (d : Nat) (phase : x.learn = p) (other : p ≠ .none)
        (e : learnStall s.base s.seat a = (failLearn s.seat a d, r)) : fails r (toWord d) := by
      refine stalls pending rfl (judge phase other (e.trans (congrArg (Prod.mk · _) ?_)))
      rw [failLearn_eq d (by rw [show (axisOf s.seat a).learn = p from phase]; exact other)]
      rfl
  · refine stalls pending rfl (judge low LearnPhase.noConfusion ?_)
    unfold learnStall
    dsimp only
    rw [show (axisOf s.seat a).learn = .low from low]
    rfl
  · have stall : learnStall s.base s.seat a =
        if x.position < lowStopPosition + cf.minTravel then (failLearn s.seat a 0, .endStop)
        else (putAxis s.seat a { x with highStop := some x.position }, .endStop) := by
      unfold learnStall
      dsimp only
      rw [show (axisOf s.seat a).learn = .high from high]
    refine ⟨fun far => ?_, fun short => ?_⟩
    · exact stalls pending rfl (judge high LearnPhase.noConfusion (stall.trans (if_neg (Nat.not_lt.mpr far))))
    · exact fail 0 high LearnPhase.noConfusion (stall.trans (if_pos short))
  · refine fail 1 settle LearnPhase.noConfusion ?_
    unfold learnStall
    dsimp only
    rw [show (axisOf s.seat a).learn = .settle from settle]

/-! ### Overcurrent (R19, R24) -/

section
variable {s : Seat} {a : Axis}

/-- An axis in FAULT after an overcurrent (R19). -/
def faultedAxis (x : AxisState) : AxisState :=
  { toIdle x with drive := .fault, lastResult := some .fault, confidence := doubt x.confidence }

/-- The seat after an overcurrent, before the claim is released: FAULT, its notice, and a learn run that is lost. -/
def faultedSeat (s : Seat) (a : Axis) : Seat :=
  post (putAxis s a (faultedAxis (axisOf s a))) .axisFault (.axis a) (toWord (axisOf s a).position)

theorem overcurrent_plain (h : (axisOf s a).learn = .none) :
    overcurrent s a =
      ((releaseClaim (faultedSeat s a) (.axis a)).1,
        (releaseClaim (faultedSeat s a) (.axis a)).2 ++ [.moveEnded a (axisOf s a).owner .fault]) := by
  unfold overcurrent
  dsimp only
  rw [if_pos h]
  rfl

theorem overcurrent_learning (h : (axisOf s a).learn ≠ .none) :
    overcurrent s a =
      let t := post (learnLost (faultedSeat s a) a) .learnFailed (.axis a) 2
      ((releaseClaim t (.axis a)).1, (releaseClaim t (.axis a)).2 ++ [.moveEnded a (axisOf s a).owner .fault]) := by
  have axis : axisOf (faultedSeat s a) a = faultedAxis (axisOf s a) := axisOf_putAxis s a _
  have failed : failLearn (faultedSeat s a) a 2 = post (learnLost (faultedSeat s a) a) .learnFailed (.axis a) 2 :=
    failLearn_eq 2 (by rw [axis]; exact h)
  unfold overcurrent
  dsimp only
  rw [if_neg h]
  exact congrArg (fun t => ((releaseClaim t (.axis a)).1,
    (releaseClaim t (.axis a)).2 ++ [Task.moveEnded a (axisOf s a).owner .fault])) failed

end

theorem exec_overcurrent_works {s : State} {a : Axis} (h : Works s) (there : present s.base.fit a = true)
    (drive : (axisOf s.seat a).drive = .driving) (watched : (axisOf s.seat a).blankLeft = none) :
    exec (.overcurrent a) s = .next (actOn s (overcurrent s.seat a)) :=
  axisEvent_works (can := fun x => isDriving x && x.blankLeft.isNone) (f := fun _ t => overcurrent t a) h there
    (Bool.and_eq_true_iff.mpr ⟨decide_eq_true drive, by rw [watched]; rfl⟩)

/-- Settles O35: the watch of the comparator, and FAULT at the end of its measurement. -/
theorem overcurrentFaultsTheAxis : Obligations.OvercurrentFaultsTheAxis := by
  unfold Obligations.OvercurrentFaultsTheAxis
  intro s a asserted h there x put
  refine ⟨fun drive blank => ?_, fun changed => ?_, fun drive watched => ?_⟩
  · refine (axisEvent_works (can := fun x => isDriving x && x.blankLeft.isSome) (f := fun _ t => done (endBlanking t a)) h there
      (Bool.and_eq_true_iff.mpr ⟨decide_eq_true drive, blank⟩)).trans ?_
    exact congrArg Host.Outcome.next (actOn_done s _)
  · intro on y
    have measured : (isDriving x && x.blankLeft.isNone && asserted) = true ↔ on := by
      simp only [Bool.and_eq_true_iff, isDriving, decide_eq_true_iff, Option.isNone_iff_eq_none, and_assoc]
      rfl
    refine (axisEvent_works (can := fun x => x.comparator ≠ asserted) (f := fun _ t => done (setComparator t a asserted)) h there
      (decide_eq_true changed)).trans ((congrArg Host.Outcome.next (actOn_done s _)).trans ?_)
    unfold setComparator
    dsimp only
    rw [show (if (isDriving (axisOf s.seat a) && (axisOf s.seat a).blankLeft.isNone && asserted) = true then some overcurrentTime
      else none) = if on then some 2 else none from ite_congr (propext measured) (fun _ => rfl) (fun _ => rfl)]
    rfl
  · intro y lost posted ends
    have axis : faultedAxis x = y := by
      unfold faultedAxis
      rw [doubt_eq]
      rfl
    have seat : faultedSeat s.seat a = put y posted := by
      rw [← axis]
      rfl
    refine ⟨fun plain => ?_, fun learning => ?_⟩
    · refine (exec_overcurrent_works h there drive watched).trans ?_
      rw [overcurrent_plain plain, seat]
    · intro q
      have failed : learnLost (faultedSeat s.seat a) a = q := by
        have held : axisOf (put y posted) a = y := axisOf_putAxis s.seat a y
        rw [seat, learnLost, held]
        unfold putAxis
        rw [show (put y posted).axes = s.seat.axes.set a y from rfl, set_set_axis]
        rfl
      refine (exec_overcurrent_works h there drive watched).trans ?_
      rw [overcurrent_learning learning, failed]

/-! ### The expiry of a jog, and the stagger window (R21, R38) -/

/-- Settles O36: each moment of its timer, when the timer runs. -/
theorem jogExpiryAndStaggerWindow : Obligations.JogExpiryAndStaggerWindow := by
  unfold Obligations.JogExpiryAndStaggerWindow
  intro s a h x
  have expires (there : present s.base.fit a = true) (runs : jogRuns x = true) :
      exec (.jogExpiry a) s = .next (actOn s (endMove s.base s.seat a .reached false)) :=
    axisEvent_works (can := jogRuns) (f := fun b t => endMove b t a .reached false) h there runs
  refine ⟨fun m there none link move runs => expires there ?_, fun p there held link runs => expires there ?_,
    fun w window => ⟨?_, fun ahead inside => ?_⟩⟩
  · unfold jogRuns
    rw [none, link, move]
    exact runs
  · unfold jogRuns
    rw [held]
    exact Bool.and_eq_true_iff.mpr ⟨decide_eq_true link, runs⟩
  · exact eventIf_works (f := fun _ t => ({ t with alloc := { t.alloc with stagger := none } }, [.pass])) h (by rw [window]; rfl)
  · intro passed
    have can : bracePointAhead s.seat.alloc.stagger = true := by
      rw [window]
      exact Bool.and_eq_true_iff.mpr ⟨by rw [ahead]; rfl, decide_eq_true inside⟩
    refine (eventIf_works (f := fun _ t => ({ t with alloc := { t.alloc with stagger := t.alloc.stagger.map passBracePoint } }, [.pass]))
      h can).trans ?_
    dsimp only
    rw [window]
    rfl

end Sys2Proof.Machine
end

section
/-! SUPPORT. The end of a Coast window (01_axes_and_their_moves.md R13, R14, R18, R23, R24): what it writes of the move that ended, the move
that follows, and the phases of a learn run. -/
namespace Sys2Proof.Machine

/-! ### The outcome of a coast (R13 steps 1 to 3, R14) -/

theorem judged_eq (cf : AxisSettings) (x : AxisState) (t : Nat) :
    judged cf x t = if x.position ≤ t + cf.onTarget ∧ t ≤ x.position + cf.onTarget then .reached else .missed :=
  ite_congr (propext onTarget_iff) (fun _ => rfl) (fun _ => rfl)

theorem coastOutcome_lead {cf : AxisSettings} {x : AxisState} {t : Nat} {d : Dir} {e : Option Nat} (cause : x.cause = some .lead)
    (move : x.move = some { kind := .toTarget t, dir := d, expiry := e }) :
    coastOutcome cf x =
      (adaptLead x { kind := .toTarget t, dir := d, expiry := e } t,
        some (x.coastResult.getD
          (if x.position ≤ t + cf.onTarget ∧ t ≤ x.position + cf.onTarget then .reached else .missed))) := by
  rw [← judged_eq]
  unfold coastOutcome
  rw [cause, move]

theorem coastOutcome_other {cf : AxisSettings} {x : AxisState} (cause : x.cause ≠ some .lead) :
    coastOutcome cf x = (x, x.coastResult) := by
  unfold coastOutcome
  split
  · exact absurd ‹_› cause
  · rfl

/-- A coast adapts the leads of its axis, and nothing else of it. -/
theorem adaptLead_leads (x : AxisState) (m : Move) (t : Nat) : ∃ up down, adaptLead x m t = { x with leadUp := up, leadDown := down } := by
  unfold adaptLead
  split
  · exact ⟨_, x.leadDown, rfl⟩
  · exact ⟨x.leadUp, _, rfl⟩

/-! ### What follows a coast (R13 steps 4 to 6) -/

/-- An axis after its coast, with the result of the coast written. -/
def coastWritten (x y : AxisState) (r : Option MoveResult) : AxisState :=
  { y with lastResult := if r.isSome then r else x.lastResult }

/-- What the owner of the ended move is told (R13 step 3). -/
def coastTold (a : Axis) (x : AxisState) (r : Option MoveResult) : List Task :=
  match r with
  | some v => reportIf x.coastReport a x.owner v
  | none => []

/-- The axis that starts the move which follows a coast. -/
def followed (x : AxisState) (o : Owner) : AxisState :=
  { x with owner := o, pending := none, coastLeft := none, coastReport := false, coastResult := none }

section
variable {b : Base} {s : Seat} {a : Axis} {y : AxisState} {r : Option MoveResult}

theorem startPending_put {x : AxisState} {o : Owner} {m : Move} :
    startPending b (putAxis s a x) a o m = prepare b (putAxis s a (followed x o)) a m := by
  unfold startPending
  dsimp only
  rw [axisOf_putAxis, putAxis_put]
  rfl

theorem endCoast_pending {p : Pending} (drive : (axisOf s a).drive = .coasting)
    (out : coastOutcome (b.cfg.axis.get a) (axisOf s a) = (y, r)) (held : y.pending = some p) :
    endCoast b s a =
      let z := prepare b (putAxis s a (followed (coastWritten (axisOf s a) y r) p.owner)) a p.move
      (z.1, coastTold a (axisOf s a) r ++ z.2) := by
  unfold endCoast
  dsimp only
  rw [if_neg (not_not.mpr drive), out]
  dsimp only
  split
  case h_1 q e =>
    cases held.symm.trans e
    rw [startPending_put]
    rfl
  case h_2 e => exact nomatch held.symm.trans e

theorem endCoast_kept {m : Move} (drive : (axisOf s a).drive = .coasting)
    (out : coastOutcome (b.cfg.axis.get a) (axisOf s a) = (y, r)) (noPending : y.pending = none) (kept : keptMove (axisOf s a) = true)
    (move : y.move = some m) :
    endCoast b s a =
      let z := prepare b (putAxis s a (followed (coastWritten (axisOf s a) y r) y.owner)) a (aimed y m)
      (z.1, coastTold a (axisOf s a) r ++ z.2) := by
  unfold endCoast
  dsimp only
  rw [if_neg (not_not.mpr drive), out]
  dsimp only
  split
  case h_1 q e => exact nomatch noPending.symm.trans e
  case h_2 =>
    rw [if_pos kept]
    split
    case h_1 n e =>
      cases move.symm.trans e
      rw [startPending_put]
      rfl
    case h_2 e => exact nomatch move.symm.trans e

theorem endCoast_phase {phase : LearnPhase} {m : Move} (drive : (axisOf s a).drive = .coasting)
    (out : coastOutcome (b.cfg.axis.get a) (axisOf s a) = (y, r)) (noPending : y.pending = none) (gone : ¬ keptMove (axisOf s a) = true)
    (next : nextPhase (b.cfg.axis.get a) (coastWritten (axisOf s a) y r) = some (phase, m)) :
    endCoast b s a =
      let z := prepare b (putAxis s a (followed { coastWritten (axisOf s a) y r with learn := phase } .learn)) a m
      (z.1, coastTold a (axisOf s a) r ++ z.2) := by
  unfold endCoast
  dsimp only
  rw [if_neg (not_not.mpr drive), out]
  dsimp only
  split
  case h_1 q e => exact nomatch noPending.symm.trans e
  case h_2 =>
    rw [if_neg gone]
    split
    case h_1 ph n e =>
      cases next.symm.trans e
      rw [putAxis_put, startPending_put]
      rfl
    case h_2 e => exact nomatch next.symm.trans e

theorem endCoast_idle (drive : (axisOf s a).drive = .coasting)
    (out : coastOutcome (b.cfg.axis.get a) (axisOf s a) = (y, r)) (noPending : y.pending = none) (gone : ¬ keptMove (axisOf s a) = true)
    (next : nextPhase (b.cfg.axis.get a) (coastWritten (axisOf s a) y r) = none) :
    endCoast b s a = (coastToIdle (putAxis s a (coastWritten (axisOf s a) y r)) a, coastTold a (axisOf s a) r) := by
  unfold endCoast
  dsimp only
  rw [if_neg (not_not.mpr drive), out]
  dsimp only
  split
  case h_1 q e => exact nomatch noPending.symm.trans e
  case h_2 =>
    rw [if_neg gone]
    split
    case h_1 ph n e => exact nomatch next.symm.trans e
    case h_2 => exact Prod.ext rfl (List.append_nil _)

theorem coastToIdle_put {x : AxisState} (plain : ¬ (x.owner = .learn ∧ x.learn = .settle ∧ x.cause = some .lead)) :
    coastToIdle (putAxis s a x) a = putAxis s a (toIdle x) := by
  unfold coastToIdle
  dsimp only
  rw [axisOf_putAxis, if_neg plain, axisOf_putAxis, putAxis_put]

theorem exec_coastWindowEnd_works {s : State} (h : Works s) (there : present s.base.fit a = true)
    (drive : (axisOf s.seat a).drive = .coasting) :
    exec (.coastWindowEnd a) s = .next (actOn s (endCoast s.base s.seat a)) :=
  axisEvent_works (can := fun x => x.drive = .coasting) (f := fun b t => endCoast b t a) h there (decide_eq_true drive)

theorem nextPhase_none {cf : AxisSettings} {x : AxisState} (h : x.learn = .none ∨ x.learn = .settle) : nextPhase cf x = none := by
  unfold nextPhase
  rcases h with e | e <;> rw [e]

end

/-- Settles O32: with no move left the axis is idle; a LEAD coast is judged, another has its result already. -/
theorem coastsEndInIdle : Obligations.CoastsEndInIdle := by
  unfold Obligations.CoastsEndInIdle
  intro s a h there x cf drive noPending learn ends
  have idles {y : AxisState} {r : MoveResult} {up down : Nat} (hy : y = { x with leadUp := up, leadDown := down })
      (out : coastOutcome cf x = (y, some r)) (gone : ¬ keptMove x = true) : ends y r := by
    subst hy
    refine (exec_coastWindowEnd_works h there drive).trans ?_
    rw [endCoast_idle drive out noPending gone (nextPhase_none (.inl learn)),
      coastToIdle_put (x := coastWritten x { x with leadUp := up, leadDown := down } (some r))
        fun c => nomatch learn.symm.trans c.2.1]
    rfl
  refine ⟨fun t e d cause move => ?_, fun r cause result => ?_⟩
  · intro past lead judged r
    have out := coastOutcome_lead (cf := cf) cause move
    have early : x.coastResult.getD judged = r := by
      change x.coastResult.getD judged = match x.coastResult with | some early => early | none => judged
      cases x.coastResult <;> rfl
    rw [show (if x.position ≤ t + cf.onTarget ∧ t ≤ x.position + cf.onTarget then MoveResult.reached else .missed) = judged from rfl,
      early] at out
    have gone : ¬ keptMove x = true := fun kept => nomatch cause.symm.trans (keptMove_iff.mp kept).1
    refine ⟨fun up => ?_, fun down => ?_⟩
    · subst up
      exact idles rfl out gone
    · subst down
      exact idles rfl out gone
  · have notLead : x.cause ≠ some .lead := by
      rcases cause with e | e | e | ⟨e, _⟩ <;> rw [e] <;> exact fun c => nomatch c
    have gone : ¬ keptMove x = true := fun kept => by
      obtain ⟨shed, move, _⟩ := keptMove_iff.mp kept
      rcases cause with e | e | e | ⟨_, e⟩
      · exact nomatch e.symm.trans shed
      · exact nomatch e.symm.trans shed
      · exact nomatch e.symm.trans shed
      · exact Bool.noConfusion (move.symm.trans (congrArg Option.isSome e))
    exact idles rfl ((coastOutcome_other notLead).trans (by rw [result])) gone

/-- Settles O33: the outcome of the coast, then the preparation of the move that follows. -/
theorem coastsStartTheNextMove : Obligations.CoastsStartTheNextMove := by
  unfold Obligations.CoastsStartTheNextMove
  intro s a m o y r h there x cf drive outcome next follows
  obtain ⟨out, leads⟩ : coastOutcome cf x = (y, r) ∧ ∃ up down, y = { x with leadUp := up, leadDown := down } := by
    rcases outcome with ⟨other, hy, hr⟩ | ⟨t, d, e, cause, move, hy, hr⟩
    · exact ⟨by rw [coastOutcome_other other, hy, hr], x.leadUp, x.leadDown, hy⟩
    · have adapted : y = adaptLead x { kind := .toTarget t, dir := d, expiry := e } t := by
        rw [hy]
        cases d <;> rfl
      exact ⟨by rw [coastOutcome_lead cause move, adapted, hr], adapted ▸ adaptLead_leads x _ t⟩
  obtain ⟨up, down, rfl⟩ := leads
  intro told ready put waits
  let w : AxisState := followed (coastWritten x { x with leadUp := up, leadDown := down } r) o
  have starts : exec (.coastWindowEnd a) s =
      .next (actOn s ((prepare s.base (putAxis s.seat a w) a next).1, told ++ (prepare s.base (putAxis s.seat a w) a next).2)) := by
    refine (exec_coastWindowEnd_works h there drive).trans (congrArg (fun z => Host.Outcome.next (actOn s z)) ?_)
    rcases follows with ⟨held, rfl⟩ | ⟨none, move, owner, shed, rfl⟩
    · exact endCoast_pending drive out held
    · have kept : keptMove x = true := keptMove_iff.mpr ⟨shed, by rw [move]; rfl, none⟩
      subst owner
      exact endCoast_kept drive out none kept move
  refine ⟨fun v ends plain => ?_, fun ends granted => ?_, fun ends ungranted pending => ?_, fun ends free queued other => ?_,
    fun ends free now => ?_⟩
  · intro still
    have unlearned : ¬ (w.owner = .learn ∧ w.learn = .settle ∧ v = .reached) := fun ⟨learn, settle, reached⟩ => by
      rcases plain with ne | ne | ne
      · exact ne settle
      · exact ne learn
      · exact ne reached
    rw [starts, prepare_ends (x := w) ends unlearned, ← List.append_assoc]
    rfl
  · rw [starts, prepare_drives (x := w) ends granted]
    exact congrArg (fun l => Host.Outcome.next (actOn s (_, l))) (List.append_nil told)
  · rw [starts, prepare_waits (x := w) ends ungranted (.inl pending)]
    exact congrArg (fun l => Host.Outcome.next (actOn s (_, l))) (List.append_nil told)
  · rw [starts, prepare_waits (x := w) ends (Bool.or_eq_false_iff.mp free).1 (.inr ⟨queued, other⟩)]
    exact congrArg (fun l => Host.Outcome.next (actOn s (_, l))) (List.append_nil told)
  · rw [starts, prepare_raises (x := w) ends free now]
    rfl

/-! ### The phases of a learn run (R23, R24) -/

section
variable {b : Base} {s : Seat} {a : Axis} {x : AxisState}

/-- An axis whose learn run is complete (R24). -/
def learnedAxis (x : AxisState) : AxisState := { x with confidence := .learned, disturbance := 0, learn := .none }

theorem completeLearn_put {high : Nat} (h : x.highStop = some high) :
    completeLearn (putAxis s a x) a =
      post { putAxis s a (learnedAxis x) with store := enterWrite s.store (.axis a (recordOf (learnedAxis x) false)) }
        .axisLearned (.axis a) (toWord high) := by
  have top : x.highStop.getD 0 = high := by rw [h]; rfl
  unfold completeLearn queueAxisRecord
  dsimp only
  rw [axisOf_putAxis, putAxis_put, axisOf_putAxis, top]
  rfl

theorem coastToIdle_completes {high : Nat} (owner : x.owner = .learn) (settle : x.learn = .settle) (cause : x.cause = some .lead)
    (h : x.highStop = some high) :
    coastToIdle (putAxis s a x) a =
      post { putAxis s a (toIdle (learnedAxis x)) with store := enterWrite s.store (.axis a (recordOf (learnedAxis x) false)) }
        .axisLearned (.axis a) (toWord high) := by
  let t : Seat := { s with store := enterWrite s.store (.axis a (recordOf (learnedAxis x) false)) }
  have completed : completeLearn (putAxis s a x) a = putAxis (post t .axisLearned (.axis a) (toWord high)) a (learnedAxis x) :=
    completeLearn_put h
  unfold coastToIdle
  dsimp only
  rw [axisOf_putAxis, if_pos ⟨owner, settle, cause⟩, completed, axisOf_putAxis, putAxis_put]
  rfl

/-- A LEARN_SETTLE that ends at once on its target completes its run. -/
theorem prepare_completes {m : Move} (ends : endsAtOnce (b.cfg.axis.get a) x m = some .reached) (owner : x.owner = .learn)
    (settle : x.learn = .settle) :
    prepare b (putAxis s a x) a m =
      let t := completeLearn (putAxis s a (endedAxis x .reached)) a
      ((releaseClaim t (.axis a)).1, (releaseClaim t (.axis a)).2 ++ [.moveEnded a .learn .reached]) := by
  unfold prepare finishAtOnce
  dsimp only
  rw [axisOf_putAxis, ends]
  dsimp only
  rw [putAxis_put, if_pos ⟨owner, settle, rfl⟩, owner]
  rfl

end

/-- Settles O34: the phase that follows each stall, and the completion of the run by a coast or at once. -/
theorem learnRunsGoThroughTheirPhases : Obligations.LearnRunsGoThroughTheirPhases := by
  unfold Obligations.LearnRunsGoThroughTheirPhases
  intro s a h there x cf drive noPending owner unlearned told put starts still learned atOnce
  have ended {z : Did} (e : endCoast s.base s.seat a = z) : exec (.coastWindowEnd a) s = .next (actOn s z) :=
    (exec_coastWindowEnd_works h there drive).trans (congrArg (fun z => Host.Outcome.next (actOn s z)) e)
  have tells (r : MoveResult) : coastTold a x (some r) = told r := by
    unfold coastTold reportIf
    dsimp only
    rw [owner]
  have unknown (m : Move) (w : AxisState) (c : w.confidence = x.confidence)
      (away : m.kind = .jog ∨ ∃ t, m.kind = .toTarget t ∧ (t + cf.onTarget < w.position ∨ w.position + cf.onTarget < t)) :
      endsAtOnce cf w m = none := by
    rw [endsAtOnce_away away, atSoftLimit_unknown (by rw [c, unlearned]; exact Confidence.noConfusion)]
    rfl
  have afterStall {phase : LearnPhase} {m : Move} (cause : x.cause = some .stall) (result : x.coastResult = some .endStop)
      (next : nextPhase cf (coastWritten x x (some .endStop)) = some (phase, m)) :
      exec (.coastWindowEnd a) s =
        let w := followed { coastWritten x x (some .endStop) with learn := phase } .learn
        .next (actOn s ((prepare s.base (putAxis s.seat a w) a m).1, told .endStop ++ (prepare s.base (putAxis s.seat a w) a m).2)) := by
    have out : coastOutcome cf x = (x, some .endStop) :=
      (coastOutcome_other (by rw [cause]; exact fun c => nomatch c)).trans (by rw [result])
    have gone : ¬ keptMove x = true := fun kept => nomatch cause.symm.trans (keptMove_iff.mp kept).1
    exact ended ((endCoast_phase drive out noPending gone next).trans (by rw [tells]))
  have begins {phase : LearnPhase} {m : Move} (cause : x.cause = some .stall) (result : x.coastResult = some .endStop)
      (next : nextPhase cf (coastWritten x x (some .endStop)) = some (phase, m))
      (away : m.kind = .jog ∨ ∃ t, m.kind = .toTarget t ∧ (t + cf.onTarget < x.position ∨ x.position + cf.onTarget < t)) :
      starts m phase := by
    intro free
    let w := followed { coastWritten x x (some .endStop) with learn := phase } .learn
    have ends : endsAtOnce cf w m = none := unknown m w rfl away
    refine ⟨fun clean => ?_, fun queued => ?_⟩
    · refine (afterStall cause result next).trans ?_
      dsimp only
      rw [prepare_raises (x := w) ends free (.inl clean)]
      rfl
    · refine (afterStall cause result next).trans ?_
      dsimp only
      rw [prepare_waits (x := w) ends (Bool.or_eq_false_iff.mp free).1 (.inr ⟨queued, Owner.noConfusion⟩)]
      exact congrArg (fun l => Host.Outcome.next (actOn s (_, l))) (List.append_nil (told .endStop))
  have completed {z : AxisState} {r : MoveResult} {high : Nat} (stop : z.highStop = some high) :
      completeLearn (putAxis s.seat a (endedAxis z r)) a = learned z r high := by
    rw [completeLearn_put (x := endedAxis z r) stop]
    change post { put (still z r) with store := enterWrite s.seat.store (.axis a
      { position := z.position, highStop := z.highStop, confidence := .learned, leadUp := z.leadUp, leadDown := z.leadDown,
        clean := false }) } .axisLearned (.axis a) (toWord high) = learned z r high
    rw [stop]
  refine ⟨fun low cause result => ?_, fun low high phase cause result lowStop highStop => ?_,
    fun t e d high phase cause result move highStop => ?_, fun t d e high phase cause result move highStop above below => ?_⟩
  · refine begins cause result ?_ (.inl rfl)
    unfold nextPhase
    rw [show (coastWritten x x (some .endStop)).learn = .low from low,
      show (coastWritten x x (some .endStop)).cause = some .stall from cause]
  · intro softHigh
    have next : nextPhase cf (coastWritten x x (some .endStop)) =
        some (.settle, { kind := .toTarget softHigh, dir := directionTo x softHigh, expiry := none }) := by
      unfold nextPhase
      rw [show (coastWritten x x (some .endStop)).learn = .high from phase,
        show (coastWritten x x (some .endStop)).cause = some .stall from cause]
      dsimp only
      rw [softLimits_some (x := coastWritten x x (some .endStop)) lowStop highStop]
      rfl
    refine ⟨fun away => begins cause result next (.inr ⟨softHigh, rfl, away.symm⟩), fun above below => ?_⟩
    let w := followed { coastWritten x x (some .endStop) with learn := .settle } .learn
    have ends : endsAtOnce cf w { kind := .toTarget softHigh, dir := directionTo x softHigh, expiry := none } = some .reached :=
      if_pos (onTarget_iff.mpr ⟨below, above⟩)
    have done_ : completeLearn (putAxis s.seat a (endedAxis w .reached)) a = learned x .reached high :=
      (completed (z := w) highStop).trans rfl
    refine (afterStall cause result next).trans ?_
    dsimp only
    rw [prepare_completes (x := w) ends rfl rfl, done_]
    dsimp only
    rw [← List.append_assoc]
  · intro past lead r y
    have out : coastOutcome cf x = (y, some r) := by
      rw [coastOutcome_lead cause move, result]
      cases d <;> rfl
    have gone : ¬ keptMove x = true := fun kept => nomatch cause.symm.trans (keptMove_iff.mp kept).1
    obtain ⟨up, down, adapted⟩ : ∃ up down, y = { x with leadUp := up, leadDown := down } := by
      cases d
      · exact ⟨_, _, rfl⟩
      · exact ⟨_, _, rfl⟩
    have noNext : y.pending = none := by rw [adapted]; exact noPending
    have stop : y.highStop = some high := by rw [adapted]; exact highStop
    have next : nextPhase cf (coastWritten x y (some r)) = none :=
      nextPhase_none (.inr ((show (coastWritten x y (some r)).learn = x.learn by rw [adapted]; rfl).trans phase))
    refine ended ((endCoast_idle drive out noNext gone next).trans (Prod.ext ?_ (tells r)))
    have learns : (coastWritten x y (some r)).owner = .learn ∧ (coastWritten x y (some r)).learn = .settle ∧
        (coastWritten x y (some r)).cause = some .lead := by
      rw [adapted]
      exact ⟨owner, phase, cause⟩
    refine (coastToIdle_completes (x := coastWritten x y (some r)) learns.1 learns.2.1 learns.2.2 stop).trans ?_
    change post { put (still y r) with store := enterWrite s.seat.store (.axis a
      { position := y.position, highStop := y.highStop, confidence := .learned, leadUp := y.leadUp, leadDown := y.leadDown,
        clean := false }) } .axisLearned (.axis a) (toWord high) = learned y r high
    rw [stop]
  · have out : coastOutcome cf x = (x, none) :=
      (coastOutcome_other (by rw [cause]; exact fun c => nomatch c)).trans (by rw [result])
    have kept : keptMove x = true := keptMove_iff.mpr ⟨cause, by rw [move]; rfl, noPending⟩
    let w := followed (coastWritten x x none) x.owner
    have ends : endsAtOnce cf w (aimed x { kind := .toTarget t, dir := d, expiry := e }) = some .reached :=
      if_pos (onTarget_iff.mpr ⟨above, below⟩)
    have done_ : completeLearn (putAxis s.seat a (endedAxis w .reached)) a = learned x .reached high :=
      (completed (z := w) highStop).trans rfl
    have follows := endCoast_kept (b := s.base) drive out noPending kept move
    refine ended (follows.trans ?_)
    dsimp only
    rw [prepare_completes (x := w) ends owner phase, done_]
    rfl

end Sys2Proof.Machine
end

section
/-! SUPPORT. The supply allocator (02_supply_allocation.md R32 to R40): the order of the hand-overs of a pass, its ceiling, the claim that is
shed, the walk of the claim list, and the heater share (R39, R131). -/
namespace Sys2Proof.Machine

/-! ### Eligibility and the ceiling (R33, R34) -/

theorem braceAllows_iff (m : BraceMode) : braceAllows m = true ↔ m = .bracing ∨ m = .braced ∨ m = .releasing := by
  cases m <;> decide

theorem braceHolds_iff (m : BraceMode) : braceHolds m = true ↔ m = .bracing ∨ m = .braced ∨ m = .locked := by
  cases m <;> decide

theorem cutOff_iff (b : Base) : cutOff b = true ↔ b.monitor.state = .cutoff := decide_eq_true_iff

/-! ### The claim that is shed (R35, R36) -/

theorem newest_none {l : List Grant} : newest l = none ↔ l = [] := by
  cases l with
  | nil => exact ⟨fun _ => rfl, fun _ => rfl⟩
  | cons g rest =>
    refine ⟨fun h => ?_, fun h => nomatch h⟩
    unfold newest at h
    split at h
    · exact nomatch h
    · split at h <;> exact nomatch h

theorem newest_spec {l : List Grant} {g : Grant} (h : newest l = some g) : g ∈ l ∧ ∀ x ∈ l, x.stamp ≤ g.stamp := by
  induction l generalizing g with
  | nil => exact nomatch h
  | cons x rest ih =>
    unfold newest at h
    split at h
    case h_1 none =>
      cases h
      rw [newest_none.mp none]
      exact ⟨List.mem_cons_self, fun y hy => by rw [List.mem_singleton.mp hy]⟩
    case h_2 y hy =>
      obtain ⟨mem, last⟩ := ih hy
      split at h
      case isTrue newer =>
        cases h
        exact ⟨List.mem_cons_self, List.forall_mem_cons.mpr ⟨le_rfl, fun z hz => (last z hz).trans newer.le⟩⟩
      case isFalse older =>
        cases h
        exact ⟨List.mem_cons_of_mem x mem, List.forall_mem_cons.mpr ⟨Nat.not_lt.mp older, last⟩⟩

/-- With stamps that differ, the newest grant is the one that no other comes behind. -/
theorem newest_eq {l : List Grant} {g : Grant} (stamps : (l.map Grant.stamp).Nodup) (mem : g ∈ l) (last : ∀ x ∈ l, x.stamp ≤ g.stamp) :
    newest l = some g := by
  cases h : newest l with
  | none =>
    rw [newest_none.mp h] at mem
    exact nomatch mem
  | some x =>
    obtain ⟨hx, later⟩ := newest_spec h
    exact congrArg some (List.inj_on_of_nodup_map stamps hx mem (Nat.le_antisymm (last x hx) (later g mem)))

theorem foldl_max_le {l : List Nat} {a m : Nat} : l.foldl max a ≤ m ↔ a ≤ m ∧ ∀ x ∈ l, x ≤ m := by
  induction l generalizing a with
  | nil => simp
  | cons x rest ih => rw [List.foldl_cons, ih, List.forall_mem_cons, Nat.max_le, and_assoc]

theorem highestClass_eq {l : List Grant} {g : Grant} (mem : g ∈ l) (top : ∀ h ∈ l, h.claim.cls ≤ g.claim.cls) :
    highestClass l = g.claim.cls := by
  unfold highestClass
  refine Nat.le_antisymm (foldl_max_le.mpr ⟨Nat.zero_le _, fun x hx => ?_⟩) ?_
  · obtain ⟨h, hh, rfl⟩ := List.mem_map.mp hx
    exact top h hh
  · exact (foldl_max_le.mp le_rfl).2 _ (List.mem_map.mpr ⟨g, mem, rfl⟩)

theorem exists_highest {l : List Grant} (h : l ≠ []) : ∃ g ∈ l, ∀ x ∈ l, x.claim.cls ≤ g.claim.cls := by
  induction l with
  | nil => exact absurd rfl h
  | cons x rest ih =>
    by_cases empty : rest = []
    · subst empty
      exact ⟨x, List.mem_cons_self, fun y hy => by rw [List.mem_singleton.mp hy]⟩
    · obtain ⟨g, hg, top⟩ := ih empty
      by_cases above : g.claim.cls ≤ x.claim.cls
      · exact ⟨x, List.mem_cons_self, List.forall_mem_cons.mpr ⟨le_rfl, fun y hy => (top y hy).trans above⟩⟩
      · exact ⟨g, List.mem_cons_of_mem x hg, List.forall_mem_cons.mpr ⟨(Nat.not_le.mp above).le, top⟩⟩

section
variable {mode : BraceMode} {cut : Bool} {ceiling : Nat} {l : List Grant}

theorem filter_ineligible_nil : l.filter (fun g => !eligible mode g.claim.cls) = [] ↔ ∀ g ∈ l, eligible mode g.claim.cls = true := by
  rw [List.filter_eq_nil_iff]
  exact forall₂_congr fun g _ => by rw [Bool.not_eq_true', Bool.not_eq_false]

theorem nodup_filter (stamps : (l.map Grant.stamp).Nodup) (p : Grant → Bool) : ((l.filter p).map Grant.stamp).Nodup :=
  stamps.sublist (List.filter_sublist.map Grant.stamp)

theorem victim_ineligible {g : Grant} (stamps : (l.map Grant.stamp).Nodup) (mem : g ∈ l) (not : ¬ eligible mode g.claim.cls = true)
    (last : ∀ h ∈ l, ¬ eligible mode h.claim.cls = true → h.stamp ≤ g.stamp) : victim mode cut ceiling l = some (g, .ineligible) := by
  have found : newest (l.filter (fun g => !eligible mode g.claim.cls)) = some g := by
    refine newest_eq (nodup_filter stamps _) (List.mem_filter.mpr ⟨mem, by simpa using not⟩) fun x hx => ?_
    obtain ⟨hx, no⟩ := List.mem_filter.mp hx
    exact last x hx (by simpa using no)
  unfold victim
  rw [found]

theorem victim_eligible (all : ∀ g ∈ l, eligible mode g.claim.cls = true) :
    victim mode cut ceiling l =
      if cut || decide (ceiling < grantedSum l) then
        (newest (l.filter (fun g => g.claim.cls = highestClass l))).map (fun g => (g, .ceiling))
      else none := by
  unfold victim
  rw [filter_ineligible_nil.mpr all]
  rfl

theorem victim_highest {g : Grant} (stamps : (l.map Grant.stamp).Nodup) (all : ∀ g ∈ l, eligible mode g.claim.cls = true)
    (unlawful : cut = true ∨ ceiling < grantedSum l) (mem : g ∈ l) (top : ∀ h ∈ l, h.claim.cls ≤ g.claim.cls)
    (last : ∀ h ∈ l, h.claim.cls = g.claim.cls → h.stamp ≤ g.stamp) : victim mode cut ceiling l = some (g, .ceiling) := by
  have found : newest (l.filter (fun g => g.claim.cls = highestClass l)) = some g := by
    rw [highestClass_eq mem top]
    refine newest_eq (nodup_filter stamps _) (List.mem_filter.mpr ⟨mem, decide_eq_true rfl⟩) fun x hx => ?_
    obtain ⟨hx, same⟩ := List.mem_filter.mp hx
    exact last x hx (of_decide_eq_true same)
  rw [victim_eligible all, if_pos (by rw [Bool.or_eq_true_iff, decide_eq_true_iff]; exact unlawful), found]
  rfl

theorem victim_mem {g : Grant} {cause : ShedCause} (h : victim mode cut ceiling l = some (g, cause)) : g ∈ l := by
  unfold victim at h
  split at h
  case h_1 x hx =>
    cases h
    exact (List.mem_filter.mp (newest_spec hx).1).1
  case h_2 =>
    split at h
    · obtain ⟨x, hx, e⟩ := Option.map_eq_some_iff.mp h
      cases e
      exact (List.mem_filter.mp (newest_spec hx).1).1
    · exact nomatch h

/-- Nothing is shed from a granted set that is lawful, and from no other. -/
theorem victim_none : victim mode cut ceiling l = none ↔
    (∀ g ∈ l, eligible mode g.claim.cls = true) ∧ grantedSum l ≤ ceiling ∧ (cut = true → l = []) := by
  constructor
  · intro h
    have all : ∀ g ∈ l, eligible mode g.claim.cls = true := by
      refine filter_ineligible_nil.mp (newest_none.mp ?_)
      unfold victim at h
      split at h
      · exact nomatch h
      · assumption
    rw [victim_eligible all] at h
    have empty : (cut || decide (ceiling < grantedSum l)) = true → l = [] := fun unlawful => by
      rw [if_pos unlawful, Option.map_eq_none_iff, newest_none] at h
      by_contra some
      obtain ⟨g, mem, top⟩ := exists_highest some
      exact List.filter_eq_nil_iff.mp h g mem (decide_eq_true (highestClass_eq mem top).symm)
    refine ⟨all, ?_, fun e => empty (by rw [e]; rfl)⟩
    by_contra above
    have none := empty (by rw [decide_eq_true (Nat.not_le.mp above), Bool.or_true])
    exact above (by rw [none]; exact Nat.zero_le _)
  · rintro ⟨all, fit, none⟩
    rw [victim_eligible all]
    split
    case isTrue unlawful =>
      rw [Bool.or_eq_true_iff, decide_eq_true_iff] at unlawful
      rw [none (unlawful.resolve_right (Nat.not_lt.mpr fit))]
      rfl
    case isFalse => rfl

end

section
variable {b : Base} {s : Seat}

theorem shed_none (h : victim s.brace.mode (cutOff b) s.alloc.ceiling s.alloc.granted = none) : shed b s = (s, []) := by
  rw [shed, h]
  rfl

theorem shed_some {g : Grant} {cause : ShedCause}
    (h : victim s.brace.mode (cutOff b) s.alloc.ceiling s.alloc.granted = some (g, cause)) :
    shed b s =
      (post { s with alloc := unGrant s.alloc g.claim } .shed (consumerSubject g.claim.consumer)
        (pairWord (consumerCode g.claim.consumer) (shedCode cause)), shedTask g.claim.consumer ++ [.shed]) := by
  rw [shed, h]
  rfl

end

/-- Settles O37: the order of the hand-overs, the ceiling of a pass, and one shed at a time until the granted set is lawful. -/
theorem passesKeepTheGrantsLawful : Obligations.PassesKeepTheGrantsLawful := by
  unfold Obligations.PassesKeepTheGrantsLawful
  refine ⟨fun b s n => ?_, fun s y => ⟨rfl, rfl⟩, fun b s => ?_, fun b s _ stamps => ?_⟩
  · intro shares
    refine ⟨settle_nil n b s, fun t rest h => settle_cons n t rest b s fun ⟨pass, runs⟩ => h ⟨pass, (passInProgress_iff rest).mp runs⟩,
      fun before c0 b0 after none => ?_⟩
    have runs : passInProgress (before ++ .share c0 b0 :: after) = true :=
      (passInProgress_iff _).mpr ⟨c0, b0, List.mem_append_right _ List.mem_cons_self⟩
    rw [settle_pass_deferred n _ b s runs, deferPass_behind before c0 b0 after fun x y mem => none ⟨x, y, mem⟩]
  · intro derated m e
    have ceiling : passCeiling b s = e := by
      refine ite_congr (propext (and_congr_left fun _ => braceAllows_iff m)) (fun _ => ?_) (fun _ => ?_)
      all_goals
        unfold deratedCeiling
        rfl
    change allocationPass b s = _
    rw [allocationPass, ceiling]
  · intro e mayRun sum fit sheds
    have runs (g : Grant) : mayRun g ↔ eligible s.brace.mode g.claim.cls = true := by
      change (match s.brace.mode with
        | .idle => True | .releasing => True | .bracing => g.claim.cls ≤ 1 | .braced => g.claim.cls ≤ 1 | .locked => False) ↔ _
      unfold eligible
      cases s.brace.mode <;> simp
    have shedsOf {g : Grant} {cause : ShedCause}
        (h : victim s.brace.mode (cutOff b) s.alloc.ceiling s.alloc.granted = some (g, cause)) : sheds g (shedCode cause) := by
      obtain ⟨⟨consumer, cls, amount, arrival, level⟩, stamp⟩ := g
      have sheddings := shed_some h
      cases consumer with
      | axis a => exact sheddings.trans rfl
      | compressor => exact sheddings.trans rfl
      | fan z => cases z <;> exact sheddings.trans rfl
    have lawful : victim s.brace.mode (cutOff b) s.alloc.ceiling s.alloc.granted = none ↔
        (∀ g ∈ s.alloc.granted, mayRun g) ∧ fit := by
      rw [victim_none, cutOff_iff]
      exact and_congr_left fun _ => forall₂_congr fun g _ => (runs g).symm
    refine ⟨?_, fun some => ?_, fun g mem not last => ?_, fun g mem all notFit top last => ?_⟩
    · refine Iff.trans ⟨fun h => ?_, shed_none⟩ lawful
      cases hv : victim s.brace.mode (cutOff b) s.alloc.ceiling s.alloc.granted with
      | none => rfl
      | some v =>
        have more := congrArg Prod.snd ((shed_some (g := v.1) (cause := v.2) hv).symm.trans h)
        exact absurd (List.append_eq_nil_iff.mp more).2 (List.cons_ne_nil _ _)
    · cases hv : victim s.brace.mode (cutOff b) s.alloc.ceiling s.alloc.granted with
      | none => exact absurd (congrArg Prod.snd (shed_none hv)) some
      | some v =>
        have left : (runTask .shed b s).1.alloc.granted = (unGrant s.alloc v.1.claim).granted :=
          congrArg (fun y : Did => y.1.alloc.granted) (shed_some (g := v.1) (cause := v.2) hv)
        rw [left]
        exact List.length_filter_lt_length_iff_exists.mpr ⟨v.1, victim_mem (cause := v.2) hv, by simp⟩
    · exact shedsOf (cause := .ineligible) (victim_ineligible stamps mem (fun ok => not ((runs g).mpr ok))
        fun h hh no => last h hh fun ok => no ((runs h).mp ok))
    · have unlawful : cutOff b = true ∨ s.alloc.ceiling < grantedSum s.alloc.granted := by
        by_contra fine
        obtain ⟨on, under⟩ := not_or.mp fine
        exact notFit ⟨Nat.not_lt.mp under, fun off => absurd ((cutOff_iff b).mpr off) on⟩
      exact shedsOf (cause := .ceiling) (victim_highest stamps (fun h hh => (runs h).mp (all h hh)) unlawful mem top last)

/-! ### The admission walk (R37, R38, R40) -/

/-- Settles O38: the first eligible claim of the list is granted when it fits and nothing holds it. -/
theorem walkGrantsInOrder : Obligations.WalkGrantsInOrder := by
  unfold Obligations.WalkGrantsInOrder
  intro b s eligibleClass
  have classes (k : Nat) : eligibleClass k ↔ eligible s.brace.mode k = true := by
    change (match s.brace.mode with
      | .idle => True | .releasing => True | .bracing => k ≤ 1 | .braced => k ≤ 1 | .locked => False) ↔ _
    unfold eligible
    cases s.brace.mode <;> simp
  refine ⟨fun none => ?_, fun passed c rest pending skipped head => ?_⟩
  · have nobody : walkHead s.brace.mode s.alloc = Option.none :=
      List.find?_eq_none.mpr fun p hp ok => none p hp ((classes p.cls).mpr ok)
    change walk b s = _
    unfold walk admissible
    rw [nobody]
    rfl
  · intro others room held len window
    have first : walkHead s.brace.mode s.alloc = some c := by
      have nobody : passed.find? (fun p => eligible s.brace.mode p.cls) = none :=
        List.find?_eq_none.mpr fun p hp ok => skipped p hp ((classes p.cls).mpr ok)
      rw [walkHead, pending, List.find?_append, nobody,
          List.find?_cons_of_pos (p := fun p : Claim => eligible s.brace.mode p.cls) ((classes c.cls).mp head)]
      rfl
    have holds : staggerHolds s.alloc c = true ↔ held := by
      change _ ↔ (match c.consumer, s.alloc.stagger with
        | .axis _, some w => c.cls ≠ 0 ∨ w.bracePassed = false
        | _, _ => False)
      unfold staggerHolds
      split
      · split
        · simp_all
        · simp_all
      · simp_all
    have fit : fits s.alloc c = true ↔ room ≤ s.alloc.ceiling := decide_eq_true_iff
    have walked : runTask .walk b s =
        if !cutOff b && fits s.alloc c && !staggerHolds s.alloc c then
          ({ s with alloc := grant b.cfg s.alloc c }, [.granted c.consumer, .walk])
        else (s, []) := by
      change walk b s = _
      unfold walk admissible
      rw [first]
      dsimp only
      cases !cutOff b && fits s.alloc c && !staggerHolds s.alloc c <;> rfl
    have admitted : (!cutOff b && fits s.alloc c && !staggerHolds s.alloc c) = true ↔
        b.monitor.state ≠ .cutoff ∧ room ≤ s.alloc.ceiling ∧ ¬ held := by
      simp only [Bool.and_eq_true_iff, Bool.not_eq_true', ← Bool.not_eq_true, cutOff_iff, fit, holds, and_assoc, ne_eq]
    refine ⟨fun enough free on => ?_, fun refuses => ?_⟩
    · rw [walked, if_pos (admitted.mpr ⟨on, enough, free⟩)]
      have started : startStagger b.cfg c s.alloc.stagger = window := by
        unfold startStagger
        rfl
      rw [grant, started]
    · rw [walked, if_neg]
      rintro ok
      obtain ⟨on, enough, free⟩ := admitted.mp ok
      rcases refuses with short | h | off
      · exact absurd enough (Nat.not_le.mpr short)
      · exact free h
      · exact on off

/-! ### The heater share (R39, R131) -/

theorem heaterShare_eq (h dc db : Nat) :
    heaterShare h dc db =
      let gb := if dc + db ≤ h then db else min db (h - min dc (h / 2))
      (if dc + db ≤ h then dc else min dc (h - gb), gb) := by
  unfold heaterShare
  by_cases room : dc + db ≤ h
  · simp only [if_pos room]
  · simp only [if_neg room]

/-- Settles O39: the demands when they fit, otherwise half for C at first and the rest by need. -/
theorem heatersShareWhatIsLeft : Obligations.HeatersShareWhatIsLeft := by
  unfold Obligations.HeatersShareWhatIsLeft
  intro b s c0 b0 m h dc db first gb gc takes
  have room : heaterRoom s.brace.mode s.alloc = h := ite_congr (propext (braceHolds_iff m)) (fun _ => rfl) (fun _ => rfl)
  have shares : heaterShare (heaterRoom s.brace.mode s.alloc) s.zones.c.demand s.zones.b.demand = (gc, gb) := by
    rw [room, heaterShare_eq]
  have taken (z : ZoneState) (g : Nat) : takeGrant z g = takes z g :=
    ite_congr rfl (fun _ => rfl) (fun _ => rfl)
  refine ⟨?_, fun same => ?_, fun differ => ?_⟩
  · by_cases fit : dc + db ≤ h
    · rw [show gc = dc from if_pos fit, show gb = db from if_pos fit]
      exact fit
    · have hb : gb = min db (h - first) := if_neg fit
      have hc : gc = min dc (h - gb) := if_neg fit
      omega
  · change done (share s c0 b0) = _
    unfold share
    dsimp only
    rw [shares]
    exact congrArg done (if_pos same)
  · change done (share s c0 b0) = _
    unfold share
    dsimp only
    rw [shares]
    refine congrArg done ((if_neg (not_and_or.mpr differ)).trans ?_)
    dsimp only
    rw [taken, taken]

end Sys2Proof.Machine
end

section
/-! SUPPORT. Storing and erasing a profile, the answers of a recall, and the two doors (R64 to R70, R78, R84, R85). -/
namespace Sys2Proof.Machine

/-! ### Profiles (R64 to R68) -/

section
variable {f : Fitment} {s : Seat} {b : Base} {p : Retained4} {n : Nat} {slot : Slot} {source : Source} {key : Option Key}

theorem retainedOfCode_none (h : 4 ≤ n) : retainedOfCode n = none := List.getElem?_eq_none h

theorem mem_axisOrder (a : Axis) : a ∈ axisOrder := by cases a <;> decide

theorem any_presentIn {m : Axis → Bool} :
    (presentIn f axisOrder).any m = true ↔ ∃ a, present f a = true ∧ m a = true := by
  rw [List.any_eq_true]
  refine exists_congr fun a => and_congr_left' ?_
  rw [presentIn, List.mem_filter]
  exact ⟨And.right, fun h => ⟨mem_axisOrder a, h⟩⟩

theorem axisMoves_iff {x : AxisState} : axisMoves x = true ↔ x.drive = .waitGrant ∨ x.drive = .driving ∨ x.drive = .coasting := by
  unfold axisMoves
  cases x.drive <;> simp

theorem anyAxisMoves_iff :
    anyAxisMoves f s = true ↔ ∃ a, present f a = true ∧
      ((axisOf s a).drive = .waitGrant ∨ (axisOf s a).drive = .driving ∨ (axisOf s a).drive = .coasting) :=
  any_presentIn.trans (exists_congr fun _ => and_congr_right fun _ => axisMoves_iff)

theorem storeRefusal_busy (h : anyAxisMoves f s = true ∨ refusesLinkWrite s.store (.profile p Reset.profile) = true) :
    storeRefusal f s p = some .busy := by
  unfold storeRefusal
  by_cases moves : anyAxisMoves f s = true
  · exact if_pos moves
  · rw [if_neg moves, if_pos (h.resolve_left moves)]

theorem storeRefusal_none (rest : ¬ anyAxisMoves f s = true) (room : ¬ refusesLinkWrite s.store (.profile p Reset.profile) = true) :
    storeRefusal f s p = none := by
  rw [storeRefusal, if_neg rest, if_neg room]

/-- An axis part has the entry of each axis that is present. -/
theorem axisPart_get (e : AxisState → Option Nat) (a : Axis) :
    (axisPart f s e).get a = if present f a then e (axisOf s a) else none := by
  cases a <;> rfl

theorem captured_rest (a : Axis) :
    (axisPart f s restPosition).get a =
      if present f a = true ∧ (axisOf s a).confidence = .learned ∧ (axisOf s a).drive = .idle then some (axisOf s a).position
      else none := by
  rw [axisPart_get]
  exact (ite_and ..).symm

theorem busyAxis_iff {q : Profile} (idle : s.brace.mode = .idle) :
    busyAxis f s q = true ↔ ∃ a, present f a = true ∧ (q.axes.get a).isSome = true ∧
      (ownerMet .idle (axisOf s a) = .manual ∨ ownerMet .idle (axisOf s a) = .learn) := by
  refine any_presentIn.trans (exists_congr fun a => and_congr_right fun _ => ?_)
  rw [idle, Bool.and_eq_true_iff, Bool.or_eq_true_iff, decide_eq_true_iff, decide_eq_true_iff]

theorem recallRefusal_empty (h : (s.profiles.get slot).valid = false) : recallRefusal f s slot = some .empty := by
  rw [recallRefusal, profileOf]
  exact if_pos (by rw [h]; rfl)

theorem recallRefusal_valid (h : (s.profiles.get slot).valid = true) :
    recallRefusal f s slot = if busyAxis f s (s.profiles.get slot) then some .busy else none := by
  rw [recallRefusal, profileOf]
  exact if_neg (by rw [h]; exact Bool.false_ne_true)

/-! ### The commands of the slots (R66, R68, R70) -/

theorem storeProfile_refuses {r : Result} (k : retainedOfCode n = some p) (h : storeRefusal b.fit s p = some r) :
    storeProfile n b s = refuse r s := by
  rw [storeProfile, k]
  dsimp only
  rw [h]

theorem storeProfile_takes (k : retainedOfCode n = some p) (h : storeRefusal b.fit s p = none) :
    storeProfile n b s = accept (done (storeSlot s p (captureStore b.fit s))) := by
  rw [storeProfile, k]
  dsimp only
  rw [h]

theorem eraseProfile_eq (k : retainedOfCode n = some p) :
    eraseProfile n b s = if refusesLinkWrite s.store (.profile p Reset.profile) then refuse .busy s
      else accept (done (storeSlot s p Reset.profile)) := by
  rw [eraseProfile, k]

theorem recallProfile_moving (k : retainedOfCode n = some p) (h : b.link.vehicle = .moving) :
    recallProfile n b s = refuse .state s := by
  rw [recallProfile, k]
  exact if_pos h

theorem recallProfile_refuses {r : Result} (k : retainedOfCode n = some p) (still : b.link.vehicle = .parked)
    (h : recallRefusal b.fit s p.slot = some r) : recallProfile n b s = refuse r s := by
  rw [recallProfile, k]
  dsimp only
  rw [if_neg (by rw [still]; exact Vehicle.noConfusion), h]

theorem recallProfile_takes (k : retainedOfCode n = some p) (still : b.link.vehicle = .parked)
    (h : recallRefusal b.fit s p.slot = none) : recallProfile n b s = accept (supersede b s p.slot .link none) := by
  rw [recallProfile, k]
  dsimp only
  rw [if_neg (by rw [still]; exact Vehicle.noConfusion), h]

/-! ### The doors (R84, R85) -/

theorem doorExit_refuses {r : Result} (h : exitRefusal b s = some r) : doorExit b s = refuse r s := by
  rw [doorExit, h]

theorem doorExit_takes (h : exitRefusal b s = none) : doorExit b s = accept (exitStart b s) := by
  rw [doorExit, h]

theorem doorEntry_refuses {r : Result} (h : entryRefusal b s = some r) : doorEntry b s = refuse r s := by
  rw [doorEntry, h]

theorem doorEntry_takes (h : entryRefusal b s = none) : doorEntry b s = accept (recallStart b s .return .easyEntry none) := by
  rw [doorEntry, h]

theorem exitRefusal_moving (h : b.link.vehicle = .moving) : exitRefusal b s = some .state := if_pos h

theorem entryRefusal_moving (h : b.link.vehicle = .moving) : entryRefusal b s = some .state := if_pos h

section
variable (still : b.link.vehicle = .parked)
include still

theorem still_not_moving : ¬ b.link.vehicle = .moving := fun h => Vehicle.noConfusion (still.symm.trans h)

theorem exitRefusal_recall (h : s.recallCtx.isSome = true) : exitRefusal b s = some .busy := by
  rw [exitRefusal, if_neg (still_not_moving still), if_pos h]

theorem entryRefusal_recall (h : s.recallCtx.isSome = true) : entryRefusal b s = some .busy := by
  rw [entryRefusal, if_neg (still_not_moving still), if_pos h]

theorem exitRefusal_free (h : s.recallCtx = none) :
    exitRefusal b s =
      if (axisOf s .slide).confidence ≠ .learned ∨ (axisOf s .slide).drive = .fault then some .state
      else if (axisOf s .slide).drive ≠ .idle then some .busy else none := by
  rw [exitRefusal, if_neg (still_not_moving still), if_neg (by rw [h]; exact Bool.false_ne_true)]

theorem entryRefusal_free (h : s.recallCtx = none) : entryRefusal b s = recallRefusal b.fit s .return := by
  rw [entryRefusal, if_neg (still_not_moving still), if_neg (by rw [h]; exact Bool.false_ne_true)]

end

/-- R84: an exit is REACHED at the soft low of SLIDE, or on its target. -/
theorem exitReached_iff {low : Nat} {x : AxisState} (h : x.lowStop = some low) :
    exitReached b.cfg x = true ↔
      x.position ≤ low + b.cfg.axis.slide.softMargin + b.cfg.axis.slide.onTarget ∨
        (x.position ≤ clampTarget b.cfg.axis.slide x (exitTarget b.cfg x) + b.cfg.axis.slide.onTarget ∧
          clampTarget b.cfg.axis.slide x (exitTarget b.cfg x) ≤ x.position + b.cfg.axis.slide.onTarget) := by
  have softest : (softLow b.cfg.axis.slide x).getD 0 = low + b.cfg.axis.slide.softMargin := by
    rw [softLow, h]
    rfl
  rw [exitReached, Bool.or_eq_true_iff, decide_eq_true_iff, softest, onTarget_iff]

theorem exitTarget_eq {cfg : Settings} {low : Nat} {x : AxisState} (h : x.lowStop = some low) :
    exitTarget cfg x = max (x.position - cfg.exitOffset) (low + cfg.axis.slide.softMargin) := by
  rw [exitTarget, softLow, h]
  rfl

end

/-- Settles O41: the answers of the slots' commands, by the slot, the moves and the room of the queue; and those of the doors. -/
theorem memoryCommandsAnswer : Obligations.MemoryCommandsAnswer := by
  unfold Obligations.MemoryCommandsAnswer
  refine ⟨fun s n w => ?_, fun s n w idle => ?_, fun s w idle => ?_⟩
  · have runs (m : s.seat.brace.mode = .idle ∨ s.seat.brace.mode = .releasing) : passes s.seat.brace.mode .plain = true :=
      (passes_plain_iff _).mpr m
    refine ⟨fun notIdle notReleasing => ?_, fun m high => ?_, fun p m code => ?_⟩
    · have stopped : passes s.seat.brace.mode .plain = false :=
        Bool.eq_false_iff.mpr fun h => ((passes_plain_iff _).mp h).elim notIdle notReleasing
      exact ⟨comfort_restricted w stopped, comfort_restricted w stopped⟩
    · have nothing := retainedOfCode_none high
      exact ⟨comfort_refuses w (runs m) fun l _ => by rw [storeProfile, nothing],
        comfort_refuses w (runs m) fun l _ => by rw [eraseProfile, nothing]⟩
    · intro full moves puts
      have known : retainedOfCode n = some p := by
        subst code
        cases p <;> rfl
      have fullIff := refusesLinkWrite_iff s.seat.store (.profile p Reset.profile)
      have movesIff : anyAxisMoves s.base.fit s.seat = true ↔ moves := anyAxisMoves_iff
      refine ⟨fun h => comfort_refuses w (runs m) fun l _ => ?_, fun h => comfort_takes w (runs m) fun l _ => ?_,
        fun h => comfort_refuses w (runs m) fun l _ => ?_, fun rest room => ?_⟩
      · exact (eraseProfile_eq known).trans (if_pos (fullIff.mpr h))
      · exact (eraseProfile_eq known).trans (if_neg fun e => h (fullIff.mp e))
      · exact storeProfile_refuses known (storeRefusal_busy (h.imp movesIff.mpr fullIff.mpr))
      · refine ⟨captureStore s.base.fit s.seat, comfort_takes w (runs m) fun l _ => ?_, rfl, captured_rest, fun i => ?_, rfl⟩
        · exact storeProfile_takes known (storeRefusal_none (fun e => rest (movesIff.mp e)) fun e => room (fullIff.mp e))
        · cases i <;> rfl
  · have runs : passes s.seat.brace.mode .motion = true := passes_idle .motion idle
    refine ⟨fun high => comfort_refuses w runs fun l _ => by rw [recallProfile, retainedOfCode_none high], fun p code => ?_⟩
    intro q busy
    have known : retainedOfCode n = some p := by
      subst code
      cases p <;> rfl
    have busyIff : busyAxis s.base.fit s.seat q = true ↔ busy := busyAxis_iff idle
    refine ⟨fun moving => comfort_refuses w runs fun l hv => recallProfile_moving known (hv.trans moving),
      fun still => ⟨fun empty => ?_, fun valid h => ?_, fun valid h => ?_⟩⟩
    · exact comfort_refuses w runs fun l hv => recallProfile_refuses known (hv.trans still) (recallRefusal_empty empty)
    · exact comfort_refuses w runs fun l hv =>
        recallProfile_refuses known (hv.trans still) ((recallRefusal_valid valid).trans (if_pos (busyIff.mpr h)))
    · exact comfort_takes w runs fun l hv =>
        recallProfile_takes known (hv.trans still) ((recallRefusal_valid valid).trans (if_neg fun e => h (busyIff.mp e)))
  · intro x cf
    have runs : passes s.seat.brace.mode .motion = true := passes_idle .motion idle
    refine ⟨fun moving => ⟨?_, ?_⟩,
      fun still => ⟨fun runsRecall => ⟨?_, ?_⟩, fun free => ⟨fun h => ?_, fun learned ok busy => ?_, fun low learned rest lowStop => ?_, ?_⟩⟩⟩
    · exact comfort_refuses w runs fun l hv => doorExit_refuses (exitRefusal_moving (hv.trans moving))
    · exact comfort_refuses w runs fun l hv => doorEntry_refuses (entryRefusal_moving (hv.trans moving))
    · exact comfort_refuses w runs fun l hv => doorExit_refuses (exitRefusal_recall (hv.trans still) runsRecall)
    · exact comfort_refuses w runs fun l hv => doorEntry_refuses (entryRefusal_recall (hv.trans still) runsRecall)
    · exact comfort_refuses w runs fun l hv => doorExit_refuses ((exitRefusal_free (hv.trans still) free).trans (if_pos h))
    · refine comfort_refuses w runs fun l hv => doorExit_refuses ((exitRefusal_free (hv.trans still) free).trans ?_)
      rw [if_neg (not_or.mpr ⟨not_not.mpr learned, ok⟩)]
      exact if_pos busy
    · intro softLow target aim near
      have takes : exec .doorExit s = .next (answered s .accepted (exitStart s.base s.seat)) := by
        refine comfort_takes w runs fun l hv => doorExit_takes ((exitRefusal_free (hv.trans still) free).trans ?_)
        rw [if_neg (not_or.mpr ⟨not_not.mpr learned, fun fault => Drive.noConfusion (rest.symm.trans fault)⟩)]
        exact if_neg (not_not.mpr rest)
      have aimed : exitTarget s.base.cfg x = target := exitTarget_eq lowStop
      have reached : exitReached s.base.cfg x = true ↔ near := by
        rw [exitReached_iff lowStop, aimed]
        rfl
      refine ⟨captureReturn s.base.fit s.seat, rfl, rfl, rfl, captured_rest, ?_⟩
      intro starts
      have began {v : RecallResult} {t : Option Wave}
          (result : (if exitReached s.base.cfg x = true then .ended .reached else .waiting) = v)
          (wave : (if exitReached s.base.cfg x = true then none else some .one) = t) : starts v t := by
        subst result wave
        refine takes.trans ?_
        rw [exitStart, exitContext, aimed]
        rfl
      exact ⟨fun h => began (if_pos (reached.mpr h)) (if_pos (reached.mpr h)),
        fun h => began (if_neg fun e => h (reached.mp e)) (if_neg fun e => h (reached.mp e))⟩
    · intro q busy
      have busyIff : busyAxis s.base.fit s.seat q = true ↔ busy := busyAxis_iff idle
      refine ⟨fun empty => ?_, fun valid h => ?_, fun valid h => ?_⟩
      · exact comfort_refuses w runs fun l hv =>
          doorEntry_refuses ((entryRefusal_free (hv.trans still) free).trans (recallRefusal_empty empty))
      · exact comfort_refuses w runs fun l hv =>
          doorEntry_refuses ((entryRefusal_free (hv.trans still) free).trans
            ((recallRefusal_valid valid).trans (if_pos (busyIff.mpr h))))
      · exact comfort_takes w runs fun l hv =>
          doorEntry_takes ((entryRefusal_free (hv.trans still) free).trans
            ((recallRefusal_valid valid).trans (if_neg fun e => h (busyIff.mp e))))

end Sys2Proof.Machine
end

section
/-! SUPPORT. How an axis is judged for a recall, the context of a new recall, and the parts that a recall hands (R69 to R75, R149). -/
namespace Sys2Proof.Machine

/-! ### Judgement (R71, R72) -/

section
variable {b : Base} {s : Seat} {cf : AxisSettings} {x : AxisState} {a : Axis} {t : Nat}

theorem judgeAxis_fault (h : x.drive = .fault) : judgeAxis cf x t = some (.ended .fault) := if_pos h

theorem judgeAxis_unlearned (ok : x.drive ≠ .fault) (h : x.confidence = .unlearned) : judgeAxis cf x t = some .unlearned := by
  rw [judgeAxis, if_neg ok, if_pos h]

section
variable (ok : x.drive ≠ .fault) (known : x.confidence ≠ .unlearned)
include ok known

theorem judgeAxis_reached
    (near : x.position ≤ clampTarget cf x t + cf.onTarget ∧ clampTarget cf x t ≤ x.position + cf.onTarget) :
    judgeAxis cf x t = some (.ended .reached) := by
  rw [judgeAxis, if_neg ok, if_neg known, if_pos (onTarget_iff.mpr near)]

theorem judgeAxis_moves
    (away : ¬ (x.position ≤ clampTarget cf x t + cf.onTarget ∧ clampTarget cf x t ≤ x.position + cf.onTarget)) :
    judgeAxis cf x t = none := by
  rw [judgeAxis, if_neg ok, if_neg known, if_neg fun e => away (onTarget_iff.mp e)]

end

/-- R72: an axis moves in wave 1 when its direction clears. -/
def clearsBy (c : Clearing) (position aim : Nat) : Prop := c = .none ∨ (c = .up ∧ position < aim) ∨ (c = .down ∧ aim ≤ position)

theorem waveOf_clears {c : Clearing} (h : clearsBy c x.position t) : waveOf c (directionTo x t) = .one := by
  unfold directionTo
  rcases h with rfl | ⟨rfl, up⟩ | ⟨rfl, down⟩
  · rfl
  · rw [if_pos up]
    rfl
  · rw [if_neg (Nat.not_lt.mpr down)]
    rfl

theorem waveOf_blocked {c : Clearing} (h : ¬ clearsBy c x.position t) : waveOf c (directionTo x t) = .two := by
  unfold clearsBy at h
  unfold directionTo
  cases c with
  | none => exact absurd (Or.inl rfl) h
  | up => rw [if_neg fun up => h (.inr (.inl ⟨rfl, up⟩))]; rfl
  | down => rw [if_pos (Nat.lt_of_not_le fun down => h (.inr (.inr ⟨rfl, down⟩)))]; rfl

theorem judgeStart_judged {v : RecallResult} (h : judgeAxis (b.cfg.axis.get a) (axisOf s a) t = some v) :
    judgeStart b s a (some t) = (v, none) := by
  rw [judgeStart, h]

theorem judgeStart_moves (h : judgeAxis (b.cfg.axis.get a) (axisOf s a) t = none) :
    judgeStart b s a (some t) = (.waiting, some (waveOf (b.cfg.axis.get a).clearing
      (directionTo (axisOf s a) (clampTarget (b.cfg.axis.get a) (axisOf s a) t)))) := by
  rw [judgeStart, h]

end

/-! ### A new context (R69, R71) -/

section
variable {b : Base} {s : Seat} {slot : Slot} {source : Source} {key : Option Key} {goals : PerAxis (Option Nat)} {a : Axis}

theorem copiedTargets_get (f : Fitment) :
    (copiedTargets f goals).get a = if present f a then (goals.get a).map (fun p => min p maxPosition) else none :=
  tabulate_get _ a

/-- The context says of each axis what its judgement says. -/
def Says (r : Recall) (a : Axis) (t : Option Nat) (v : RecallResult) (w : Option Wave) : Prop :=
  r.target.get a = t ∧ r.result.get a = v ∧ r.wave.get a = w

theorem newContext_says {t : Option Nat} {y : RecallResult × Option Wave} (target : goals.get a = t) (h : judgeStart b s a t = y) :
    Says (newContext b s slot source key goals) a t y.1 y.2 := by
  subst target h
  exact ⟨rfl, tabulate_get _ a, tabulate_get _ a⟩

/-- R71, R72: the judgement of an axis, in the words of the section. -/
def JudgedAs (b : Base) (s : Seat) (r : Recall) (a : Axis) (entry : Option Nat) : Prop :=
  (present b.fit a = false ∨ entry = none → Says r a none .none none) ∧
  ∀ u, present b.fit a = true → entry = some u →
    let x := axisOf s a
    let cf := b.cfg.axis.get a
    let t := min u 16383
    let aim := clampTarget cf x t
    let near := x.position ≤ aim + cf.onTarget ∧ aim ≤ x.position + cf.onTarget
    (x.drive = .fault → Says r a (some t) (.ended .fault) none) ∧
    (x.drive ≠ .fault → x.confidence = .unlearned → Says r a (some t) .unlearned none) ∧
    (x.drive ≠ .fault → x.confidence ≠ .unlearned → near → Says r a (some t) (.ended .reached) none) ∧
    (x.drive ≠ .fault → x.confidence ≠ .unlearned → ¬ near →
      (clearsBy cf.clearing x.position aim → Says r a (some t) .waiting (some .one)) ∧
      (¬ clearsBy cf.clearing x.position aim → Says r a (some t) .waiting (some .two)))

theorem newContext_judges (a : Axis) :
    JudgedAs b s (newContext b s slot source key (copiedTargets b.fit goals)) a (goals.get a) := by
  refine ⟨fun nothing => ?_, fun u fitted entry => ?_⟩
  · have target : (copiedTargets b.fit goals).get a = none := by
      rw [copiedTargets_get]
      rcases nothing with absent | empty
      · rw [absent]
        rfl
      · rw [empty]
        exact ite_self none
    exact newContext_says target rfl
  · have target : (copiedTargets b.fit goals).get a = some (min u maxPosition) := by
      rw [copiedTargets_get, if_pos fitted, entry]
      rfl
    refine ⟨fun fault => ?_, fun ok unknown => ?_, fun ok known near => ?_, fun ok known away => ⟨fun clears => ?_, fun blocked => ?_⟩⟩
    · exact newContext_says target (judgeStart_judged (judgeAxis_fault fault))
    · exact newContext_says target (judgeStart_judged (judgeAxis_unlearned ok unknown))
    · exact newContext_says target (judgeStart_judged (judgeAxis_reached ok known near))
    · exact newContext_says target ((judgeStart_moves (judgeAxis_moves ok known away)).trans (by rw [waveOf_clears clears]))
    · exact newContext_says target ((judgeStart_moves (judgeAxis_moves ok known away)).trans (by rw [waveOf_blocked blocked]))

theorem recallSpoils_eq (q : Profile) :
    recallSpoils s source q =
      { s with profiles := if (source = .key ∨ source = .link) ∧ q.axes.slide.isSome = true then s.profiles.set .return Reset.profile
               else s.profiles } := by
  unfold recallSpoils loseReturn
  split <;> rfl

theorem startFrom_slot (h : source ≠ .standDown) : startFrom b s slot source key = recallStart b s slot source key := by
  cases source
  case standDown => exact absurd rfl h
  all_goals rfl

end

/-! ### A support entry (R74, R99) -/

section
variable {b : Base} {s : Seat} {g : Gallery} {i : Bladder} {t : Nat}

theorem set_set_bladder {α : Type} (t : PerBladder α) (i : Bladder) (x y : α) : (t.set i x).set i y = t.set i y := by
  cases i <;> rfl

theorem verdict_fault (h : g.state = .fault) : verdict b g i = .fault := if_pos h

theorem verdict_free (ok : g.state ≠ .fault) (h : queuedFor g i = none) :
    verdict b g i = if g.queue.length < b.cfg.queueLimit then .taken else .full := by
  rw [verdict, if_neg ok, h]

theorem verdict_queued {o : Op} (ok : g.state ≠ .fault) (h : queuedFor g i = some o) :
    verdict b g i = if o.origin = .brace then .busy else .taken := by
  rw [verdict, if_neg ok, h]

/-- The result of an operation replaced, its last target, and nothing else are written to a bladder. -/
theorem enterOp_free {op : Op} (moves : op.kind ≠ .measure) (h : queuedFor s.gallery op.bladder = none) :
    enterOp s op =
      ({ s with gallery := { s.gallery with
          queue := s.gallery.queue ++ [op],
          bladders := s.gallery.bladders.set op.bladder
            { s.gallery.bladders.get op.bladder with lastTarget := op.target } } }, []) := by
  rw [enterOp, h]
  dsimp only
  rw [setLastTarget, if_neg moves]
  rfl

theorem enterOp_queued {op o : Op} (moves : op.kind ≠ .measure) (h : queuedFor s.gallery op.bladder = some o) :
    enterOp s op =
      ({ s with gallery := { s.gallery with
          queue := s.gallery.queue.map (fun q => if q.bladder = op.bladder then op else q),
          bladders := s.gallery.bladders.set op.bladder
            { s.gallery.bladders.get op.bladder with lastResult := some .cancelled, lastTarget := op.target } } },
        [.opResult o .cancelled]) := by
  rw [enterOp, h]
  dsimp only
  rw [setLastTarget, if_neg moves]
  simp [writeResult, putBladder, withGallery, bladderOf, set_set_bladder]

theorem kindTowards_moves (r : BladderState) (t : Nat) : kindTowards r t ≠ .measure := by
  unfold kindTowards
  cases r.measured with
  | none => exact OpKind.noConfusion
  | some p =>
    dsimp only
    split <;> exact OpKind.noConfusion

theorem applySupport_refused (h : verdict b s.gallery i ≠ .taken) :
    applySupport b s i t = ({ s with gallery := { s.gallery with
      bladders := s.gallery.bladders.set i { s.gallery.bladders.get i with comfort := some (min t 900) } } }, []) := if_neg h

/-- The operation that a support entry asks. -/
def supportOp (g : Gallery) (i : Bladder) (u : Nat) : Op :=
  { bladder := i, target := u, origin := .support, bursts := 0, seed := false, step := none, kind := kindTowards (g.bladders.get i) u }

theorem askSupport_eq :
    askSupport s i t = askOp (setComfort s i (opTarget t)) (supportOp s.gallery i (min t 900)) := rfl

theorem askSupport_free (h : queuedFor s.gallery i = none) :
    askSupport s i t =
      ({ s with gallery := { s.gallery with
          bladders := s.gallery.bladders.set i
            { s.gallery.bladders.get i with comfort := some (min t 900), lastTarget := min t 900 },
          queue := s.gallery.queue ++ [supportOp s.gallery i (min t 900)] } }, [.serve]) := by
  have entered := enterOp_free (s := setComfort s i (opTarget t)) (op := supportOp s.gallery i (min t 900)) (kindTowards_moves _ _) h
  rw [askSupport_eq, askOp, entered]
  simp [setComfort, withGallery, putBladder, bladderOf, supportOp, set_set_bladder, opTarget, pressureCeiling]

theorem askSupport_queued {o : Op} (h : queuedFor s.gallery i = some o) :
    askSupport s i t =
      ({ s with gallery := { s.gallery with
          bladders := s.gallery.bladders.set i
            { s.gallery.bladders.get i with comfort := some (min t 900), lastTarget := min t 900, lastResult := some .cancelled },
          queue := s.gallery.queue.map (fun q => if q.bladder = i then supportOp s.gallery i (min t 900) else q) } },
        [.opResult o .cancelled, .serve]) := by
  have entered := enterOp_queued (s := setComfort s i (opTarget t)) (op := supportOp s.gallery i (min t 900)) (kindTowards_moves _ _) h
  rw [askSupport_eq, askOp, entered]
  simp [setComfort, withGallery, putBladder, bladderOf, supportOp, set_set_bladder, opTarget, pressureCeiling]
  exact fun _ _ => rfl

end

/-! ### SET HEAT and SET FAN (R134, R135) -/

section
variable {b : Base} {s : Seat} {z : Zone} {n level : Nat}

theorem setHeatCommand_takes (zone : zoneOfCode n = some z) (small : level ≤ 3) :
    setHeatCommand n level b s = accept (setHeat s z level) := by
  rw [setHeatCommand, zone]
  exact if_neg (Nat.not_lt.mpr small)

theorem setFanCommand_takes (zone : zoneOfCode n = some z) (small : level ≤ 3) :
    setFanCommand n level b s = accept (setFan b s z level) := by
  rw [setFanCommand, zone]
  exact if_neg (Nat.not_lt.mpr small)

end

/-- Settles O42: the context of a start, by the source, and what the entries of its support and climate parts do. -/
theorem recallsStart : Obligations.RecallsStart := by
  unfold Obligations.RecallsStart
  refine ⟨fun b s slot source key => ?_, fun s i t n level z => ?_⟩
  · intro p restores entry support climate
    by_cases back : restores
    · have entries (a : Axis) : (tabulate fun a => if s.brace.driven.get a then (profileOf s .brace).axes.get a else none).get a =
          entry a := (tabulate_get _ a).trans (if_pos back).symm
      refine ⟨newContext b s .brace .standDown none (restoreTargets b.fit s), ?_, ?_, back.symm, (if_pos back).symm, rfl, rfl, rfl, fun a => ?_⟩
      · rw [if_pos back, if_neg fun spoils => by rw [show source = .standDown from back] at spoils; simp at spoils,
          show source = .standDown from back]
        rfl
      · rw [if_pos back]
        rfl
      · have judged := newContext_judges (b := b) (s := s) (slot := .brace) (source := .standDown) (key := none)
          (goals := tabulate fun a => if s.brace.driven.get a then (profileOf s .brace).axes.get a else none) a
        rw [entries] at judged
        exact judged
    · have entries (a : Axis) : p.axes.get a = entry a := (if_neg back).symm
      refine ⟨newContext b s slot source key (copiedTargets b.fit p.axes), ?_, ?_, rfl, (if_neg back).symm, rfl, rfl, rfl, fun a => ?_⟩
      · change startFrom b s slot source key = _
        rw [startFrom_slot back, recallStart, recallSpoils_eq, if_neg back]
        rfl
      · rw [if_neg back]
        rfl
      · have judged := newContext_judges (b := b) (s := s) (slot := slot) (source := source) (key := key) (goals := p.axes) a
        rw [entries] at judged
        exact judged
  · intro b g u old set asked queued op applies at_
    refine ⟨fun refused => applySupport_refused ?_, fun ok free room => ?_, fun o ok held notBrace => ?_, fun w mode zone small => ⟨?_, ?_⟩⟩
    · by_cases fault : g.state = .fault
      · rw [verdict_fault fault]
        exact Verdict.noConfusion
      rcases refused with h | ⟨free, full⟩ | ⟨o, held, brace⟩
      · exact absurd h fault
      · rw [verdict_free fault free, if_neg (Nat.not_lt.mpr full)]
        exact Verdict.noConfusion
      · rw [verdict_queued fault held, if_pos brace]
        exact Verdict.noConfusion
    · have taken : verdict b g i = .taken := (verdict_free ok free).trans (if_pos room)
      exact (if_pos taken).trans (askSupport_free free)
    · have taken : verdict b g i = .taken := (verdict_queued ok held).trans (if_neg notBrace)
      exact (if_pos taken).trans (askSupport_queued held)
    · exact comfort_takes w ((passes_plain_iff _).mpr mode) fun l _ => setHeatCommand_takes (zoneOfCode_iff.mpr zone) small
    · exact comfort_takes w ((passes_plain_iff _).mpr mode) fun l _ => setFanCommand_takes (zoneOfCode_iff.mpr zone) small

end Sys2Proof.Machine
end

section
/-! SUPPORT. The waves of a recall, its end and its aborts, and how the owner of a move learns of its end (R56, R73, R76, R77, R142). -/
namespace Sys2Proof.Machine

/-! ### The waves (R73, R76) -/

section
variable {b : Base} {s : Seat} {r : Recall} {a : Axis} {t : Nat} {w : Wave} {o : RecallOutcome} {l : List Axis}

theorem mem_recallOrder (a : Axis) : a ∈ recallOrder := by cases a <;> decide

theorem unended_iff {v : RecallResult} : unended v = true ↔ v = .waiting ∨ v = .running := by
  cases v <;> simp [unended]

theorem waveOpen_iff :
    waveOpen r w = true ↔ ∃ a, r.wave.get a = some w ∧ (r.result.get a = .waiting ∨ r.result.get a = .running) := by
  rw [waveOpen, waveAxes, List.any_eq_true]
  refine exists_congr fun a => and_congr ?_ unended_iff
  rw [List.mem_filter, decide_eq_true_iff]
  exact and_iff_right (mem_recallOrder a)

theorem allReached_iff : allReached r = true ↔ ∀ a t, r.target.get a = some t → r.result.get a = .ended .reached := by
  rw [allReached, List.all_eq_true]
  refine ⟨fun all a t target => ?_, fun all a _ => ?_⟩
  · rcases (Bool.or_eq_true_iff ..).mp (all a (mem_axisOrder a)) with nothing | reached
    · rw [target] at nothing
      exact Bool.noConfusion nothing
    · exact of_decide_eq_true reached
  · cases target : r.target.get a with
    | none => rfl
    | some t => exact decide_eq_true (all a t target)

section
variable (runs : s.recallCtx = some r)
include runs

theorem recallCheck_open (wave : (r.phase = .wave1 ∧ waveOpen r .one = true) ∨ (r.phase = .wave2 ∧ waveOpen r .two = true)) :
    recallCheck s = (s, []) := by
  rw [recallCheck, runs]
  rcases wave with ⟨phase, still⟩ | ⟨phase, still⟩
  · simp only [phase, if_pos still]
    rfl
  · simp only [phase, if_pos still]
    rfl

theorem recallCheck_second (phase : r.phase = .wave1) (over_ : ¬ waveOpen r .one = true) :
    recallCheck s = ({ s with recallCtx := some { r with phase := .wave2 } }, (waveAxes r .two).map .recallHand ++ [.recallCheck]) := by
  rw [recallCheck, runs]
  simp only [phase, if_neg over_]

theorem recallCheck_ends (phase : r.phase = .wave2) (over_ : ¬ waveOpen r .two = true) : recallCheck s = finishRecall s r := by
  rw [recallCheck, runs]
  simp only [phase, if_neg over_]

theorem recallHand_judged {v : RecallResult} (target : r.target.get a = some t) (waits : r.result.get a = .waiting)
    (phase : r.phase = .wave2) (judged : judgeAxis (b.cfg.axis.get a) (axisOf s a) t = some v) :
    recallHand b s a = ({ s with recallCtx := some { r with result := r.result.set a v } }, []) := by
  unfold recallHand
  simp only [runs, target, waits, if_pos phase, judged]
  rfl

theorem recallHand_moves (target : r.target.get a = some t) (waits : r.result.get a = .waiting)
    (away : r.phase = .wave2 → judgeAxis (b.cfg.axis.get a) (axisOf s a) t = none) :
    recallHand b s a =
      takeMove b { s with recallCtx := some { r with result := r.result.set a .running } } a (recallOwner r.source)
        (toTargetMove (b.cfg.axis.get a) (axisOf s a) t) := by
  have again : (if r.phase = .wave2 then judgeAxis (b.cfg.axis.get a) (axisOf s a) t else none) = none := by
    by_cases phase : r.phase = .wave2
    · rw [if_pos phase, away phase]
    · rw [if_neg phase]
  unfold recallHand
  simp only [runs, target, waits, again]
  rfl

end

/-! ### The end of a context (R76, R77) -/

/-- The seat in which a context has ended with its last-recall record. -/
def recorded (s : Seat) (r last : Recall) (o : RecallOutcome) : Seat :=
  post { s with recallCtx := none, lastRecall := some last } .recallDone .none
    (pairWord (slotCode r.slot * 16 + sourceCode r.source) (outcomeCode o))

theorem noteRestore_eq (source : Source) :
    noteRestore s source o =
      { s with brace := if source = .standDown then { s.brace with restore := restoreOf o } else s.brace } := by
  unfold noteRestore
  split <;> rfl

theorem afterEntry_eq (slot : Option Slot) :
    afterEntry s slot =
      { s with profiles := if slot = some .return then s.profiles.set .return Reset.profile else s.profiles } := by
  unfold afterEntry loseReturn
  split <;> rfl

/-- The moves of an abort end one after another; what their ends call for follows in their order. -/
theorem forEach_foldl (f : Axis → Seat → Did) :
    forEach l f s = l.foldl (fun y a => ((f a y.1).1, y.2 ++ (f a y.1).2)) (s, []) := rfl

end

/-! ### The end of a move (R56, R76, R142) -/

section
variable {b : Base} {s : Seat} {c e : Contact} {a : Axis} {v : MoveResult}

theorem holdOff_scanner (a : Axis) (d : Dir) :
    ∃ sc : Scanner, holdOff s (.axis a d) = { s with scanner := sc } ∧ sc = { s.scanner with axes := sc.axes } := by
  unfold holdOff
  split
  · exact ⟨_, rfl, rfl⟩
  · exact ⟨s.scanner, rfl, rfl⟩

theorem contactOf_holdOff :
    contactOf (holdOff s c).scanner e =
      if e = c ∧ (contactOf s.scanner e).cond = some .active then { contactOf s.scanner e with cond := some .heldOff }
      else contactOf s.scanner e := by
  unfold holdOff isActive
  by_cases same : e = c
  · subst same
    by_cases active : (contactOf s.scanner e).cond = some .active
    · rw [if_pos (decide_eq_true active), if_pos ⟨rfl, active⟩]
      exact (contactOf_putContact ..).trans (if_pos rfl)
    · rw [if_neg (by rw [decide_eq_true_iff]; exact active), if_neg fun h => active h.2]
  · rw [if_neg (c := e = c ∧ _) fun h => same h.1]
    split
    · exact (contactOf_putContact ..).trans (if_neg same)
    · rfl

theorem moveEnded_manual (s : Seat) (a : Axis) (v : MoveResult) :
    moveEnded s a .manual v = (holdOff (holdOff s (.axis a .up)) (.axis a .down), []) := rfl

theorem moveEnded_recall {r : Recall} (runs : s.recallCtx = some r) (moves : r.result.get a = .running) :
    moveEnded s a .recall v = ({ s with recallCtx := some { r with result := r.result.set a (.ended v) } }, [.recallCheck]) := by
  unfold moveEnded
  rw [runs]
  exact if_pos moves

theorem moveEnded_recall_nothing (h : ∀ r, s.recallCtx = some r → r.result.get a ≠ .running) :
    moveEnded s a .recall v = (s, []) := by
  unfold moveEnded
  cases ctx : s.recallCtx with
  | none => rfl
  | some r => exact if_neg (h r ctx)

theorem braceMoveEnded_restore {r : Recall} (mode : s.brace.mode = .releasing) (runs : s.recallCtx = some r)
    (moves : r.result.get a = .running) :
    braceMoveEnded s a v = ({ s with recallCtx := some { r with result := r.result.set a (.ended v) } }, [.recallCheck]) := by
  unfold braceMoveEnded
  rw [mode, runs]
  exact if_pos moves

theorem braceMoveEnded_restore_nothing (mode : s.brace.mode = .releasing)
    (h : ∀ r, s.recallCtx = some r → r.result.get a ≠ .running) : braceMoveEnded s a v = (s, []) := by
  unfold braceMoveEnded
  rw [mode]
  cases ctx : s.recallCtx with
  | none => rfl
  | some r => exact if_neg (h r ctx)

theorem braceMoveEnded_bracing (mode : s.brace.mode = .bracing) :
    braceMoveEnded s a v =
      if s.brace.axisAction.get a = .running then
        ({ s with brace := { s.brace with axisAction := s.brace.axisAction.set a (.ended v) } }, [.braceCheck])
      else (s, []) := by
  unfold braceMoveEnded
  rw [mode]
  rfl

theorem braceMoveEnded_other (notBracing : s.brace.mode ≠ .bracing) (notReleasing : s.brace.mode ≠ .releasing) :
    braceMoveEnded s a v = (s, []) := by
  unfold braceMoveEnded
  cases mode : s.brace.mode with
  | bracing => exact absurd mode notBracing
  | releasing => exact absurd mode notReleasing
  | idle => rfl
  | braced => rfl
  | locked => rfl

end

/-- Settles O43: the waves and the end of a context, its abort, and what the owner of a move does at its end. -/
theorem recallsRunEndAndAbort : Obligations.RecallsRunEndAndAbort := by
  unfold Obligations.RecallsRunEndAndAbort
  refine ⟨fun b s r runs => ?_, fun s o w => ?_, fun b s a v => ?_⟩
  · intro order unended
    have open_ (w : Wave) : waveOpen r w = true ↔ unended w := waveOpen_iff
    refine ⟨fun phase still => recallCheck_open runs (.inl ⟨phase, (open_ .one).mpr still⟩),
      fun phase over_ => recallCheck_second runs phase fun h => over_ ((open_ .one).mp h),
      fun phase still => recallCheck_open runs (.inr ⟨phase, (open_ .two).mpr still⟩),
      fun phase over_ => ?_, fun a t target waits => ?_⟩
    · intro ends complete
      have finished : runTask .recallCheck b s = finishRecall s r := recallCheck_ends runs phase fun h => over_ ((open_ .two).mp h)
      have closes {o : RecallOutcome} (outcome : (if allReached r then RecallOutcome.complete else .partlyDone) = o)
          (restored : restoreOf o = if o = .complete then .complete else .partlyDone) : ends o := by
        refine finished.trans ?_
        rw [finishRecall, outcome]
        dsimp only
        rw [noteRestore_eq, afterEntry_eq, restored]
        rfl
      exact ⟨fun h => closes (if_pos (allReached_iff.mpr h)) rfl, fun h => closes (if_neg fun e => h (allReached_iff.mp e)) rfl⟩
    · intro x cf aim near records hands
      have moves (away : r.phase = .wave2 → judgeAxis cf x t = none) : hands := recallHand_moves runs target waits away
      refine ⟨fun phase => moves fun second => Phase.noConfusion (phase.symm.trans second),
        fun phase => ⟨fun fault => ?_, fun ok unknown => ?_, fun ok known h => ?_, fun ok known away => ?_⟩⟩
      · exact recallHand_judged runs target waits phase (judgeAxis_fault fault)
      · exact recallHand_judged runs target waits phase (judgeAxis_unlearned ok unknown)
      · exact recallHand_judged runs target waits phase (judgeAxis_reached ok known h)
      · exact moves fun _ => judgeAxis_moves ok known away
  · refine ⟨event_works w fun b t => abortRecall b (recallTimeUp t) .timeout, fun nothing => by rw [abortRecall, nothing]; rfl, fun r runs => ?_⟩
    intro result ends next
    refine ⟨{ r with phase := .aborted, outcome := some o, result := tabulate fun a => abortedResult s.seat o a (r.result.get a) },
      ?_, rfl, rfl, rfl, rfl, rfl, rfl, rfl, rfl, fun a => ?_⟩
    · rw [abortRecall, runs]
      dsimp only
      rw [noteRestore_eq, forEach_foldl]
      rfl
    · rw [tabulate_get]
      cases r.result.get a <;> rfl
  · intro hands
    refine ⟨?_, ⟨?_, ?_, ?_⟩, fun r runs moves => ?_, fun nothing => ⟨moveEnded_recall_nothing nothing, fun mode => ?_⟩,
      fun mode => ⟨fun moves => ?_, fun still => ?_⟩, braceMoveEnded_other⟩
    · obtain ⟨first, upOff, upRest⟩ := holdOff_scanner (s := s) a .up
      obtain ⟨second, downOff, downRest⟩ := holdOff_scanner (s := holdOff s (.axis a .up)) a .down
      have both : holdOff (holdOff s (.axis a .up)) (.axis a .down) = { s with scanner := second } := by
        rw [downOff, upOff]
      refine ⟨second, (moveEnded_manual s a v).trans (congrArg (·, []) both), ?_, fun c => ?_⟩
      · rw [downRest, upOff]
        exact congrArg (fun sc : Scanner => { sc with axes := second.axes }) upRest
      · intro k off
        have after : contactOf second c = contactOf (holdOff (holdOff s (.axis a .up)) (.axis a .down)).scanner c := by rw [both]
        rw [after, contactOf_holdOff, contactOf_holdOff]
        by_cases up : c = .axis a .up
        · have notDown : c ≠ .axis a .down := by rw [up]; simp
          simp [up, k, off]
        · simp [up, k, off]
    · unfold hands runTask moveEnded; cases s.recallCtx <;> rfl
    · unfold hands runTask moveEnded; cases s.recallCtx <;> rfl
    · unfold hands runTask moveEnded; cases s.recallCtx <;> rfl
    · exact ⟨moveEnded_recall runs moves, fun mode => braceMoveEnded_restore mode runs moves⟩
    · exact braceMoveEnded_restore_nothing mode nothing
    · exact (braceMoveEnded_bracing mode).trans (if_pos moves)
    · exact (braceMoveEnded_bracing mode).trans (if_neg still)

end Sys2Proof.Machine
end

section
/-! SUPPORT. A support operation and a lumbar step: the judgement and what is taken (R90, R98, R99, R102 to R104). -/
namespace Sys2Proof.Machine

section
variable {b : Base} {s : Seat} {g h : Gallery} {i : Bladder} {l : LumbarStep} {n target : Nat}

theorem forEach_append {α : Type} (l k : List α) (f : α → Seat → Did) (s : Seat) :
    forEach (l ++ k) f s = andThen (forEach l f s) (forEach k f) := by
  rw [andThen_forEach]
  exact List.foldl_append

theorem supportOfCode_none (high : 6 ≤ n) : supportOfCode n = none := List.getElem?_eq_none high

theorem lumbarOfCode_none (high : 4 ≤ n) : lumbarOfCode n = none := List.getElem?_eq_none high

theorem setSupport_refuses {r : Result} (known : supportOfCode n = some i) (h : verdictCode (verdict b s.gallery i) = some r) :
    setSupport n target b s = refuse r s := by
  rw [setSupport, known]
  dsimp only
  rw [h]

theorem setSupport_takes (known : supportOfCode n = some i) (h : verdict b s.gallery i = .taken) :
    setSupport n target b s = accept (askSupport s i target) := by
  rw [setSupport, known]
  dsimp only
  rw [h]
  rfl

/-! ### An entry (R99) -/

/-- What the entry of a fill or a vent makes of the gallery, and the result that it hands. -/
def entered (h : Gallery) (op : Op) : Gallery × List Task :=
  match queuedFor h op.bladder with
  | none =>
    ({ h with bladders := h.bladders.set op.bladder { h.bladders.get op.bladder with lastTarget := op.target },
              queue := h.queue ++ [op] }, [])
  | some o =>
    ({ h with
        bladders := h.bladders.set op.bladder { h.bladders.get op.bladder with lastTarget := op.target, lastResult := some .cancelled },
        queue := h.queue.map (fun q => if q.bladder = op.bladder then op else q) }, [.opResult o .cancelled])

theorem enterOp_entered {op : Op} (moves : op.kind ≠ .measure) :
    enterOp s op = ({ s with gallery := (entered s.gallery op).1 }, (entered s.gallery op).2) := by
  unfold entered
  cases queued : queuedFor s.gallery op.bladder with
  | none => exact enterOp_free moves queued
  | some o => exact enterOp_queued moves queued

theorem entered_measured (op : Op) : ((entered h op).1.bladders.get i).measured = (h.bladders.get i).measured := by
  unfold entered
  split
  all_goals
    rw [PerBladder.get_set]
    split
    · subst i
      rfl
    · rfl

/-! ### A lumbar step (R103) -/

/-- The value that a step gives LU, or LL. -/
def stepValue (g : Gallery) (raise : Bool) (i : Bladder) : Nat :=
  min 600 (if raise then lumbarBase (g.bladders.get i) + 20 else lumbarBase (g.bladders.get i) - 20)

theorem lumbarValue_eq (raise : Bool) : lumbarValue raise (lumbarBase (bladderOf g i)) = stepValue g raise i := by
  cases raise <;> rfl

/-- The bladder asks an operation when its value changes. -/
def stepAsks (g : Gallery) (raise : Bool) (i : Bladder) : List (Bladder × Nat) :=
  if stepValue g raise i ≠ lumbarBase (g.bladders.get i) then [(i, stepValue g raise i)] else []

section
variable {up down : Bool} (raises : lumbarRaises l = (up, down))
include raises

theorem lumbarValues_eq : lumbarValues g l = (stepValue g up .lu, stepValue g down .ll) := by
  rw [lumbarValues, raises]
  exact congrArg₂ Prod.mk (lumbarValue_eq up) (lumbarValue_eq down)

theorem lumbarAsks_eq : lumbarAsks g l = stepAsks g up .lu ++ stepAsks g down .ll := by
  rw [lumbarAsks, lumbarValues_eq raises]
  unfold stepAsks
  by_cases first : stepValue g up .lu = lumbarBase (g.bladders.get .lu) <;>
    by_cases second : stepValue g down .ll = lumbarBase (g.bladders.get .ll) <;>
      simp [bladderOf, first, second]

end

/-- A bladder that asks has a queued brace operation. -/
def MeetsBrace (g : Gallery) (raise : Bool) (i : Bladder) : Prop :=
  stepValue g raise i ≠ lumbarBase (g.bladders.get i) ∧ ∃ o, queuedFor g i = some o ∧ o.origin = .brace

/-- The entries that an asking bladder adds to the queue. -/
def stepAdds (g : Gallery) (raise : Bool) (i : Bladder) : Nat :=
  if stepValue g raise i ≠ lumbarBase (g.bladders.get i) ∧ queuedFor g i = none then 1 else 0

theorem stepAsks_braced {raise : Bool} :
    ((stepAsks g raise i).map Prod.fst).any (fun x => (queuedFor g x).any fun o => o.origin = .brace) = true ↔
      MeetsBrace g raise i := by
  unfold stepAsks MeetsBrace
  by_cases asks : stepValue g raise i ≠ lumbarBase (g.bladders.get i)
  · rw [if_pos asks]
    cases queued : queuedFor g i <;> simp [asks, queued]
  · rw [if_neg asks]
    simp [asks]

theorem stepAsks_added {raise : Bool} :
    (((stepAsks g raise i).map Prod.fst).filter (fun x => (queuedFor g x).isNone)).length = stepAdds g raise i := by
  unfold stepAsks stepAdds
  by_cases asks : stepValue g raise i ≠ lumbarBase (g.bladders.get i)
  · rw [if_pos asks]
    cases queued : queuedFor g i <;> simp [asks, queued]
  · rw [if_neg asks, if_neg fun h => asks h.1]
    rfl

section
variable {up down : Bool} (raises : lumbarRaises l = (up, down))

theorem lumbarVerdict_fault (fault : g.state = .fault) : lumbarVerdict b g l = .fault := by
  unfold lumbarVerdict
  exact if_pos fault

variable (ok : g.state ≠ .fault)
include raises ok

theorem lumbarVerdict_busy (braced : MeetsBrace g up .lu ∨ MeetsBrace g down .ll) : lumbarVerdict b g l = .busy := by
  unfold lumbarVerdict
  dsimp only
  rw [if_neg ok, lumbarAsks_eq raises, List.map_append, List.any_append]
  exact if_pos ((Bool.or_eq_true_iff ..).mpr (braced.imp stepAsks_braced.mpr stepAsks_braced.mpr))

theorem lumbarVerdict_room (free : ¬ (MeetsBrace g up .lu ∨ MeetsBrace g down .ll)) :
    lumbarVerdict b g l =
      if stepAdds g up .lu + stepAdds g down .ll ≠ 0 ∧
          b.cfg.queueLimit < g.queue.length + (stepAdds g up .lu + stepAdds g down .ll) then .full
      else .taken := by
  unfold lumbarVerdict
  dsimp only
  rw [if_neg ok, lumbarAsks_eq raises, List.map_append, List.any_append,
    if_neg fun h => free (((Bool.or_eq_true_iff ..).mp h).imp stepAsks_braced.mp stepAsks_braced.mp),
    List.filter_append, List.length_append, stepAsks_added, stepAsks_added]

end

/-! ### A step that is taken (R103) -/

theorem kindTowards_congr {r q : BladderState} (same : r.measured = q.measured) (t : Nat) : kindTowards r t = kindTowards q t := by
  rw [kindTowards, kindTowards, same]

theorem stepValue_small (g : Gallery) (raise : Bool) (i : Bladder) : opTarget (stepValue g raise i) = stepValue g raise i :=
  Nat.min_eq_left (Nat.le_trans (Nat.min_le_left _ _) (by decide))

/-- What a bladder's part of a step makes of the gallery. -/
def stepEntered (g h : Gallery) (raise : Bool) (i : Bladder) : Gallery × List Task :=
  if stepValue g raise i = lumbarBase (g.bladders.get i) then (h, [])
  else entered h (supportOp g i (stepValue g raise i))

theorem stepEntered_measured {raise : Bool} {j : Bladder} :
    ((stepEntered g h raise i).1.bladders.get j).measured = (h.bladders.get j).measured := by
  unfold stepEntered
  split
  · rfl
  · exact entered_measured _

/-- The operation that an asking bladder enters. -/
def stepOp (tag : Option Nat) (p : Bladder × Nat) (t : Seat) : Did :=
  enterOp t { mkOp p.1 (kindTowards (bladderOf t.gallery p.1) p.2) p.2 .support with step := tag }

theorem forEach_stepAsks {raise : Bool} (same : (s.gallery.bladders.get i).measured = (g.bladders.get i).measured) :
    forEach (stepAsks g raise i) (stepOp none) s =
      ({ s with gallery := (stepEntered g s.gallery raise i).1 }, (stepEntered g s.gallery raise i).2) := by
  unfold stepAsks stepEntered
  by_cases still : stepValue g raise i = lumbarBase (g.bladders.get i)
  · rw [if_neg (not_not.mpr still), if_pos still]
    rfl
  · rw [if_pos still, if_neg still]
    have asked : stepOp none (i, stepValue g raise i) s = enterOp s (supportOp g i (stepValue g raise i)) := by
      unfold stepOp supportOp mkOp
      dsimp only
      rw [stepValue_small, kindTowards_congr (r := bladderOf s.gallery i) (q := g.bladders.get i) same]
    exact asked.trans (enterOp_entered (kindTowards_moves _ _))

/-- A bladder with the comfort target that a step gives it. -/
def stepAimed (g : Gallery) (raise : Bool) (i : Bladder) : BladderState :=
  { g.bladders.get i with comfort := some (stepValue g raise i) }

/-- The gallery once both comfort targets are set. -/
def stepBegun (g : Gallery) (up down : Bool) : Gallery :=
  { g with bladders := (g.bladders.set .lu (stepAimed g up .lu)).set .ll (stepAimed g down .ll) }

theorem stepBegun_measured {up down : Bool} : ((stepBegun g up down).bladders.get i).measured = (g.bladders.get i).measured := by
  cases i <;> rfl

theorem lumbarStep_eq {up down : Bool} (raises : lumbarRaises l = (up, down)) :
    lumbarStep s l none =
      (let one := stepEntered s.gallery (stepBegun s.gallery up down) up .lu
       let two := stepEntered s.gallery one.1 down .ll
       ({ s with gallery := two.1 }, one.2 ++ two.2 ++ [.serve])) := by
  have begun : setComfort (setComfort s .lu (stepValue s.gallery up .lu)) .ll (stepValue s.gallery down .ll) =
      { s with gallery := stepBegun s.gallery up down } := rfl
  have steps : lumbarStep s l none =
      andThen (forEach (lumbarAsks s.gallery l) (stepOp none)
        (setComfort (setComfort s .lu (lumbarValues s.gallery l).1) .ll (lumbarValues s.gallery l).2)) (fun t => (t, [.serve])) := rfl
  rw [steps, lumbarValues_eq raises, lumbarAsks_eq raises, begun, forEach_append, forEach_stepAsks stepBegun_measured]
  have second := forEach_stepAsks (g := s.gallery) (raise := down) (i := .ll)
    (s := { s with gallery := (stepEntered s.gallery (stepBegun s.gallery up down) up .lu).1 })
    (stepEntered_measured.trans stepBegun_measured)
  refine (congrArg (andThen · _)
      (congrArg (fun y : Did => (y.1, (stepEntered s.gallery (stepBegun s.gallery up down) up .lu).2 ++ y.2)) second)).trans ?_
  rfl

theorem lumbarAdjust_refuses {r : Result} (known : lumbarOfCode n = some l) (h : verdictCode (lumbarVerdict b s.gallery l) = some r) :
    lumbarAdjust n b s = refuse r s := by
  rw [lumbarAdjust, known]
  dsimp only
  rw [h]

theorem lumbarAdjust_takes (known : lumbarOfCode n = some l) (h : lumbarVerdict b s.gallery l = .taken) :
    lumbarAdjust n b s = accept (lumbarStep s l none) := by
  rw [lumbarAdjust, known]
  dsimp only
  rw [h]
  rfl

end

/-- Settles O44: the fault, the queue and its limit decide SET SUPPORT and LUMBAR ADJUST, and say what enters. -/
theorem supportCommandsAnswer : Obligations.SupportCommandsAnswer := by
  unfold Obligations.SupportCommandsAnswer
  intro s n target w g queued op
  refine ⟨fun mode => ?_, fun idle => ?_⟩
  · have runs : passes s.seat.brace.mode .plain = true := (passes_plain_iff _).mpr mode
    refine ⟨fun fault => comfort_takes w runs fun l _ => if_pos fault, fun ok => comfort_refuses w runs fun l _ => if_neg ok,
      fun high => comfort_refuses w runs fun l _ => by rw [setSupport, supportOfCode_none high], fun i known => ?_⟩
    intro t
    refine ⟨fun fault => comfort_refuses w runs fun l _ => setSupport_refuses known ?_, fun ok => ⟨fun o held brace => ?_,
      fun free full => ?_, fun free room => ?_, fun o held notBrace => ?_⟩⟩
    · rw [verdict_fault fault]
      rfl
    · refine comfort_refuses w runs fun l _ => setSupport_refuses known ?_
      rw [verdict_queued ok held, if_pos brace]
      rfl
    · refine comfort_refuses w runs fun l _ => setSupport_refuses known ?_
      rw [verdict_free ok free]
      exact congrArg verdictCode (if_neg (Nat.not_lt.mpr full))
    · exact comfort_takes w runs fun l _ => (setSupport_takes known ((verdict_free ok free).trans (if_pos room))).trans
        (congrArg accept (askSupport_free free))
    · exact comfort_takes w runs fun l _ => (setSupport_takes known ((verdict_queued ok held).trans (if_neg notBrace))).trans
        (congrArg accept (askSupport_queued held))
  · have runs : passes s.seat.brace.mode .motion = true := passes_idle .motion idle
    refine ⟨fun high => comfort_refuses w runs fun l _ => by rw [lumbarAdjust, lumbarOfCode_none high], fun up down code => ?_⟩
    intro base value asks braced added more
    obtain ⟨step, known, raises⟩ : ∃ step, lumbarOfCode n = some step ∧ lumbarRaises step = (up, down) := by
      rcases code with ⟨rfl, rfl, rfl⟩ | ⟨rfl, rfl, rfl⟩ | ⟨rfl, rfl, rfl⟩ | ⟨rfl, rfl, rfl⟩
      · exact ⟨.stepIn, rfl, rfl⟩
      · exact ⟨.stepOut, rfl, rfl⟩
      · exact ⟨.stepUp, rfl, rfl⟩
      · exact ⟨.stepDown, rfl, rfl⟩
    refine ⟨fun fault => comfort_refuses w runs fun l _ => lumbarAdjust_refuses known ?_, fun ok => ⟨fun busy => ?_,
      fun free some full => ?_, fun free room => ?_⟩⟩
    · exact congrArg verdictCode (lumbarVerdict_fault fault)
    · exact comfort_refuses w runs fun l _ => lumbarAdjust_refuses known (congrArg verdictCode (lumbarVerdict_busy raises ok busy))
    · exact comfort_refuses w runs fun l _ => lumbarAdjust_refuses known
        (congrArg verdictCode ((lumbarVerdict_room raises ok free).trans (if_pos ⟨some, full⟩)))
    · intro aimed begun enter one two
      have entry (h : Gallery) (raise : Bool) (i : Bladder) : enter h i (value raise i) = stepEntered g h raise i := rfl
      have stepped : lumbarStep s.seat step none = ({ s.seat with gallery := two.1 }, one.2 ++ two.2 ++ [.serve]) := lumbarStep_eq raises
      rw [← stepped]
      refine comfort_takes w runs fun l _ => lumbarAdjust_takes known ((lumbarVerdict_room raises ok free).trans (if_neg ?_))
      rintro ⟨some, full⟩
      exact room.elim some fun fits => Nat.not_lt.mpr fits full

end Sys2Proof.Machine
end

section
/-! SUPPORT. The service of the gallery's head, its timers, and what a reading decides (R91 to R97). -/
namespace Sys2Proof.Machine

section
variable {b : Base} {s : Seat} {g : Gallery} {op : Op} {rest : List Op} {p code : Nat} {r : OpResult}

/-! ### The completion test (R91, R94) -/

theorem meets_iff {tolerance : Nat} :
    meets tolerance op p = true ↔
      op.kind = .measure ∨ (op.kind = .fill ∧ op.target ≤ p + tolerance) ∨ (op.kind = .vent ∧ p ≤ op.target + tolerance) := by
  unfold meets
  cases op.kind <;> simp

theorem doneAtOnce_iff {tolerance : Nat} {x : BladderState} :
    doneAtOnce tolerance op x = true ↔ ∃ p, x.measured = some p ∧
      ((op.kind = .fill ∧ op.target ≤ p + tolerance) ∨ (op.kind = .vent ∧ p ≤ op.target + tolerance)) := by
  unfold doneAtOnce meets
  cases op.kind <;> cases x.measured <;> simp

/-! ### The end of the operation in flight (R96) -/

/-- The gallery that an operation leaves when it ends. -/
def flightEnded (g : Gallery) (op : Op) (r : OpResult) : Gallery :=
  { g with
    inFlight := none, burstLeft := none, waitLeft := none, settleLeft := none,
    bladders := g.bladders.set op.bladder { g.bladders.get op.bladder with lastResult := some r } }

theorem endFlight_eq (h : s.gallery.inFlight = some op) :
    endFlight s r =
      ((releaseClaim (endNotice { s with gallery := flightEnded s.gallery op r } op.bladder r) .compressor).1,
        (releaseClaim (endNotice { s with gallery := flightEnded s.gallery op r } op.bladder r) .compressor).2 ++
          [.opResult op r, .galleryIdle]) := by
  rw [endFlight, h] <;> rfl

theorem writeResult_fold (gone : List Op) (g : Gallery) :
    gone.foldl (fun g o => writeResult g o.bladder r) g =
      { g with bladders := gone.foldl (fun l o => l.set o.bladder { l.get o.bladder with lastResult := some r }) g.bladders } := by
  induction gone generalizing g with
  | nil => rfl
  | cons o gone ih => exact ih _

theorem removeQueued_all :
    removeQueued s (fun _ => true) r =
      ({ s with gallery := { s.gallery with
          queue := [],
          bladders := s.gallery.queue.foldl (fun l o => l.set o.bladder { l.get o.bladder with lastResult := some r })
            s.gallery.bladders } }, s.gallery.queue.map (fun o => .opResult o r)) := by
  have all : s.gallery.queue.filter (fun _ => true) = s.gallery.queue := List.filter_eq_self.mpr fun _ _ => rfl
  have nothing : s.gallery.queue.filter (fun _ => !true) = [] := List.filter_eq_nil_iff.mpr fun _ _ => Bool.false_ne_true
  rw [removeQueued, all, nothing]
  dsimp only
  rw [writeResult_fold]
  rfl

/-! ### Bursts and settles (R92 to R94) -/

/-- The gallery when a burst begins, before its state and its wait are set. -/
def burstBegun (b : Base) (g : Gallery) (op : Op) : Gallery :=
  { g with inFlight := some { op with bursts := op.bursts + 1 }, burstLeft := some b.cfg.burstTime, settleLeft := none, waitLeft := none }

theorem beginBurst_vent (h : op.kind = .vent) :
    beginBurst b s op = ({ s with gallery := { burstBegun b s.gallery op with state := .venting } }, []) := by
  obtain ⟨bladder, kind, target, origin, bursts, seed, step⟩ := op
  cases (h : kind = .vent)
  rfl

section
variable (fill : op.kind = .fill)
include fill

theorem beginBurst_granted (granted : isGranted s.alloc .compressor = true) :
    beginBurst b s op = ({ s with gallery := { burstBegun b s.gallery op with state := .filling } }, []) := by
  obtain ⟨bladder, kind, target, origin, bursts, seed, step⟩ := op
  cases (fill : kind = .fill)
  exact if_pos granted

theorem beginBurst_pending (waits : isGranted s.alloc .compressor = false) (pending : isPending s.alloc .compressor = true) :
    beginBurst b s op =
      ({ s with gallery := { burstBegun b s.gallery op with state := .filling, waitLeft := some compressorWaitLimit } }, []) := by
  obtain ⟨bladder, kind, target, origin, bursts, seed, step⟩ := op
  cases (fill : kind = .fill)
  exact (if_neg (Bool.eq_false_iff.mp waits)).trans (if_pos pending)

theorem beginBurst_raises (free : holdsClaim s.alloc .compressor = false) :
    beginBurst b s op =
      ({ s with
          gallery := { burstBegun b s.gallery op with state := .filling, waitLeft := some compressorWaitLimit },
          alloc := arrive s.alloc .compressor (compressorClass op.origin) b.cfg.compressorClaim 0 }, [.pass]) := by
  obtain ⟨waits, nothing⟩ := (Bool.or_eq_false_iff ..).mp free
  obtain ⟨bladder, kind, target, origin, bursts, seed, step⟩ := op
  cases (fill : kind = .fill)
  exact (if_neg (Bool.eq_false_iff.mp waits)).trans
    ((if_neg (Bool.eq_false_iff.mp nothing)).trans (if_neg (Bool.eq_false_iff.mp free)))

end

theorem burstRuns_iff :
    burstRuns s = true ↔ s.gallery.burstLeft.isSome = true ∧
      (s.gallery.state = .venting ∨ (s.gallery.state = .filling ∧ isGranted s.alloc .compressor = true)) := by
  simp [burstRuns, compressorOn]

theorem galleryIdle_free (free : s.gallery.inFlight = none) (ok : s.gallery.state ≠ .fault) :
    galleryIdle s = ({ s with gallery := { s.gallery with state := .idle } }, [.serve]) :=
  if_neg (by rw [free]; simp [ok])

/-! ### Service (R91) -/

theorem serve_nothing (h : s.gallery.queue = [] ∨ s.gallery.state ≠ .idle) : serve b s = (s, []) := by
  unfold serve
  by_cases busy : s.gallery.state ≠ .idle ∨ s.gallery.inFlight.isSome
  · exact if_pos busy
  · rw [if_neg busy, h.resolve_right fun e => busy (.inl e)]
    rfl

theorem serve_head (queue : s.gallery.queue = op :: rest) (idle : s.gallery.state = .idle) (free : s.gallery.inFlight = none) :
    serve b s =
      ((beginService b { s with gallery := { s.gallery with queue := rest } } op).1,
        (beginService b { s with gallery := { s.gallery with queue := rest } } op).2 ++ [.engineRetry]) := by
  unfold serve
  rw [if_neg (by rw [idle, free]; simp), queue]
  rfl

theorem beginService_done (h : doneAtOnce b.cfg.tolerance op (s.gallery.bladders.get op.bladder) = true) :
    beginService b s op =
      endFlight { s with gallery := { s.gallery with state := .measuring, inFlight := some { op with bursts := 0 } } } .done := if_pos h

theorem beginService_measure (measure : op.kind = .measure) :
    beginService b s op =
      ({ s with gallery := { s.gallery with
          state := .settling, inFlight := some { op with bursts := 0 }, burstLeft := none, waitLeft := none,
          settleLeft := some b.cfg.settleTime } }, []) := by
  unfold beginService
  have later : ¬ doneAtOnce b.cfg.tolerance { op with bursts := 0 } (bladderOf s.gallery op.bladder) = true := by
    rw [doneAtOnce_iff, measure]
    simp
  exact (if_neg later).trans (if_pos measure)

theorem beginService_burst (moves : op.kind ≠ .measure)
    (later : ¬ doneAtOnce b.cfg.tolerance op (s.gallery.bladders.get op.bladder) = true) :
    beginService b s op = beginBurst b s { op with bursts := 0 } := (if_neg later).trans (if_neg moves)

/-! ### Readings (R94, R97) -/

/-- The seat once a reading is taken. -/
def readSeat (s : Seat) (op : Op) (code : Nat) : Seat :=
  { s with gallery := { s.gallery with
      lastReading := some code,
      bladders := s.gallery.bladders.set op.bladder { s.gallery.bladders.get op.bladder with measured := some code } } }

theorem reading_within (flight : s.gallery.inFlight = some op) (low : 8 ≤ code) (high : code ≤ 1015) :
    reading b s code = afterReading b (readSeat s op code) op code := by
  rw [reading, flight]
  exact if_neg (by omega)

theorem afterReading_met (h : meets b.cfg.tolerance op p = true) : afterReading b s op p = endFlight s .done := if_pos h

theorem afterReading_last (away : ¬ meets b.cfg.tolerance op p = true) (last : b.cfg.burstLimit ≤ op.bursts) :
    afterReading b s op p = endFlight s .limit := (if_neg away).trans (if_neg (Nat.not_lt.mpr last))

theorem afterReading_again (away : ¬ meets b.cfg.tolerance op p = true) (more : op.bursts < b.cfg.burstLimit) :
    afterReading b s op p = beginBurst b s op := (if_neg away).trans (if_pos more)

/-- The seat in which the sensor has failed. -/
def brokenSeat (s : Seat) (code : Nat) : Seat :=
  { s with gallery := { s.gallery with lastReading := some code, state := .fault } }

theorem reading_outside (flight : s.gallery.inFlight = some op) (outside : code < 8 ∨ 1015 < code) :
    reading b s code =
      (let y := endFlight (brokenSeat s code) .sensor
       let z := removeQueued y.1 (fun _ => true) .sensor
       (z.1, y.2 ++ z.2 ++ [.engineRetry, .sensorNotice code])) := by
  rw [reading, flight]
  exact if_pos outside

end

/-- Settles O45: service of the head by its kind and its bladder's pressure, the ends of burst and settle, and the compressor's claim. -/
theorem galleryServesItsHead : Obligations.GalleryServesItsHead := by
  unfold Obligations.GalleryServesItsHead
  refine ⟨fun s w => ?_, fun b s code => ?_⟩
  · intro b g at_
    refine ⟨fun bursts => ?_, fun settles => ?_, galleryIdle_free, serve_nothing, fun op rest queue idle free => ?_⟩
    · have runs : burstRuns s.seat = true := burstRuns_iff.mpr bursts
      exact (eventIf_works w runs fun b t => done (beginSettle b t)).trans (congrArg Host.Outcome.next (actOn_done s _))
    · exact (eventIf_works w (decide_eq_true settles) fun _ t => done (beginMeasuring t)).trans
        (congrArg Host.Outcome.next (actOn_done s _))
    · intro first meets near serves
      have doneIff : doneAtOnce b.cfg.tolerance op (g.bladders.get op.bladder) = true ↔ near := doneAtOnce_iff
      have served {y : Did} (begun : beginService b { s.seat with gallery := { g with queue := rest } } op = y) :
          runTask .serve b s.seat = (y.1, y.2 ++ [.engineRetry]) := by
        subst begun
        exact serve_head queue idle free
      refine ⟨fun met => ?_, fun measure => ?_, fun vent away => ?_, fun fill away noClaim => ?_⟩
      · have begun := beginService_done (b := b) (s := { s.seat with gallery := { g with queue := rest } }) (doneIff.mpr met)
        refine (served (begun.trans (endFlight_eq rfl))).trans ?_
        exact congrArg (Prod.mk _) (List.append_assoc ..)
      · exact served (beginService_measure measure)
      · have begun := beginService_burst (b := b) (s := { s.seat with gallery := { g with queue := rest } })
          (by rw [vent]; exact OpKind.noConfusion) fun e => away (doneIff.mp e)
        exact served (begun.trans (beginBurst_vent vent))
      · have begun := beginService_burst (b := b) (s := { s.seat with gallery := { g with queue := rest } })
          (by rw [fill]; exact OpKind.noConfusion) fun e => away (doneIff.mp e)
        exact served (begun.trans (beginBurst_raises fill noClaim))
  · intro g waits
    refine ⟨fun fills => ⟨?_, ?_⟩, fun other => ⟨?_, ?_⟩, fun small => ?_⟩
    · exact congrArg done (if_pos fills)
    · exact congrArg done (if_pos fills)
    · exact congrArg done (if_neg other)
    · exact congrArg done (if_neg other)
    · change done (post s .galleryFault .none (toWord (0xC000 + code % 1024))) = _
      rw [Nat.mod_eq_of_lt small]
      rfl

/-- Settles O46: a reading within the range by the completion test and the bursts made, one outside it, and an expired wait. -/
theorem readingsDecideTheOperation : Obligations.ReadingsDecideTheOperation := by
  unfold Obligations.ReadingsDecideTheOperation
  intro s code op w flight b g meets ended released
  have meetsIff : Machine.meets b.cfg.tolerance op code = true ↔ meets code := meets_iff
  refine ⟨fun fills waits => ?_, fun measuring => ?_⟩
  · have expires : (s.seat.gallery.state = .filling && s.seat.gallery.waitLeft.isSome) = true :=
      (Bool.and_eq_true_iff ..).mpr ⟨decide_eq_true fills, waits⟩
    exact (eventIf_works w expires fun _ t => endFlight t .starved).trans (congrArg (fun y => Host.Outcome.next (actOn s y)) (endFlight_eq flight))
  · intro read known
    have reads {y : Did} (h : reading b s.seat code = y) : exec (.pressureReading code) s = .next (actOn s y) := by
      subst h
      exact eventIf_works w (decide_eq_true measuring) fun b t => reading b t code
    have readFlight : (readSeat s.seat op code).gallery.inFlight = some op := flight
    refine ⟨fun low high => ?_, fun outside => ?_⟩
    · have within := reading_within (b := b) flight low high
      have written (r : OpResult) : { s.seat with gallery := flightEnded (readSeat s.seat op code).gallery op r } = ended r known read := by
        unfold flightEnded readSeat
        dsimp only
        rw [PerBladder.get_set_same, set_set_bladder]
      have ends {r : OpResult} (h : afterReading b (readSeat s.seat op code) op code = endFlight (readSeat s.seat op code) r) :
          exec (.pressureReading code) s = .next (actOn s (released (endNotice (ended r known read) op.bladder r) r)) := by
        refine reads (within.trans (h.trans ((endFlight_eq readFlight).trans ?_)))
        have same : { readSeat s.seat op code with gallery := flightEnded (readSeat s.seat op code).gallery op r } = ended r known read :=
          written r
        rw [same]
      refine ⟨fun met => ends (afterReading_met (meetsIff.mpr met)),
        fun away last => ends (afterReading_last (fun e => away (meetsIff.mp e)) last), fun away more => ?_⟩
      intro again h go
      have burst := within.trans (afterReading_again (fun e => away (meetsIff.mp e)) more)
      have stays {t : Seat} (begun : beginBurst b (readSeat s.seat op code) op = (t, [])) :
          exec (.pressureReading code) s = .next { s with seat := t } :=
        (reads (burst.trans begun)).trans (congrArg Host.Outcome.next (actOn_nil s t))
      exact ⟨fun vent => stays (beginBurst_vent vent), fun fill granted => stays (beginBurst_granted fill granted),
        fun fill waits pending => stays (beginBurst_pending fill waits pending)⟩
    · intro broken t y emptied
      refine reads ((reading_outside flight outside).trans ?_)
      have ending : endFlight (brokenSeat s.seat code) .sensor = released t .sensor := endFlight_eq flight
      rw [ending]
      dsimp only
      have kept : y.1.gallery = t.gallery := (congrArg Seat.gallery (releaseClaim_seat t .compressor)).trans rfl
      rw [removeQueued_all]
      have queue : (released t .sensor).1.gallery.queue = g.queue := (congrArg Gallery.queue kept).trans rfl
      have emptiedEq : { (released t .sensor).1.gallery with
          queue := [],
          bladders := (released t .sensor).1.gallery.queue.foldl
            (fun l o => l.set o.bladder { l.get o.bladder with
                lastResult := some .sensor }) (released t .sensor).1.gallery.bladders } = emptied := by
        rw [queue, show (released t .sensor).1.gallery = t.gallery from kept]
      rw [emptiedEq, queue]

end Sys2Proof.Machine
end

section
/-! SUPPORT. The answers of the massage commands, and the withdrawal of the engine's operations (R96, R101, R113, R114, R118). -/
namespace Sys2Proof.Machine

section
variable {b : Base} {s : Seat} {n intensity speed : Nat} {k : PatternNo} {op : Op} {reason : EndReason} {r : OpResult}

/-! ### The refusals (R113, R114, R118) -/

theorem whenIdle_idle {y : Result × Did} (h : s.brace.mode = .idle) : whenIdle s y = y := if_pos h

theorem whenIdle_other {y : Result × Did} (h : s.brace.mode ≠ .idle) : whenIdle s y = refuse .restricted s := if_neg h

theorem startMassage_range (idle : s.brace.mode = .idle)
    (h : n = 0 ∨ 8 < n ∨ ¬ (within 1 5 intensity = true ∧ within 1 5 speed = true)) :
    startMassage n intensity speed b s = refuse .range s := by
  refine (whenIdle_idle idle).trans ?_
  cases known : patternOfCode n with
  | none => rfl
  | some k =>
    have out : ¬ (within 1 5 intensity = true ∧ within 1 5 speed = true) := by
      rcases h with low | high | out
      · exact nomatch known.symm.trans (patternOfCode_none (.inl low))
      · exact nomatch known.symm.trans (patternOfCode_none (.inr high))
      · exact out
    exact if_pos out

theorem startMassage_known (idle : s.brace.mode = .idle) (known : patternOfCode n = some k)
    (within_ : within 1 5 intensity = true ∧ within 1 5 speed = true) :
    startMassage n intensity speed b s =
      if (b.patterns.directory.get k).isNone then refuse .empty s
      else if s.gallery.state = .fault then refuse .state s
      else if s.engine.state = .stopping then refuse .busy s
      else accept (engineStart b s k intensity speed) := by
  rw [startMassage, whenIdle_idle idle, known]
  exact if_neg (not_not.mpr within_)

theorem setMassage_range (idle : s.brace.mode = .idle) (h : ¬ (within 1 5 intensity = true ∧ within 1 5 speed = true)) :
    setMassage intensity speed b s = refuse .range s := (whenIdle_idle idle).trans (if_pos h)

theorem setMassage_within (idle : s.brace.mode = .idle) (within_ : within 1 5 intensity = true ∧ within 1 5 speed = true) :
    setMassage intensity speed b s =
      if s.engine.state = .off ∨ s.engine.state = .stopping then refuse .state s
      else accept (done (withEngine s { s.engine with pendingIntensity := some intensity, pendingSpeed := some speed })) :=
  (whenIdle_idle idle).trans (if_neg (not_not.mpr within_))

theorem stopMassage_off (idle : s.brace.mode = .idle) (off : s.engine.state = .off) :
    stopMassage b s =
      if s.engine.held = 0 then accept (done s)
      else if s.gallery.state = .fault then refuse .state s
      else accept (stopHeld s .stop) := by
  rw [stopMassage, whenIdle_idle idle, off]

theorem stopMassage_stopping (idle : s.brace.mode = .idle) (stopping : s.engine.state = .stopping) :
    stopMassage b s = accept (done s) := by
  rw [stopMassage, whenIdle_idle idle, stopping]

theorem stopMassage_runs (idle : s.brace.mode = .idle) (runs : s.engine.state = .running ∨ s.engine.state = .paused) :
    stopMassage b s = accept (engineStop s .stop) := by
  rw [stopMassage, whenIdle_idle idle]
  rcases runs with e | e
  · rw [e]
  · rw [e]

/-! ### The stop set (R118) -/

/-- The cells that a stop vents, in the words of the section. -/
theorem stopSet_mem (g : Gallery) (i : Bladder) (cell : i ∈ cellOrder) :
    inSet (filledCells g ||| withdrawnVents g) i = true ↔
      0 < (g.bladders.get i).lastTarget ∨
        ∃ o, (o ∈ g.queue ∨ g.inFlight = some o) ∧ o.bladder = i ∧ o.origin = .massage ∧ o.kind = .vent ∧ o.target = 0 := by
  rw [inSet_or, Bool.or_eq_true_iff, filledCells, withdrawnVents, inSet_cellsWhere _ i cell, inSet_cellsWhere _ i cell,
    decide_eq_true_iff, List.any_eq_true]
  refine or_congr Iff.rfl (exists_congr fun o => and_congr ?_ ?_)
  · rw [List.mem_append, Option.mem_toList]
  · simp only [Bool.and_eq_true_iff, decide_eq_true_iff]
    tauto

/-! ### Withdrawal (R96, R101) -/

/-- An operation of the engine that a withdrawal removes. -/
def withdrawn (o : Op) : Bool := o.origin = .massage && !o.seed

/-- The seat that the removal of the engine's queued operations leaves. -/
def unqueued (s : Seat) : Seat :=
  { s with gallery := { s.gallery with
      queue := s.gallery.queue.filter (fun o => !withdrawn o),
      bladders := (s.gallery.queue.filter withdrawn).foldl
        (fun l o => l.set o.bladder { l.get o.bladder with lastResult := some .cancelled }) s.gallery.bladders } }

theorem removeQueued_withdrawn :
    removeQueued s (fun o => o.origin = .massage && !o.seed) .cancelled =
      (unqueued s, (s.gallery.queue.filter withdrawn).map (fun o => .opResult o .cancelled)) := by
  change (withGallery s ((s.gallery.queue.filter withdrawn).foldl (fun g o => writeResult g o.bladder .cancelled)
    { s.gallery with queue := s.gallery.queue.filter (fun o => !withdrawn o) }), _) = _
  rw [writeResult_fold]
  rfl

theorem withdrawMassage_queued (h : ∀ o, s.gallery.inFlight = some o → o.origin ≠ .massage) :
    withdrawMassage s = (unqueued s, (s.gallery.queue.filter withdrawn).map (fun o => .opResult o .cancelled)) := by
  rw [withdrawMassage, removeQueued_withdrawn, andThen]
  have flight : (unqueued s).gallery.inFlight = s.gallery.inFlight := rfl
  rw [flight]
  cases f : s.gallery.inFlight with
  | none => exact congrArg (Prod.mk _) (List.append_nil _)
  | some o =>
    dsimp only
    rw [if_neg (h o f)]
    exact congrArg (Prod.mk _) (List.append_nil _)

theorem withdrawMassage_flight {o : Op} (flight : s.gallery.inFlight = some o) (mine : o.origin = .massage) :
    withdrawMassage s =
      ((endFlight (unqueued s) .cancelled).1,
        (s.gallery.queue.filter withdrawn).map (fun o => .opResult o .cancelled) ++ (endFlight (unqueued s) .cancelled).2) := by
  rw [withdrawMassage, removeQueued_withdrawn, andThen]
  have same : (unqueued s).gallery.inFlight = some o := flight
  rw [same]
  dsimp only
  rw [if_pos mine]

theorem unqueued_nothing (h : ∀ o ∈ s.gallery.queue, withdrawn o = false) :
    unqueued s = s ∧ s.gallery.queue.filter withdrawn = [] := by
  have none_ : s.gallery.queue.filter withdrawn = [] :=
    List.filter_eq_nil_iff.mpr fun o ho => by rw [h o ho]; exact Bool.false_ne_true
  have all : s.gallery.queue.filter (fun o => !withdrawn o) = s.gallery.queue :=
    List.filter_eq_self.mpr fun o ho => by rw [h o ho]; rfl
  refine ⟨?_, none_⟩
  rw [unqueued, none_, all]
  rfl

theorem withdrawn_other {o : Op} (h : o.origin ≠ .massage) : withdrawn o = false :=
  (Bool.and_eq_false_iff ..).mpr (.inl (decide_eq_false h))

end

/-- Settles O48: the brace state, the ranges, the pattern, the faults and the engine's state decide the answers; what is withdrawn. -/
theorem massageCommandsAnswer : Obligations.MassageCommandsAnswer := by
  unfold Obligations.MassageCommandsAnswer
  refine ⟨fun s n intensity speed w => ?_, fun s => ?_⟩
  · intro e g start set stop inRange asks
    have rangeIff : inRange ↔ within 1 5 intensity = true ∧ within 1 5 speed = true := by
      rw [within_iff, within_iff]
      exact and_assoc.symm
    have runsWhole (mode : s.seat.brace.mode = .idle) : passes s.seat.brace.mode .plain = true := passes_idle .plain mode
    refine ⟨fun notIdle => ?_, fun idle => ⟨fun unknown => ?_, fun out => ⟨?_, ?_⟩,
      fun inside => ⟨fun k known => ?_, fun rests => ?_, fun runs => ?_⟩, ?_⟩,
      fun others => ?_, fun o empty flight mine => ?_⟩
    · cases passing : passes s.seat.brace.mode .plain with
      | false => exact ⟨comfort_restricted w passing, comfort_restricted w passing, comfort_restricted w passing⟩
      | true =>
        exact ⟨comfort_refuses w passing fun l _ => whenIdle_other notIdle, comfort_refuses w passing fun l _ => whenIdle_other notIdle,
          comfort_refuses w passing fun l _ => whenIdle_other notIdle⟩
    · exact comfort_refuses w (runsWhole idle) fun l _ => startMassage_range idle (unknown.imp_right .inl)
    · exact comfort_refuses w (runsWhole idle) fun l _ => startMassage_range idle (.inr (.inr fun h => out (rangeIff.mpr h)))
    · exact comfort_refuses w (runsWhole idle) fun l _ => setMassage_range idle fun h => out (rangeIff.mpr h)
    · have judged (l : Link) := startMassage_known (b := { s.base with link := l }) idle known (rangeIff.mp inside)
      refine ⟨fun absent => ?_, fun there => ⟨fun fault => ?_, fun ok stopping => ?_, fun ok going => ?_⟩⟩
      · exact comfort_refuses w (runsWhole idle) fun l _ => (judged l).trans (if_pos (Option.isNone_iff_eq_none.mpr absent))
      · exact comfort_refuses w (runsWhole idle) fun l _ => (judged l).trans
          ((if_neg fun absent => there (Option.isNone_iff_eq_none.mp absent)).trans (if_pos fault))
      · exact comfort_refuses w (runsWhole idle) fun l _ => (judged l).trans
          ((if_neg fun absent => there (Option.isNone_iff_eq_none.mp absent)).trans ((if_neg ok).trans (if_pos stopping)))
      · intro fresh
        have started : start = .next (answered s .accepted (engineStart s.base s.seat k intensity speed)) :=
          comfort_takes w (runsWhole idle) fun l _ => (judged l).trans
            ((if_neg fun absent => there (Option.isNone_iff_eq_none.mp absent)).trans ((if_neg ok).trans (if_neg going)))
        refine ⟨fun off => started.trans ?_, fun on => started.trans ?_⟩
        · rw [engineStart, if_pos off]
          rfl
        · rw [engineStart, if_neg on]
          rfl
    · exact comfort_refuses w (runsWhole idle) fun l _ => (setMassage_within idle (rangeIff.mp inside)).trans (if_pos rests)
    · refine comfort_takes w (runsWhole idle) fun l _ => (setMassage_within idle (rangeIff.mp inside)).trans (if_neg ?_)
      intro rests
      rcases runs with h | h <;> rcases rests with k | k <;> exact nomatch h.symm.trans k
    · intro vents
      refine ⟨fun nothing => ?_, fun off held fault => ?_, fun off held ok => ?_, fun runs => ?_⟩
      · refine (comfort_takes w (runsWhole idle) (r := .accepted) (y := (s.seat, [])) fun l _ => ?_).trans
          (congrArg Host.Outcome.next refused_eq_answered.symm)
        rcases nothing with stopping | ⟨off, held⟩
        · exact stopMassage_stopping idle stopping
        · exact (stopMassage_off idle off).trans (if_pos held)
      · exact comfort_refuses w (runsWhole idle) fun l _ => (stopMassage_off idle off).trans ((if_neg held).trans (if_pos fault))
      · exact comfort_takes w (runsWhole idle) fun l _ => (stopMassage_off idle off).trans ((if_neg held).trans (if_neg ok))
      · exact ⟨filledCells g ||| withdrawnVents g, stopSet_mem g,
          comfort_takes w (runsWhole idle) fun l _ => stopMassage_runs idle runs⟩
    · obtain ⟨same, nothing⟩ := unqueued_nothing (s := s.seat) fun o ho => withdrawn_other (others o (.inl ho))
      rw [withdrawMassage_queued fun o flight => others o (.inr flight), same, nothing]
      rfl
    · obtain ⟨same, nothing⟩ := unqueued_nothing (s := s.seat) fun o ho => by
        rw [show s.seat.gallery.queue = [] from empty] at ho
        exact nomatch ho
      rw [withdrawMassage_flight flight mine, same, nothing]
      rfl
  · intro g mine gone cancel left bladders told
    have test : mine = withdrawn := by
      funext o
      change (decide (o.origin = .massage) && decide (o.seed = false)) = (decide (o.origin = .massage) && !o.seed)
      cases o.seed <;> rfl
    have goneEq : gone = g.queue.filter withdrawn := congrArg (fun m => g.queue.filter m) test
    have leftEq : left = g.queue.filter (fun o => !withdrawn o) := congrArg (fun m : Op → Bool => g.queue.filter fun o => !m o) test
    have bladdersEq : bladders = (g.queue.filter withdrawn).foldl cancel g.bladders := congrArg (fun l => l.foldl cancel g.bladders) goneEq
    have toldEq : told = (g.queue.filter withdrawn).map (fun o => .opResult o .cancelled) :=
      congrArg (fun l => l.map fun o => Task.opResult o .cancelled) goneEq
    refine ⟨fun others => ?_, fun o flight own => ?_⟩
    · rw [withdrawMassage_queued others, leftEq, bladdersEq, toldEq]
      rfl
    · intro h y
      have ended := endFlight_eq (s := unqueued s) (op := o) (r := .cancelled) flight
      have same : { unqueued s with gallery := flightEnded (unqueued s).gallery o .cancelled } = { s with gallery := h } := by
        unfold h
        rw [leftEq, bladdersEq]
        rfl
      rw [withdrawMassage_flight flight own, ended, toldEq]
      dsimp only [endNotice]
      rw [same, ← List.append_assoc]

end Sys2Proof.Machine
end

section
/-! SUPPORT. The walk of the massage engine, its asking, its results and its ends (R96, R114 to R120). -/
namespace Sys2Proof.Machine

/-! ### The steps (R114 to R116) -/

section
variable {b : Base} {s : Seat} {e : Engine} {k : PatternNo} {st : StepRec} {i : Bladder}

/-- R115: half to even is the quotient, one more above the half, and the even neighbour at the half. -/
theorem roundHalfEven_500 (n : Nat) :
    roundHalfEven n 500 =
      if 2 * (n % 500) < 500 then n / 500
      else if 500 < 2 * (n % 500) then n / 500 + 1
      else n / 500 + (n / 500) % 2 := by
  unfold roundHalfEven
  dsimp only
  split
  · rfl
  · split
    · rfl
    · rcases Nat.mod_two_eq_zero_or_one (n / 500) with even | odd
      · rw [if_pos even, even]
        rfl
      · rw [odd]
        rfl

/-- The engine as a step begins. -/
def stepTaken (e : Engine) : Engine :=
  { e with
    intensity := e.pendingIntensity.getD e.intensity, speed := e.pendingSpeed.getD e.speed, pendingIntensity := none,
    pendingSpeed := none, asking := none, holdLeft := none, restLeft := none }

theorem engineBegin_still (h : s.engine.state ≠ .running) : engineBegin b s = (s, []) := if_pos h

section
variable (runs : s.engine.state = .running) (pattern : s.engine.pattern = some k)
include runs pattern

theorem engineBegin_step (step : stepAt b.patterns k s.engine.index = some st) :
    engineBegin b s = runStep b s (stepTaken s.engine) st := by
  have found : s.engine.pattern.bind (fun n => stepAt b.patterns n s.engine.index) = some st := by
    rw [pattern]
    exact step
  unfold engineBegin
  rw [if_neg (not_not.mpr runs)]
  simp only [takeSpeed, found]
  rfl

theorem engineBegin_rest (last : stepAt b.patterns k s.engine.index = none) :
    engineBegin b s =
      ({ s with engine := { s.engine with asking := none, holdLeft := none, restLeft := some cycleRestTime } }, []) := by
  have nothing : s.engine.pattern.bind (fun n => stepAt b.patterns n s.engine.index) = none := by
    rw [pattern]
    exact last
  unfold engineBegin
  rw [if_neg (not_not.mpr runs)]
  simp only [takeSpeed, nothing]
  rfl

end

theorem runStep_inflate (h : st.action = 0) : runStep b s e st = (withEngine s (askStep b e .fill st), [.engineAsk]) := by
  rw [runStep, h]
  rfl

theorem runStep_deflate (h : st.action = 1) : runStep b s e st = (withEngine s (askStep b e .vent st), [.engineAsk]) := by
  rw [runStep, h]
  rfl

theorem runStep_hold (h : st.action = 2) :
    runStep b s e st = (withEngine s { e with holdLeft := some (holdTime (st.value * 10) e.speed) }, []) := by
  rw [runStep, h]
  rfl

theorem runStep_open (h : st.action = 3) :
    runStep b s e st =
      (withEngine s { e with stack := { index := e.index, remaining := st.value - 1 } :: e.stack, index := e.index + 1 },
        [.engineBegin]) := by
  rw [runStep, h]
  rfl

theorem runStep_close (h : st.action = 4) : runStep b s e st = (withEngine s (closeRepeat e), [.engineBegin]) := by
  rw [runStep, h]
  rfl

theorem closeRepeat_open {r : Repeat} {rest : List Repeat} (h : e.stack = r :: rest) :
    closeRepeat e =
      if 0 < r.remaining then { e with stack := { r with remaining := r.remaining - 1 } :: rest, index := r.index + 1 }
      else { e with stack := rest, index := e.index + 1 } := by
  rw [closeRepeat, h]

end

/-! ### The ends of the engine (R118, R120) -/

section
variable {b : Base} {s : Seat} {i : Bladder} {reason : EndReason} {ask : CellOp} {op : Op} {r : OpResult} {c : CellSet}

/-- The seat in which the engine has entered OFF, told. -/
def engineOffSeat (s : Seat) (f : Engine) (reason : EndReason) : Seat :=
  post { s with engine :=
      { f with state := .off, outstanding := 0, stillToAsk := 0, endReason := some reason, asking := none, holdLeft := none,
               restLeft := none } }
    .massageStopped (patternSubject s.engine.pattern) (toWord (reasonCode reason))

theorem engineOff_eq : engineOff s reason = engineOffSeat s s.engine reason := rfl

theorem engineEnd_on (on : s.engine.state ≠ .off) :
    engineEnd s reason = engineOffSeat s { s.engine with held := heldCells s } reason := if_neg on

theorem asksVents_iff (e : Engine) : asksVents e = true ↔ e.asking = some { kind := .vent, target := 0 } := decide_eq_true_iff

/-! ### Asking (R115, R117, R118) -/

theorem firstCell_none : firstCell c = none ↔ ∀ i ∈ cellOrder, inSet c i = false := by
  rw [firstCell, List.find?_eq_none]
  exact forall₂_congr fun i _ => Iff.of_eq (Bool.not_eq_true _)

theorem firstCell_some {before after : List Bladder} (cells : cellOrder = before ++ i :: after)
    (skipped : ∀ k ∈ before, inSet c k = false) (first : inSet c i = true) : firstCell c = some i := by
  have nobody : before.find? (inSet c) = none := List.find?_eq_none.mpr fun k hk => by rw [skipped k hk]; exact Bool.false_ne_true
  rw [firstCell, cells, List.find?_append, nobody, List.find?_cons_of_pos first]
  rfl

theorem engineAsk_off (off : s.engine.state = .off) : engineAsk b s = (s, []) := by
  unfold engineAsk
  rw [off]
  rfl

theorem engineAsk_resumes (paused : s.engine.state = .paused) (asking : s.engine.asking = some ask)
    (all : firstCell s.engine.stillToAsk = none) :
    engineAsk b s = ({ s with engine := { s.engine with state := .running } }, [.engineCheck]) := by
  simp only [engineAsk, paused, asking, all]
  rfl

section
variable (on : s.engine.state ≠ .off)
include on

theorem engineAsk_checks (rest : s.engine.asking = none ∨ (s.engine.state ≠ .paused ∧ firstCell s.engine.stillToAsk = none)) :
    engineAsk b s = (s, [.engineCheck]) := by
  unfold engineAsk
  rcases rest with nothing | ⟨notPaused, all⟩
  · rw [nothing]
    cases state : s.engine.state with
    | off => exact absurd state on
    | running => rfl
    | paused => rfl
    | stopping => rfl
  · rw [all]
    cases state : s.engine.state with
    | off => exact absurd state on
    | paused => exact absurd state notPaused
    | running => cases s.engine.asking <;> rfl
    | stopping => cases s.engine.asking <;> rfl

variable (asking : s.engine.asking = some ask) (first : firstCell s.engine.stillToAsk = some i)
include asking first

/-- What the gallery's verdict on the first cell makes of the asking. -/
theorem engineAsk_judged (v : Verdict) (judged : verdict b s.gallery i = v) :
    engineAsk b s =
      if v = .taken then
        ((askOp (withEngine s (cellTaken s.engine i)) (mkOp i ask.kind ask.target .massage)).1,
          (askOp (withEngine s (cellTaken s.engine i)) (mkOp i ask.kind ask.target .massage)).2 ++ [.engineAsk])
      else if v = .fault then (engineEnd s .sensor, [])
      else (withEngine s (pauseEngine s.engine), []) := by
  unfold engineAsk
  rw [asking, first]
  cases state : s.engine.state with
  | off => exact absurd state on
  | running => subst v; dsimp only; cases verdict b s.gallery i <;> rfl
  | paused => subst v; dsimp only; cases verdict b s.gallery i <;> rfl
  | stopping => subst v; dsimp only; cases verdict b s.gallery i <;> rfl

end

theorem pauseEngine_eq (e : Engine) : pauseEngine e = { e with state := if e.state = .running then .paused else e.state } := by
  unfold pauseEngine
  split <;> rfl

theorem set_get_bladder {α : Type} (t : PerBladder α) (i : Bladder) : t.set i (t.get i) = t := by cases i <;> rfl

theorem setLastTarget_eq (g : Gallery) :
    setLastTarget g op =
      { g with
        bladders := g.bladders.set op.bladder
          (if op.kind = .measure then g.bladders.get op.bladder else { g.bladders.get op.bladder with lastTarget := op.target }) } := by
  unfold setLastTarget
  by_cases measure : op.kind = .measure
  · rw [if_pos measure, if_pos measure, set_get_bladder]
  · rw [if_neg measure, if_neg measure]
    rfl

theorem askOp_free (h : queuedFor s.gallery op.bladder = none) :
    askOp s op =
      ({ s with gallery := { s.gallery with
          queue := s.gallery.queue ++ [op],
          bladders := s.gallery.bladders.set op.bladder
            (if op.kind = .measure then s.gallery.bladders.get op.bladder
             else { s.gallery.bladders.get op.bladder with lastTarget := op.target }) } }, [.serve]) := by
  rw [askOp, enterOp, h]
  dsimp only
  rw [setLastTarget_eq]
  rfl

theorem askOp_queued {o : Op} (h : queuedFor s.gallery op.bladder = some o) :
    askOp s op =
      ({ s with gallery := { s.gallery with
          queue := s.gallery.queue.map (fun q => if q.bladder = op.bladder then op else q),
          bladders := s.gallery.bladders.set op.bladder
            (if op.kind = .measure then { s.gallery.bladders.get op.bladder with lastResult := some .cancelled }
             else { s.gallery.bladders.get op.bladder with lastResult := some .cancelled, lastTarget := op.target }) } },
        [.opResult o .cancelled, .serve]) := by
  rw [askOp, enterOp, h]
  dsimp only
  rw [setLastTarget_eq]
  simp only [writeResult, putBladder, bladderOf, withGallery, set_set_bladder, PerBladder.get_set_same]
  rfl

/-! ### Retries and checks (R115, R117, R118) -/

theorem engineRetry_asks (h : s.engine.state = .paused ∨ (s.engine.state = .stopping ∧ s.engine.stillToAsk ≠ 0)) :
    engineRetry s = (s, [.engineAsk]) := by
  unfold engineRetry
  rcases h with state | ⟨state, left⟩
  · rw [state]
  · rw [state]
    exact if_neg left

theorem engineRetry_rests
    (h : s.engine.state = .off ∨ s.engine.state = .running ∨ (s.engine.state = .stopping ∧ s.engine.stillToAsk = 0)) :
    engineRetry s = (s, []) := by
  unfold engineRetry
  rcases h with state | state | ⟨state, left⟩
  · rw [state]
    rfl
  · rw [state]
    rfl
  · rw [state]
    exact if_pos left

theorem engineCheck_waits
    (h : s.engine.outstanding ≠ 0 ∨ s.engine.stillToAsk ≠ 0 ∨ s.engine.state = .off ∨ s.engine.state = .paused ∨
      (s.engine.state = .running ∧ s.engine.asking = none)) : engineCheck s = (s, []) := by
  unfold engineCheck
  by_cases open_ : s.engine.outstanding ≠ 0 ∨ s.engine.stillToAsk ≠ 0
  · exact if_pos open_
  · rw [if_neg open_]
    rcases (or_assoc.mpr h).resolve_left open_ with state | state | ⟨state, nothing⟩
    · rw [state]
      rfl
    · rw [state]
      rfl
    · rw [state, nothing]
      rfl

section
variable (nobody : s.engine.outstanding = 0) (all : s.engine.stillToAsk = 0)
include nobody all

theorem engineCheck_next (runs : s.engine.state = .running) (asking : s.engine.asking ≠ none) :
    engineCheck s = ({ s with engine := { s.engine with asking := none, index := s.engine.index + 1 } }, [.engineBegin]) := by
  unfold engineCheck
  rw [if_neg (not_or.mpr ⟨not_not.mpr nobody, not_not.mpr all⟩), runs]
  exact if_pos (Option.isSome_iff_ne_none.mpr asking)

theorem engineCheck_stopped (stopping : s.engine.state = .stopping) (why : s.engine.endReason = some reason) :
    engineCheck s = (engineOffSeat s s.engine reason, []) := by
  unfold engineCheck
  rw [if_neg (not_or.mpr ⟨not_not.mpr nobody, not_not.mpr all⟩), stopping, why]
  rfl

end

/-! ### Results (R96, R115, R118, R120) -/

theorem handResult_seed (h : op.seed = true) : handResult b s op r = (s, []) := if_pos h

theorem handResult_massage (real : op.seed = false) (mine : op.origin = .massage) :
    handResult b s op r = massageResult b s op.bladder r := by
  unfold handResult
  rw [if_neg (Bool.eq_false_iff.mp real), mine]

theorem massageResult_nothing (h : s.engine.state = .off ∨ inSet s.engine.outstanding i = false) :
    massageResult b s i r = (s, []) := if_pos (h.imp_right fun e => by rw [e]; exact Bool.false_ne_true)

section
variable (on : s.engine.state ≠ .off) (waits : inSet s.engine.outstanding i = true)
include on waits

theorem massageResult_waits :
    massageResult b s i r =
      if r = .sensor then (engineEnd s .sensor, [])
      else if (r = .limit ∨ r = .starved) ∧ s.engine.state ≠ .stopping then
        (if allFailed (cellsUsed b.patterns s.engine.pattern) (addCell s.engine.failed i) then
          engineStop { s with engine :=
            { s.engine with outstanding := dropCell s.engine.outstanding i, failed := addCell s.engine.failed i } } .failed
         else ({ s with engine :=
            { s.engine with outstanding := dropCell s.engine.outstanding i, failed := addCell s.engine.failed i } }, [.engineCheck]))
      else ({ s with engine := { s.engine with outstanding := dropCell s.engine.outstanding i } }, [.engineCheck]) := by
  unfold massageResult
  exact if_neg (not_or.mpr ⟨on, not_not.mpr waits⟩)

end

theorem allFailed_iff {used failed : CellSet} : allFailed used failed = true ↔ used ≠ 0 ∧ used &&& failed = used := by
  rw [allFailed, Bool.and_eq_true_iff, decide_eq_true_iff, decide_eq_true_iff]

end

/-- Settles O49: the walk over the steps, and the engine's asking, results, checks and ends, by its state and the gallery's verdict. -/
theorem massageWalksItsPattern : Obligations.MassageWalksItsPattern := by
  unfold Obligations.MassageWalksItsPattern
  refine ⟨fun s w => ?_, fun b s op v => ?_⟩
  · intro b e with_
    refine ⟨fun runs hold => ?_, fun runs rest => ?_, fun session => ?_, engineBegin_still, fun k runs pattern => ?_⟩
    · exact eventIf_works w ((Bool.and_eq_true_iff ..).mpr ⟨decide_eq_true runs, hold⟩) fun _ t => endHold t
    · exact eventIf_works w ((Bool.and_eq_true_iff ..).mpr ⟨decide_eq_true runs, rest⟩) fun _ t => endRest t
    · exact ⟨filledCells s.seat.gallery ||| withdrawnVents s.seat.gallery, stopSet_mem s.seat.gallery,
        eventIf_works w ((sessionRuns_iff _).mpr session) fun _ t => engineStop (sessionTimeUp t) .session⟩
    · intro taken
      refine ⟨engineBegin_rest runs pattern, fun st step => ?_⟩
      intro product target asks
      have begun : runTask .engineBegin b s.seat = runStep b s.seat taken st := engineBegin_step runs pattern step
      have asked (kind : OpKind) : askStep b taken kind st = asks kind := by
        unfold askStep stepTarget
        rw [roundHalfEven_500]
      refine ⟨fun inflate => ?_, fun deflate => ?_, fun hold => begun.trans (runStep_hold hold),
        fun opens => begun.trans (runStep_open opens), fun r rest closes stack => ?_⟩
      · rw [begun, runStep_inflate inflate, asked]
        rfl
      · rw [begun, runStep_deflate deflate, asked]
        rfl
      · intro again f
        rw [begun, runStep_close closes, closeRepeat_open (e := taken) stack]
        rfl
  · intro e g cells with_ subject off endsSensor retries asks checks
    have offs (f : Engine) (reason : EndReason) : engineOffSeat s f reason = off f reason := rfl
    have sensor {y : Did} (on : e.state ≠ .off) (h : y = (engineEnd s .sensor, [])) : endsSensor y := by
      refine ⟨heldCells s, ?_, fun i cell => ?_⟩
      · rw [h, engineEnd_on on, offs]
      · rw [heldCells_mem s i cell, asksVents_iff]
        rfl
    refine ⟨engineRetry_asks, engineRetry_rests, engineAsk_off, fun on nothing => ?_,
      fun ask before i after on asking split skipped first => ?_, engineCheck_waits,
      fun nobody all => ⟨fun runs asking => ?_, fun reason stopping why => ?_⟩,
      fun real mine => ?_, handResult_seed⟩
    · intro runs
      by_cases resumes : e.state = .paused ∧ e.asking ≠ none
      · obtain ⟨paused, some_⟩ := resumes
        obtain ⟨ask, asking⟩ := Option.ne_none_iff_exists'.mp some_
        rw [if_pos ⟨paused, some_⟩]
        exact engineAsk_resumes paused asking (firstCell_none.mpr (nothing.resolve_left some_))
      · rw [if_neg resumes]
        refine engineAsk_checks on ?_
        by_cases asking : e.asking = none
        · exact .inl asking
        · exact .inr ⟨fun paused => resumes ⟨paused, asking⟩, firstCell_none.mpr (nothing.resolve_left asking)⟩
    · intro queued new asked target
      have judged (v : Verdict) (h : verdict b g i = v) := engineAsk_judged on asking (firstCell_some split skipped first) v h
      refine ⟨fun fault => sensor on (judged _ (verdict_fault fault)), fun ok => ⟨fun free full => ?_,
          fun free room => ?_, fun o held notBrace => ?_⟩⟩
      · refine (judged .full ((verdict_free ok free).trans (if_neg (Nat.not_lt.mpr full)))).trans ?_
        rw [pauseEngine_eq]
        rfl
      · refine (judged .taken ((verdict_free ok free).trans (if_pos room))).trans ?_
        rw [if_pos rfl, askOp_free (s := withEngine s (cellTaken s.engine i)) (op := mkOp i ask.kind ask.target .massage) free]
        rfl
      · refine (judged .taken ((verdict_queued ok held).trans (if_neg notBrace))).trans ?_
        rw [if_pos rfl, askOp_queued (s := withEngine s (cellTaken s.engine i)) (op := mkOp i ask.kind ask.target .massage) held]
        rfl
    · exact engineCheck_next nobody all runs asking
    · exact engineCheck_stopped nobody all stopping why
    · intro result waits
      have handed : result = massageResult b s op.bladder v := handResult_massage real mine
      refine ⟨fun h => handed.trans (massageResult_nothing h), fun on waiting bad => ?_, fun on waiting fine => ?_⟩
      · exact sensor on (handed.trans ((massageResult_waits on waiting).trans (if_pos bad)))
      · intro less failed used fails
        have taken := handed.trans ((massageResult_waits on waiting).trans (if_neg fine))
        have usedEq : cellsUsed b.patterns s.engine.pattern = used := rfl
        refine ⟨fun no => taken.trans (if_neg no), fun yes some_ => ?_, fun yes cells_ all => ?_⟩
        · refine taken.trans ((if_pos yes).trans (if_neg fun h => ?_))
          obtain ⟨nonempty, every⟩ := allFailed_iff.mp h
          exact some_.elim nonempty fun notAll => notAll every
        · exact taken.trans ((if_pos yes).trans (if_pos (allFailed_iff.mpr ⟨cells_, all⟩)))

end Sys2Proof.Machine
end

section
/-! SUPPORT. The levels of a zone and of its fan, the heat sample and the loop, and mat temperature (R40, R125 to R135). -/
namespace Sys2Proof.Machine

/-! ### Levels (R40, R133 to R135) -/

section
variable {b : Base} {s : Seat} {z : Zone} {x y : ZoneState} {n level : Nat} {al : Alloc} {cfg : Settings} {c : Consumer}

/-- A command that is taken and does nothing answers as a refusal does. -/
theorem comfort_accepts_nothing {s : State} (h : Works s) {k : CommandClass} {f : Base → Seat → Result × Did}
    (hp : passes s.seat.brace.mode k = true)
    (hf : ∀ l : Link, l.vehicle = s.base.link.vehicle → f { s.base with link := l } s.seat = accept (done s.seat)) :
    comfort k (onSeat f) s = .next (refused s .accepted) :=
  (comfort_takes h hp hf).trans (congrArg Host.Outcome.next refused_eq_answered.symm)

theorem putZone_put : putZone (putZone s z x) z y = putZone s z y := by
  have zones : (s.zones.set z x).set z y = s.zones.set z y := by cases z <;> rfl
  unfold putZone
  rw [zones]

theorem zoneOf_putZone : zoneOf (putZone s z x) z = x := PerZone.get_set_same _ _ _

theorem passIfDemand_eq (old new : Nat) : passIfDemand s old new = (s, if old = new then [] else [.pass]) := by
  unfold passIfDemand
  split <;> rfl

theorem zoneOfCode_none (h : 2 ≤ n) : zoneOfCode n = none := by
  unfold zoneOfCode
  split
  · omega
  · omega
  · rfl

theorem setHeatCommand_range (h : 2 ≤ n ∨ 3 < level) : setHeatCommand n level b s = refuse .range s := by
  rw [setHeatCommand]
  cases zone : zoneOfCode n with
  | none => rfl
  | some z => exact if_pos (h.resolve_left fun high => nomatch zone.symm.trans (zoneOfCode_none high))

theorem setFanCommand_range (h : 2 ≤ n ∨ 3 < level) : setFanCommand n level b s = refuse .range s := by
  rw [setFanCommand]
  cases zone : zoneOfCode n with
  | none => rfl
  | some z => exact if_pos (h.resolve_left fun high => nomatch zone.symm.trans (zoneOfCode_none high))

theorem setHeat_same (h : (zoneOf s z).heat = level) : setHeat s z level = done s := if_pos h

/-- The zone at a new heat level, before an off level turns its heater off. -/
def heatTaken (x : ZoneState) (level : Nat) : ZoneState :=
  { x with heat := level, mode := modeAtLevel x.mode x.heat level, level3 := 0 }

theorem setHeat_on (new : (zoneOf s z).heat ≠ level) (on : level ≠ 0) :
    setHeat s z level = (putZone s z (heatTaken (zoneOf s z) level), []) := (if_neg new).trans (if_neg on)

theorem setHeat_off (new : (zoneOf s z).heat ≠ 0) :
    setHeat s z 0 =
      (putZone s z (heaterOff (heatTaken (zoneOf s z) 0)), if (zoneOf s z).demand = 0 then [] else [.pass]) := by
  refine (if_neg new).trans ((if_pos rfl).trans ?_)
  exact passIfDemand_eq _ _

theorem modeAtLevel_off (m : ZoneMode) (old : Nat) : modeAtLevel m old 0 = if m = .sensorFault then .sensorFault else .off := by
  cases m <;> rfl

theorem modeAtLevel_on (m : ZoneMode) {old : Nat} (on : level ≠ 0) :
    modeAtLevel m old level = if m ≠ .sensorFault ∧ old = 0 then .regulating else m := by
  cases m <;> simp [modeAtLevel, on]

theorem setFan_same (h : (zoneOf s z).fan = level) : setFan b s z level = done s := by
  have kept : putZone s z { zoneOf s z with fan := level } = s := by
    subst h
    have zones : s.zones.set z (s.zones.get z) = s.zones := by cases z <;> rfl
    change { s with zones := s.zones.set z (s.zones.get z) } = s
    rw [zones]
  unfold setFan
  dsimp only
  rw [kept]
  exact if_pos h

theorem setFan_new (new : (zoneOf s z).fan ≠ level) :
    setFan b s z level =
      (let t := putZone s z { zoneOf s z with fan := level }
       if !fanClaims b.cfg level then releaseClaim t (.fan z)
       else if (zoneOf s z).fan < level then ({ t with alloc := fanRise b.cfg t.alloc z level }, [.pass])
       else if holdsClaim t.alloc (.fan z) then ({ t with alloc := fanFall b.cfg t.alloc z level }, [.pass])
       else ({ t with alloc := fanArrives b.cfg t.alloc z level }, [.pass])) := if_neg new

theorem fanClaims_iff : fanClaims cfg level = true ↔ level ≠ 0 ∨ cfg.fanClaim.l0 ≠ 0 := by
  simp [fanClaims]

/-! ### The claims of a fan (R40) -/

theorem dropPending_free (h : isPending al c = false) : dropPending al c = al := by
  rw [dropPending, List.filter_eq_self.mpr fun p hp => decide_eq_true (not_pending h p hp)]

theorem fanRise_eq :
    fanRise cfg al z level =
      arrive { al with pending := al.pending.filter (fun p => p.consumer ≠ .fan z) } (.fan z) 3 (cfg.fanClaim.get level) level := by
  unfold fanRise
  by_cases h : isPending al (.fan z) = true
  · exact if_pos h
  · rw [if_neg h]
    have kept := dropPending_free (Bool.eq_false_iff.mpr h)
    exact congrArg (fun a => fanArrives cfg a z level) kept.symm

theorem map_pending_free {f : Claim → Claim} (h : ∀ p ∈ al.pending, p.consumer ≠ c) :
    al.pending.map (fun p => if p.consumer = c then f p else p) = al.pending :=
  (List.map_congr_left fun p hp => if_neg (h p hp)).trans (List.map_id _)

theorem map_granted_free {f : Grant → Grant} (h : isGranted al c = false) :
    al.granted.map (fun g => if g.claim.consumer = c then f g else g) = al.granted :=
  (List.map_congr_left fun g hg => if_neg (not_granted h g hg)).trans (List.map_id _)

/-- The granted set with the grant of a fan lowered. -/
def fanLowered (cfg : Settings) (al : Alloc) (z : Zone) (level : Nat) : List Grant :=
  al.granted.map (fun g => if g.claim.consumer = .fan z then { g with claim := atLevel cfg level g.claim } else g)

theorem fanFall_granted (waits : isPending al (.fan z) = false) :
    fanFall cfg al z level = { al with granted := fanLowered cfg al z level } := by
  unfold fanFall
  rw [waits, Bool.and_false, if_neg Bool.false_ne_true, mapClaims, map_pending_free (not_pending waits)]
  rfl

theorem fanFall_pending (free : isGranted al (.fan z) = false) :
    fanFall cfg al z level =
      { al with pending := al.pending.map (fun p => if p.consumer = .fan z then atLevel cfg level p else p) } := by
  unfold fanFall
  rw [free, Bool.false_and, if_neg Bool.false_ne_true, mapClaims, map_granted_free free]

theorem isGranted_of_found {g : Grant} (held : al.granted.find? (fun h => h.claim.consumer = c) = some g) : isGranted al c = true := by
  have same : g.claim.consumer = c := by simpa using List.find?_some held
  exact isGranted_iff.mpr (List.mem_map.mpr ⟨g, List.mem_of_find?_eq_some held, same⟩)

theorem fanFall_both {g : Grant} (waits : isPending al (.fan z) = true)
    (held : al.granted.find? (fun h => h.claim.consumer = .fan z) = some g) :
    fanFall cfg al z level =
      if g.claim.level < level then
        { al with pending := al.pending.map (fun p => if p.consumer = .fan z then atLevel cfg level p else p) }
      else if level < g.claim.level then
        { al with pending := al.pending.filter (fun p => p.consumer ≠ .fan z), granted := fanLowered cfg al z level }
      else { al with pending := al.pending.filter (fun p => p.consumer ≠ .fan z) } := by
  have granted : isGranted al (.fan z) = true := isGranted_of_found held
  have running : runningLevel al z = g.claim.level := by
    rw [runningLevel, grantedClaim, held]
    rfl
  unfold fanFall
  rw [granted, waits, running]
  refine (if_pos rfl).trans (ite_congr rfl (fun _ => rfl) fun _ => ite_congr rfl (fun _ => ?_) fun _ => rfl)
  rw [mapClaims, map_pending_free (al := dropPending al (.fan z)) fun p hp => of_decide_eq_true (List.mem_filter.mp hp).2]
  rfl

theorem holdsClaim_of (h : isPending al c = true ∨ isGranted al c = true) : holdsClaim al c = true := by
  rw [holdsClaim, Bool.or_eq_true_iff, or_comm]
  exact h

theorem stepDown_eq (at3 : (zoneOf s z).heat = 3) :
    stepDown s z = (post (putZone s z { zoneOf s z with heat := 2, level3 := 0 }) .heatStepdown (.zone z) 2, []) := by
  have lower : setHeat s z 2 = (putZone s z { zoneOf s z with heat := 2, level3 := 0 }, []) := by
    refine (setHeat_on (by rw [at3]; decide) (by decide)).trans ?_
    unfold heatTaken
    rw [modeAtLevel_on _ (by decide), if_neg fun e => absurd (at3.symm.trans e.2) (by decide)]
  rw [stepDown, lower]

end

/-- Settles O50: the answers of the levels, the claims of a fan by the rise or the fall of its level, and its output. -/
theorem heatAndFanLevelsAreSet : Obligations.HeatAndFanLevelsAreSet := by
  unfold Obligations.HeatAndFanLevelsAreSet
  refine ⟨fun s n level w => ?_, fun b s z => ?_⟩
  · intro heat fan
    refine ⟨fun mode => ?_, fun z at3 steps => ?_⟩
    · have runs : passes s.seat.brace.mode .plain = true := (passes_plain_iff _).mpr mode
      refine ⟨fun out => ⟨comfort_refuses w runs fun l _ => setHeatCommand_range out,
        comfort_refuses w runs fun l _ => setFanCommand_range out⟩, fun z zone small => ?_⟩
      intro x al with_
      have known := zoneOfCode_iff.mpr zone
      have heated {y : Did} (h : setHeat s.seat z level = y) : heat = .next (answered s .accepted y) := by
        subst h
        exact comfort_takes w runs fun l _ => setHeatCommand_takes known small
      have fanned {y : Did} (h : setFan s.base s.seat z level = y) : fan = .next (answered s .accepted y) := by
        subst h
        exact comfort_takes w runs fun l _ => setFanCommand_takes known small
      refine ⟨fun same => ?_, fun new on => ?_, fun new off => ?_, fun same => ?_, fun new => ?_⟩
      · exact (heated (setHeat_same same)).trans (congrArg Host.Outcome.next refused_eq_answered.symm)
      · refine heated ((setHeat_on new on).trans ?_)
        unfold heatTaken
        rw [modeAtLevel_on _ on]
        rfl
      · subst off
        refine heated ((setHeat_off new).trans ?_)
        unfold heaterOff heatTaken
        rw [modeAtLevel_off]
        rfl
      · exact (fanned (setFan_same same)).trans (congrArg Host.Outcome.next refused_eq_answered.symm)
      · intro y claims amount claim others lower lowered
        have changed := setFan_new (b := s.base) new
        refine ⟨fun zero free => ?_, fun raises => ?_⟩
        · have silent : ¬ fanClaims s.base.cfg level = true := fun h => (fanClaims_iff.mp h).elim (· zero) (· free)
          exact fanned (changed.trans (if_pos (by rw [Bool.eq_false_iff.mpr silent]; rfl)))
        · have speaks : ¬ (!fanClaims s.base.cfg level) = true := by
            rw [fanClaims_iff.mpr raises]
            exact Bool.false_ne_true
          have falls {a : Alloc} (lower_ : level < x.fan) (held : isPending al (.fan z) = true ∨ isGranted al (.fan z) = true)
              (h : fanFall s.base.cfg al z level = a) : claims a := by
            subst h
            exact fanned (changed.trans ((if_neg speaks).trans
              ((if_neg (Nat.not_lt.mpr (Nat.le_of_lt lower_))).trans (if_pos (holdsClaim_of held)))))
          refine ⟨fun rises => ?_, fun lower_ free held => falls lower_ (.inr held) (fanFall_granted free),
            fun lower_ waits free => falls lower_ (.inl waits) (fanFall_pending free), fun g lower_ waits held => ?_⟩
          · have risen := fanned (changed.trans ((if_neg speaks).trans (if_pos rises)))
            refine risen.trans ?_
            rw [fanRise_eq]
            rfl
          · have both := fanFall_both (cfg := s.base.cfg) (level := level) waits held
            refine ⟨fun below => ?_, fun same => ?_, fun above => ?_⟩
            · exact falls lower_ (.inl waits) (both.trans (if_pos below))
            · exact falls lower_ (.inl waits)
                (both.trans ((if_neg (Nat.not_lt.mpr (Nat.le_of_eq same.symm))).trans (if_neg (Nat.not_lt.mpr (Nat.le_of_eq same)))))
            · exact falls lower_ (.inl waits) (both.trans ((if_neg (Nat.not_lt.mpr (Nat.le_of_lt above))).trans (if_pos above)))
    · have due : stepsDown s.base.cfg s.seat z = true := (Bool.and_eq_true_iff ..).mpr ⟨decide_eq_true at3, decide_eq_true steps⟩
      refine (eventIf_works w due fun _ t => stepDown t z).trans (congrArg Host.Outcome.next ?_)
      rw [stepDown_eq at3, actOn_nil]
      rfl
  · refine ⟨fun g held => ?_, fun free => ?_, ?_⟩
    · have running : runningLevel s.alloc z = g.claim.level := by
        rw [runningLevel, grantedClaim, held]
        rfl
      have granted : isGranted s.alloc (.fan z) = true := isGranted_of_found held
      refine ⟨running, ?_⟩
      rw [fanOutput, if_pos granted, running]
      match g.claim.level with
      | 0 | 1 | 2 => rfl
      | _ + 3 => rfl
    · have nothing : isGranted s.alloc (.fan z) = false := not_isGranted_iff.mpr fun mem => by
        obtain ⟨g, hg, e⟩ := List.mem_map.mp mem
        exact free g hg e
      refine ⟨?_, if_neg (Bool.eq_false_iff.mp nothing)⟩
      rw [runningLevel, grantedClaim_none free]
      rfl
    · rfl

end Sys2Proof.Machine
end

section
/-! SUPPORT. The heat sample, the loop and mat temperature (R125 to R132). -/
namespace Sys2Proof.Machine

/-! ### The loop (R128 to R130) -/

section
variable {b : Base} {s : Seat} {z : Zone} {x : ZoneState} {code : Nat} {t : Int}

theorem codeFaulty_iff : codeFaulty code = true ↔ code < 16 ∨ 4079 < code := by
  rw [codeFaulty, Bool.or_eq_true_iff, decide_eq_true_iff, decide_eq_true_iff]

theorem switchHeaterOff_eq (s : Seat) (z : Zone) (x : ZoneState) :
    switchHeaterOff s z x = (putZone s z (heaterOff x), if x.demand = 0 then [] else [.pass]) := passIfDemand_eq _ _

theorem runLoop_eq :
    runLoop b (putZone s z x) z =
      (let w := loopValues (b.cfg.zone.get z) b.monitor.v x
       (putZone s z w, (if x.demand = w.demand then [] else [.pass]) ++ [.loopEnd z])) := by
  unfold runLoop
  dsimp only
  rw [zoneOf_putZone, putZone_put, passIfDemand_eq]

/-- A zone with the code of a sample, its timer restarted. -/
def sampled (b : Base) (s : Seat) (z : Zone) (code : Nat) : ZoneState :=
  { zoneOf s z with sampleLeft := some (b.cfg.zone.get z).heatPeriod, ntc := some code }

theorem heatSample_faulty (faulty : code < 16 ∨ 4079 < code) :
    heatSample b s z code =
      if (zoneOf s z).mode = .sensorFault then (putZone s z (sampled b s z code), [])
      else
        (putZone (post s .sensorFault (.zone z) (toWord code)) z (heaterOff { sampled b s z code with mode := .sensorFault }),
          if (zoneOf s z).demand = 0 then [] else [.pass]) := by
  unfold heatSample
  dsimp only
  rw [if_pos (codeFaulty_iff.mpr faulty), zoneFault, zoneOf_putZone]
  refine ite_congr rfl (fun _ => ?_) fun _ => ?_
  · exact congrArg done putZone_put
  · rw [switchHeaterOff_eq]
    exact congrArg₂ Prod.mk (putZone_put (s := post s .sensorFault (.zone z) (toWord code))) rfl

theorem heatSample_valid (low : 16 ≤ code) (high : code ≤ 4079) (h : temperature b.cfg.ntc code = t) :
    heatSample b s z code =
      judgeSample b (putZone s z { zoneOf s z with sampleLeft := some (b.cfg.zone.get z).heatPeriod }) z
        { sampled b s z code with temp := some t } t := by
  unfold heatSample
  dsimp only
  rw [if_neg fun e => (codeFaulty_iff.mp e).elim (Nat.not_lt.mpr low) (Nat.not_lt.mpr high), zoneOf_putZone, h]
  rfl

/-! ### The judgement of a sample (R126 to R132) -/

variable {s0 : Seat} {x0 y : ZoneState}

theorem overheat_eq :
    overheat (putZone s z x0) z y t =
      (putZone (post s .heatOverheat (.zone z) (signedWord t)) z (heaterOff { y with mode := .overheat }),
        if y.demand = 0 then [] else [.pass]) := by
  rw [overheat, switchHeaterOff_eq]
  exact congrArg₂ Prod.mk (putZone_put (s := post s .heatOverheat (.zone z) (signedWord t))) rfl

/-- What a sample of a zone that regulates does. -/
def regulated (b : Base) (s : Seat) (z : Zone) (y : ZoneState) : Did :=
  let w := loopValues (b.cfg.zone.get z) b.monitor.v { y with mode := .regulating }
  (putZone s z w, (if y.demand = w.demand then [] else [.pass]) ++ [.loopEnd z])

theorem regulated_eq : runLoop b (putZone (putZone s z x0) z { y with mode := .regulating }) z = regulated b s z y := by
  rw [putZone_put, runLoop_eq]
  rfl

theorem judgeSample_off (mode : y.mode = .off) : judgeSample b (putZone s z x0) z y t = (putZone s z y, []) := by
  unfold judgeSample
  dsimp only
  rw [mode]
  exact congrArg done putZone_put

theorem judgeSample_regulating (mode : y.mode = .regulating) :
    judgeSample b (putZone s z x0) z y t =
      if limitTemperature ≤ t then overheat (putZone s z x0) z y t else regulated b s z y := by
  unfold judgeSample
  dsimp only
  rw [regulated_eq, mode]

theorem judgeSample_overheat (mode : y.mode = .overheat) :
    judgeSample b (putZone s z x0) z y t =
      if t < limitTemperature - recoveryMargin then regulated b s z y else (putZone s z y, []) := by
  unfold judgeSample
  dsimp only
  rw [regulated_eq, mode, putZone_put]
  rfl

theorem judgeSample_fault (mode : y.mode = .sensorFault) :
    judgeSample b (putZone s z x0) z y t =
      if y.heat = 0 then (putZone s z { y with mode := .off }, [])
      else if limitTemperature ≤ t then overheat (putZone s z x0) z y t else regulated b s z y := by
  unfold judgeSample
  dsimp only
  rw [regulated_eq, mode]
  exact ite_congr rfl (fun _ => congrArg done putZone_put) fun _ => rfl

end

/-! ### Mat temperature (R125) -/

section
variable {p q : Breakpoint} {c : Nat} {rest before after table : List Breakpoint}

theorem segment_start : segment p q p.code = p.temp := by
  unfold segment floorDiv
  rw [sub_self, zero_mul, Int.zero_fdiv, add_zero]

theorem segment_end (h : q.code < p.code) : segment p q q.code = q.temp := by
  unfold segment floorDiv
  have positive : ((p.code : Int) - q.code) ≠ 0 := by omega
  rw [Nat.cast_sub h.le, Int.mul_fdiv_cancel_left _ positive]
  exact add_sub_cancel _ _

theorem temperatureFrom_cons (h : q.code ≤ c) : temperatureFrom c (p :: q :: rest) = segment p q c := if_pos h

theorem temperatureFrom_next (h : c < q.code) : temperatureFrom c (p :: q :: rest) = temperatureFrom c (q :: rest) :=
  if_neg (Nat.not_le.mpr h)

theorem temperatureFrom_start (sorted : (p :: rest).Pairwise fun p q => q.code < p.code) :
    temperatureFrom p.code (p :: rest) = p.temp := by
  cases rest with
  | nil => rfl
  | cons q rest =>
    rw [temperatureFrom_cons (List.rel_of_pairwise_cons sorted List.mem_cons_self).le, segment_start]

/-- The breakpoints above a code do not matter. -/
theorem temperatureFrom_skip (sorted : (before ++ p :: rest).Pairwise fun p q => q.code < p.code) (below : c ≤ p.code) :
    temperatureFrom c (before ++ p :: rest) = temperatureFrom c (p :: rest) := by
  induction before with
  | nil => rfl
  | cons x before ih =>
    have later := List.Pairwise.of_cons sorted
    rw [← ih later]
    cases before with
    | nil =>
      change temperatureFrom c (x :: p :: rest) = temperatureFrom c (p :: rest)
      rcases Nat.lt_or_eq_of_le below with less | same
      · exact temperatureFrom_next less
      · subst same
        rw [temperatureFrom_cons le_rfl, temperatureFrom_start later,
          segment_end (List.rel_of_pairwise_cons sorted List.mem_cons_self)]
    | cons y before =>
      have above : p.code < y.code := List.rel_of_pairwise_cons later (List.mem_append_right _ List.mem_cons_self)
      exact temperatureFrom_next (below.trans_lt above)

theorem temperature_from (sorted : (before ++ p :: rest).Pairwise fun p q => q.code < p.code) (below : c ≤ p.code) :
    temperature (before ++ p :: rest) c = temperatureFrom c (p :: rest) := by
  cases before with
  | nil =>
    change (if p.code ≤ c then p.temp else temperatureFrom c (p :: rest)) = _
    split
    · have same : c = p.code := by omega
      subst same
      exact (temperatureFrom_start sorted).symm
    · rfl
  | cons x before =>
    have above : p.code < x.code := List.rel_of_pairwise_cons sorted (List.mem_append_right _ List.mem_cons_self)
    exact (if_neg (Nat.not_le.mpr (below.trans_lt above))).trans (temperatureFrom_skip sorted below)

end

/-- Settles O51: a sample by its code and the state of the zone, the end of the loop, and mat temperature along its table. -/
theorem heatSamplesRegulate : Obligations.HeatSamplesRegulate := by
  unfold Obligations.HeatSamplesRegulate
  refine ⟨fun s z code w => ?_, fun table code sorted => ?_⟩
  · intro b x zs with_ off pass answer
    have answers {y : Did} (h : heatSample b s.seat z code = y) : answer = .next (actOn s y) := by
      subst h
      exact event_works w fun b t => heatSample b t z code
    have rests {y : Seat} (h : heatSample b s.seat z code = (y, [])) : answer = .next { s with seat := y } :=
      (answers h).trans (congrArg Host.Outcome.next (actOn_nil s y))
    refine ⟨fun faulty => ⟨fun mode => ?_, fun mode => ?_⟩, fun low high => ?_, ?_⟩
    · exact rests ((heatSample_faulty faulty).trans (if_pos mode))
    · exact answers ((heatSample_faulty faulty).trans (if_neg mode))
    · intro t y hot regulates
      have valid := heatSample_valid (s := s.seat) (z := z) low high (b := b) rfl
      have goesHot (h : heatSample b s.seat z code =
          overheat (putZone s.seat z { zoneOf s.seat z with sampleLeft := some zs.heatPeriod }) z y t) : hot :=
        answers (h.trans overheat_eq)
      have loops (h : heatSample b s.seat z code = regulated b s.seat z y) : regulates := answers h
      refine ⟨fun mode => rests (valid.trans (judgeSample_off (y := y) mode)), fun mode => ⟨fun atLimit => ?_, fun under => ?_⟩,
        fun mode => ⟨fun atMargin => ?_, fun under => ?_⟩,
        fun mode => ⟨fun level => ?_, fun level => ⟨fun atLimit => ?_, fun under => ?_⟩⟩⟩
      · exact goesHot (valid.trans ((judgeSample_regulating (y := y) mode).trans (if_pos atLimit)))
      · exact loops (valid.trans ((judgeSample_regulating (y := y) mode).trans (if_neg (not_le.mpr under))))
      · exact rests (valid.trans ((judgeSample_overheat (y := y) mode).trans (if_neg (not_lt.mpr atMargin))))
      · exact loops (valid.trans ((judgeSample_overheat (y := y) mode).trans (if_pos under)))
      · exact rests (valid.trans ((judgeSample_fault (y := y) mode).trans (if_pos level)))
      · exact goesHot (valid.trans ((judgeSample_fault (y := y) mode).trans ((if_neg level).trans (if_pos atLimit))))
      · exact loops (valid.trans ((judgeSample_fault (y := y) mode).trans ((if_neg level).trans (if_neg (not_le.mpr under)))))
    · rfl
  · intro t
    refine ⟨fun p rest split above => ?_, fun before p split below => ?_, fun before p q after split high low => ?_⟩
    · subst split
      exact if_pos above
    · subst split
      exact temperature_from sorted below
    · subst split
      have step : q.code < p.code :=
        List.rel_of_pairwise_cons (List.pairwise_append.mp sorted).2.1 List.mem_cons_self
      refine (temperature_from sorted low).trans ((temperatureFrom_cons high).trans ?_)
      unfold segment floorDiv
      rw [Nat.cast_sub step.le]

end Sys2Proof.Machine
end

section
/-! SUPPORT. What the early end of a move writes, releases and hands over (R17, R24); the ends of several axes one after another; what an
abort of a recall, an end of the massage and a hold-off leave unchanged (R61, R77, R120). -/
namespace Sys2Proof.Machine

/-! ### The early end of a move, written out (R17, R24) -/

/-- What an early end makes of an axis, whether it releases the claim, and what it hands over behind that. -/
structure EarlyEnd where
  axis : AxisState
  releases : Bool
  told : List Task

/-- R17 in COASTING. -/
def earlyCoast (r : MoveResult) (report : Bool) (x : AxisState) : EarlyEnd :=
  match x.pending with
  | some p =>
    { axis := { noExpiry x with pending := none, owner := p.owner, coastResult := some r, coastReport := report, afterShed := false },
      releases := true, told := [] }
  | none =>
    if keptMove x then
      { axis := { x with move := none, coastResult := some r, coastReport := report, afterShed := false }, releases := true, told := [] }
    else { axis := { noExpiry x with coastResult := some r, coastReport := report }, releases := false, told := [] }

/-- R17, by drive state. -/
def earlyEnd (cf : AxisSettings) (a : Axis) (r : MoveResult) (report : Bool) (x : AxisState) : EarlyEnd :=
  match x.drive with
  | .waitGrant => { axis := endedAxis x r, releases := true, told := reportIf report a x.owner r }
  | .driving =>
    { axis := coasting cf (noExpiry x) .request (some r) report, releases := x.pending.isNone, told := coastTasks cf a }
  | .coasting => earlyCoast r report x
  | _ => { axis := x, releases := false, told := [] }

/-- R24: the axis whose learn run is lost with its move. -/
def learnDropped (x : AxisState) : AxisState := if ownerMet .bracing x = .learn ∧ x.learn ≠ .none then learnLostAxis x else x

section
variable {b : Base} {s t : Seat} {a c : Axis} {r : MoveResult} {report : Bool} {x : AxisState}

theorem ownerMet_learn (m n : BraceMode) (x : AxisState) : ownerMet m x = .learn ↔ ownerMet n x = .learn := by
  unfold ownerMet
  cases x.pending with
  | some p => exact Iff.rfl
  | none =>
    dsimp only
    split <;> split
    · exact Iff.rfl
    · next h _ => simp [h.2.1]
    · next _ h => simp [h.2.1]
    · exact Iff.rfl

/-- The seat that has lost the learn run that is interrupted. -/
def learnBegun (s : Seat) (a : Axis) : Seat := if ownerMet s.brace.mode (axisOf s a) = .learn then loseLearn s a else s

theorem axisOf_learnBegun : axisOf (learnBegun s a) a = learnDropped (axisOf s a) := by
  unfold learnBegun learnDropped
  by_cases met : ownerMet s.brace.mode (axisOf s a) = .learn
  · rw [if_pos met]
    by_cases learn : (axisOf s a).learn = .none
    · rw [loseLearn_none learn, if_neg fun h => h.2 learn]
    · rw [loseLearn_lost learn, axisOf_learnLost, if_pos ⟨(ownerMet_learn _ _ _).mp met, learn⟩]
  · rw [if_neg met, if_neg fun h => met ((ownerMet_learn _ _ _).mp h.1)]

theorem learnBegun_alloc : (learnBegun s a).alloc = s.alloc := by
  unfold learnBegun loseLearn
  split
  · dsimp only
    split <;> rfl
  · rfl

theorem learnBegun_none (h : (axisOf s a).learn = .none) : learnBegun s a = s := by
  unfold learnBegun
  split
  · exact loseLearn_none h
  · rfl

/-- An early end of an axis is carried out. -/
def endedAs (s : Seat) (a : Axis) (e : EarlyEnd) : Did :=
  ((if e.releases then releaseClaim (putAxis s a e.axis) (.axis a) else (putAxis s a e.axis, [])).1,
    (if e.releases then releaseClaim (putAxis s a e.axis) (.axis a) else (putAxis s a e.axis, [])).2 ++ e.told)

theorem endedAs_releases {y : AxisState} :
    endedAs s a { axis := y, releases := true, told := [] } = releaseClaim (putAxis s a y) (.axis a) :=
  Prod.ext rfl (List.append_nil _)

theorem endCoasting_early : endCoasting s a r report = endedAs s a (earlyCoast r report (axisOf s a)) := by
  unfold earlyCoast
  split
  · next p hp => exact (endCoasting_pending hp).trans endedAs_releases.symm
  · next hp =>
    by_cases kept : keptMove (axisOf s a) = true
    · rw [if_pos kept]
      exact (endCoasting_kept kept).trans endedAs_releases.symm
    · rw [if_neg kept]
      exact endCoasting_plain hp kept

theorem endMove_early (early : r ≠ .reached) :
    endMove b s a r report =
      endedAs (learnBegun s a) a (earlyEnd (b.cfg.axis.get a) a r report (learnDropped (axisOf s a))) := by
  rw [← axisOf_learnBegun]
  have begun : endMove b s a r report =
      match (axisOf (learnBegun s a) a).drive with
      | .waitGrant => finishAtOnce (learnBegun s a) a r report
      | .driving => switchOff b (putAxis (learnBegun s a) a (noExpiry (axisOf (learnBegun s a) a))) a .request (some r) report
      | .coasting => endCoasting (learnBegun s a) a r report
      | _ => done (learnBegun s a) := rfl
  rw [begun]
  generalize learnBegun s a = u
  have same : putAxis u a (axisOf u a) = u := putAxis_axisOf
  unfold earlyEnd
  cases drive : (axisOf u a).drive with
  | idle => exact (congrArg done same.symm).trans rfl
  | fault => exact (congrArg done same.symm).trans rfl
  | waitGrant =>
    have ends := finishAtOnce_put (s := u) (a := a) (x := axisOf u a) (r := r) (report := report) fun h => early h.2.2
    rw [same] at ends
    exact ends
  | driving =>
    dsimp only
    unfold switchOff
    dsimp only
    rw [axisOf_putAxis, putAxis_put]
    cases hp : (axisOf u a).pending with
    | none =>
      have free : (noExpiry (axisOf u a)).pending.isSome = false := congrArg Option.isSome hp
      rw [free]
      rfl
    | some p =>
      have held : (noExpiry (axisOf u a)).pending.isSome = true := congrArg Option.isSome hp
      rw [held]
      rfl
  | coasting =>
    exact endCoasting_early

theorem releaseClaim_axis (s : Seat) (c : Consumer) (a : Axis) : axisOf (releaseClaim s c).1 a = axisOf s a := by
  rw [releaseClaim_seat]
  rfl

theorem releaseClaim_told (s : Seat) (c : Consumer) : (releaseClaim s c).2 = if holdsClaim s.alloc c then [.pass] else [] := by
  unfold releaseClaim
  split <;> rfl

theorem endedAs_axis {e : EarlyEnd} : axisOf (endedAs s a e).1 a = e.axis := by
  unfold endedAs
  split
  · exact (releaseClaim_axis _ _ _).trans (axisOf_putAxis _ _ _)
  · exact axisOf_putAxis _ _ _

theorem endedAs_told {e : EarlyEnd} :
    (endedAs s a e).2 = (if e.releases = true ∧ holdsClaim s.alloc (.axis a) = true then [.pass] else []) ++ e.told := by
  unfold endedAs
  by_cases releases : e.releases = true
  · rw [if_pos releases, releaseClaim_told]
    simp only [releases, true_and]
    rfl
  · rw [if_neg releases, if_neg fun h => releases h.1]

theorem endedAs_store {e : EarlyEnd} : (endedAs s a e).1.store = s.store := by
  unfold endedAs
  split
  · exact (congrArg Seat.store (releaseClaim_seat (putAxis s a e.axis) (.axis a))).trans rfl
  · rfl

section
variable (early : r ≠ .reached)
include early

theorem endMove_axis :
    axisOf (endMove b s a r report).1 a = (earlyEnd (b.cfg.axis.get a) a r report (learnDropped (axisOf s a))).axis := by
  rw [endMove_early early, endedAs_axis]

theorem endMove_told :
    (endMove b s a r report).2 =
      (if (earlyEnd (b.cfg.axis.get a) a r report (learnDropped (axisOf s a))).releases = true ∧ holdsClaim s.alloc (.axis a) = true
        then [.pass] else []) ++ (earlyEnd (b.cfg.axis.get a) a r report (learnDropped (axisOf s a))).told := by
  rw [endMove_early early, endedAs_told, learnBegun_alloc]

theorem endMove_store (learn : (axisOf s a).learn = .none) : (endMove b s a r report).1.store = s.store := by
  rw [endMove_early early, endedAs_store, learnBegun_none learn]

theorem endMove_told_congr (axis : axisOf t a = axisOf s a) (claim : holdsClaim t.alloc (.axis a) = holdsClaim s.alloc (.axis a)) :
    (endMove b t a r report).2 = (endMove b s a r report).2 := by
  rw [endMove_told early, endMove_told early, axis, claim]

theorem endMove_axis_congr (axis : axisOf t a = axisOf s a) :
    axisOf (endMove b t a r report).1 a = axisOf (endMove b s a r report).1 a := by
  rw [endMove_axis early, endMove_axis early, axis]

end

theorem earlyCoast_keeps :
    (earlyCoast r report x).axis.learn = x.learn ∧ (earlyCoast r report x).axis.drive = x.drive ∧
      (earlyCoast r report x).axis.bridge = x.bridge := by
  unfold earlyCoast
  split
  · exact ⟨rfl, rfl, rfl⟩
  · split <;> exact ⟨rfl, rfl, rfl⟩

theorem earlyEnd_learn {cf : AxisSettings} (h : x.learn = .none) : (earlyEnd cf a r report x).axis.learn = .none := by
  unfold earlyEnd
  cases x.drive with
  | idle => exact h
  | fault => exact h
  | waitGrant => exact h
  | driving => exact h
  | coasting => exact earlyCoast_keeps.1.trans h

/-- An axis that a move drove, or whose coast runs, coasts; one that waited is idle. -/
def stoppedDrive (d : Drive) : Drive :=
  match d with
  | .waitGrant => .idle
  | .driving => .coasting
  | d => d

theorem earlyEnd_drive {cf : AxisSettings} : (earlyEnd cf a r report x).axis.drive = stoppedDrive x.drive := by
  unfold earlyEnd
  cases drive : x.drive with
  | idle => exact drive
  | fault => exact drive
  | waitGrant => rfl
  | driving => rfl
  | coasting => exact earlyCoast_keeps.2.1.trans drive

theorem learnDropped_drive : (learnDropped x).drive = x.drive := by
  unfold learnDropped
  split <;> rfl

theorem learnDropped_learn (h : x.learn = .none) : (learnDropped x).learn = .none := by
  unfold learnDropped
  split
  · rfl
  · exact h

/-! ### Claims that another release leaves -/

theorem any_filter_ne {α : Type} {l : List α} {p q : α → Bool} (h : ∀ x ∈ l, p x = true → q x = true) :
    (l.filter q).any p = l.any p := by
  induction l with
  | nil => rfl
  | cons y l ih =>
    have rest := ih fun x hx => h x (List.mem_cons_of_mem _ hx)
    by_cases keep : q y = true
    · rw [List.filter_cons_of_pos keep, List.any_cons, List.any_cons, rest]
    · rw [List.filter_cons_of_neg keep, List.any_cons, rest, Bool.eq_false_iff.mpr fun e => keep (h y List.mem_cons_self e),
        Bool.false_or]

theorem holdsClaim_released {d e : Consumer} (ne : e ≠ d) : holdsClaim (releaseClaim s d).1.alloc e = holdsClaim s.alloc e := by
  unfold releaseClaim
  split
  · have granted : isGranted (dropClaims s.alloc d) e = isGranted s.alloc e :=
      any_filter_ne fun g _ h => decide_eq_true fun same => ne ((of_decide_eq_true h).symm.trans same)
    have pending : isPending (dropClaims s.alloc d) e = isPending s.alloc e :=
      any_filter_ne fun p _ h => decide_eq_true fun same => ne ((of_decide_eq_true h).symm.trans same)
    change (isGranted (dropClaims s.alloc d) e || isPending (dropClaims s.alloc d) e) = _
    rw [granted, pending]
    rfl
  · rfl

theorem endMove_claims (early : r ≠ .reached) (ne : c ≠ a) :
    holdsClaim (endMove b s a r report).1.alloc (.axis c) = holdsClaim s.alloc (.axis c) := by
  rw [endMove_early early, endedAs]
  have other : Consumer.axis c ≠ .axis a := fun h => ne (Consumer.axis.inj h)
  have alloc : (putAxis (learnBegun s a) a (earlyEnd (b.cfg.axis.get a) a r report (learnDropped (axisOf s a))).axis).alloc = s.alloc :=
    learnBegun_alloc
  split
  · rw [holdsClaim_released other, alloc]
  · rw [alloc]

end

/-! ### Axis after axis -/

section
variable {f : Axis → Seat → Did} {out : Axis → AxisState → AxisState} {s : Seat} {a c : Axis} {l : List Axis}

theorem forEach_cons {α : Type} (f : α → Seat → Did) (i : α) (l : List α) (s : Seat) :
    forEach (i :: l) f s = andThen (f i s) (forEach l f) := by
  rw [andThen_forEach]
  rfl

/-- A member acts on its own axis alone, and what it makes of it is known from the axis. -/
structure ActsAlone (f : Axis → Seat → Did) (out : Axis → AxisState → AxisState) : Prop where
  own : ∀ a s, axisOf (f a s).1 a = out a (axisOf s a)
  other : ∀ a c s, c ≠ a → axisOf (f a s).1 c = axisOf s c

theorem forEach_axis (h : ActsAlone f out) (nodup : l.Nodup) :
    axisOf (forEach l f s).1 c = if c ∈ l then out c (axisOf s c) else axisOf s c := by
  induction l generalizing s with
  | nil => rfl
  | cons a l ih =>
    obtain ⟨fresh, later⟩ := List.nodup_cons.mp nodup
    rw [forEach_cons, andThen_fst, ih later]
    by_cases here : c = a
    · subst here
      rw [if_neg fresh, if_pos List.mem_cons_self, h.own]
    · rw [h.other a c s here]
      exact if_congr (List.mem_cons.trans (or_iff_right here)).symm rfl rfl

theorem forEach_told (h : ∀ a c s, c ≠ a → (f c (f a s).1).2 = (f c s).2) (nodup : l.Nodup) :
    (forEach l f s).2 = l.flatMap fun a => (f a s).2 := by
  induction l generalizing s with
  | nil => rfl
  | cons a l ih =>
    obtain ⟨fresh, later⟩ := List.nodup_cons.mp nodup
    rw [forEach_cons, andThen_snd, ih later, List.flatMap_cons]
    refine congrArg _ (List.flatMap_congr fun c mem => h a c s ?_)
    rintro rfl
    exact fresh mem

theorem endMove_alone (b : Base) {r : MoveResult} (early : r ≠ .reached) (report : Bool) :
    ActsAlone (fun a t => endMove b t a r report)
      (fun a x => (earlyEnd (b.cfg.axis.get a) a r report (learnDropped x)).axis) :=
  ⟨fun _ _ => endMove_axis early, fun a c s ne => (endMove_other b s a c r report ne).1⟩

end

/-! ### What an abort of a recall leaves (R77) -/

section
variable {b : Base} {s : Seat} {o : RecallOutcome} {a : Axis}

theorem abortRecall_ctx : (abortRecall b s o).1.recallCtx = none := by
  unfold abortRecall
  cases ctx : s.recallCtx with
  | none => exact ctx
  | some r =>
    dsimp only
    rw [noteRestore_eq]
    rfl

theorem abortRecall_brace : ∃ v, (abortRecall b s o).1.brace = { s.brace with restore := v } := by
  unfold abortRecall
  cases ctx : s.recallCtx with
  | none => exact ⟨_, rfl⟩
  | some r =>
    have kept := KeepsRest.forEach (recallOrder.filter (fun a => r.result.get a = .running))
      (fun a t => endMove b t a (abortResult (axisOf s a) o) false) s fun a t => endMove_keeps b t a _ _
    dsimp only
    rw [noteRestore_eq]
    dsimp only [closeRecall]
    simp only [post_brace, kept.brace]
    split
    · exact ⟨_, rfl⟩
    · exact ⟨_, rfl⟩

/-- An abort leaves the profiles, the zones and the contacts. -/
theorem abortRecall_rest :
    (abortRecall b s o).1.profiles = s.profiles ∧ (abortRecall b s o).1.zones = s.zones ∧
      (abortRecall b s o).1.scanner = s.scanner := by
  unfold abortRecall
  cases ctx : s.recallCtx with
  | none => exact ⟨rfl, rfl, rfl⟩
  | some r =>
    have kept := KeepsRest.forEach (recallOrder.filter (fun a => r.result.get a = .running))
      (fun a t => endMove b t a (abortResult (axisOf s a) o) false) s fun a t => endMove_keeps b t a _ _
    dsimp only
    rw [noteRestore_eq]
    exact ⟨kept.profiles, kept.zones, kept.scanner⟩

theorem abortRecall_axis :
    axisOf (abortRecall b s o).1 a =
      if ∃ r, s.recallCtx = some r ∧ r.result.get a = .running then
        (earlyEnd (b.cfg.axis.get a) a (abortResult (axisOf s a) o) false (learnDropped (axisOf s a))).axis
      else axisOf s a := by
  unfold abortRecall
  cases ctx : s.recallCtx with
  | none => exact (if_neg fun ⟨r, h, _⟩ => nomatch h).symm
  | some r =>
    have alone : ActsAlone (fun c t => endMove b t c (abortResult (axisOf s c) o) false)
        (fun c x => (earlyEnd (b.cfg.axis.get c) c (abortResult (axisOf s c) o) false (learnDropped x)).axis) :=
      ⟨fun c t => endMove_axis (abortResult_ne _ _), fun c d t ne => (endMove_other b t c d _ _ ne).1⟩
    have nodup : (recallOrder.filter (fun a => r.result.get a = .running)).Nodup := List.Nodup.filter _ (by decide)
    have moved := forEach_axis (s := s) (c := a) alone nodup
    dsimp only
    rw [noteRestore_eq]
    refine Eq.trans (moved.trans (if_congr ?_ rfl rfl)) rfl
    rw [List.mem_filter, decide_eq_true_iff]
    exact ⟨fun h => ⟨r, rfl, h.2⟩, fun ⟨q, same, h⟩ => ⟨mem_recallOrder a, by rw [Option.some.inj same]; exact h⟩⟩

end

/-! ### The end of the massage (R120) and the hold-off of every contact (R61) -/

section
variable {s u : Seat} {why : EndReason} {c e : Contact}

theorem engineEnd_seat : ∃ g n, engineEnd s why = { s with engine := g, notices := n } := by
  unfold engineEnd
  split
  · exact ⟨_, _, rfl⟩
  · exact ⟨_, _, rfl⟩

/-- What an ending without a stop leaves of the engine, in the words of the section. -/
def EndsMassage (s : Seat) (why : EndReason) (t : Seat) : Prop :=
  let e := s.engine
  (e.state = .off → t.engine = e) ∧
  (e.state ≠ .off → ∃ cells : CellSet,
    t.engine =
      { e with
        state := .off, held := cells, outstanding := 0, stillToAsk := 0, endReason := some why, asking := none, holdLeft := none,
        restLeft := none } ∧
    ∀ i ∈ [Bladder.m1, .m2, .m3, .m4, .m5, .m6, .m7, .m8], (inSet cells i = true ↔
      0 < (s.gallery.bladders.get i).lastTarget ∨
        (e.asking = some { kind := .vent, target := 0 } ∧ (inSet e.outstanding i = true ∨ inSet e.stillToAsk i = true))))

theorem engineEnd_ends (engine : u.engine = s.engine) (gallery : u.gallery = s.gallery) : EndsMassage s why (engineEnd u why) := by
  refine ⟨fun off => ?_, fun on => ⟨heldCells u, ?_, fun i cell => ?_⟩⟩
  · rw [engineEnd_keeps_off u why (by rw [engine]; exact off), engine]
  · rw [engineEnd_engine u why (by rw [engine]; exact on), engine]
  · rw [heldCells_mem u i cell, asksVents_iff, engine, gallery]
    rfl

theorem engineEnd_told :
    (engineEnd u why).notices =
      if u.engine.state = .off then u.notices
      else postTo u.notices .massageStopped (patternSubject u.engine.pattern) (toWord (reasonCode why)) := by
  split
  · next off => rw [engineEnd_keeps_off u why off]
  · next on => exact engineEnd_notices u why on

theorem holdOff_seat (s : Seat) (c : Contact) : ∃ sc, holdOff s c = { s with scanner := sc } := by
  unfold holdOff
  split
  · exact ⟨_, rfl⟩
  · exact ⟨s.scanner, rfl⟩

theorem foldl_holdOff_seat (l : List Contact) (s : Seat) : ∃ sc, l.foldl holdOff s = { s with scanner := sc } := by
  induction l generalizing s with
  | nil => exact ⟨s.scanner, rfl⟩
  | cons c l ih =>
    obtain ⟨sc, e⟩ := holdOff_seat s c
    obtain ⟨sc', e'⟩ := ih (holdOff s c)
    exact ⟨sc', e'.trans (by rw [e])⟩

theorem holdOff_quiet (h : e = c ∨ (contactOf s.scanner e).cond ≠ some .active) :
    (contactOf (holdOff s c).scanner e).cond ≠ some .active := by
  rw [contactOf_holdOff]
  split
  · exact fun active => nomatch active
  · next kept =>
    intro active
    exact h.elim (fun same => kept ⟨same, active⟩) fun quiet => quiet active

theorem foldl_holdOff_quiet {l : List Contact} (h : e ∈ l ∨ (contactOf s.scanner e).cond ≠ some .active) :
    (contactOf (l.foldl holdOff s).scanner e).cond ≠ some .active := by
  induction l generalizing s with
  | nil => exact h.resolve_left List.not_mem_nil
  | cons c l ih =>
    refine ih ?_
    rcases h with mem | quiet
    · rcases List.mem_cons.mp mem with here | later
      · exact .inr (holdOff_quiet (.inl here))
      · exact .inl later
    · exact .inr (holdOff_quiet (.inr quiet))

/-- Every contact is held off, no repetition waits and the store window is closed. -/
theorem heldOff_seat (s : Seat) :
    ∃ sc : Scanner, closeWindow (holdOffAll s) = { s with scanner := sc } ∧ sc.window = none ∧ sc.waiting = [] ∧
      ∀ c, (contactOf sc c).cond ≠ some .active := by
  obtain ⟨sc, e⟩ := foldl_holdOff_seat contactOrder s
  refine ⟨{ sc with waiting := [], window := none }, ?_, rfl, rfl, fun c => ?_⟩
  · unfold closeWindow holdOffAll
    rw [e]
  · have quiet := foldl_holdOff_quiet (s := s) (e := c) (.inl (mem_contactOrder c))
    rw [e] at quiet
    cases c <;> exact quiet

end

end Sys2Proof.Machine
end

section
/-! SUPPORT. The entry to a brace, its upgrade, its hold, and what a brace and a stand-down ask (R140 to R147, R150, R152). -/
namespace Sys2Proof.Machine

/-! ### Judgement and moves (R142) -/

section
variable {b : Base} {s t : Seat} {a : Axis} {x : AxisState} {g : Nat} {op : Op} {i : Bolster} {v : OpResult}

theorem mem_braceOrder (a : Axis) : a ∈ braceOrder := by cases a <;> decide

theorem inWindow_iff {cf : AxisSettings} {p : Nat} : inWindow cf p = true ↔ cf.windowLow ≤ p ∧ p ≤ cf.windowHigh := by
  rw [inWindow, Bool.and_eq_true_iff, decide_eq_true_iff, decide_eq_true_iff]

theorem judgeAll_get (a : Axis) :
    (judgeAll b s).get a =
      if present b.fit a = false ∨ (b.cfg.axis.get a).braceEnable = false then .none
      else if (axisOf s a).drive = .fault then .fault
      else if (axisOf s a).confidence = .unlearned then .unlearned
      else if (b.cfg.axis.get a).windowLow ≤ (axisOf s a).position ∧ (axisOf s a).position ≤ (b.cfg.axis.get a).windowHigh then
        .inWindow
      else .running := by
  rw [judgeAll, tabulate_get, judgeBrace]
  simp only [inWindow_iff]
  cases present b.fit a <;> cases (b.cfg.axis.get a).braceEnable <;> simp

theorem actionsOf_get (a : Axis) : (actionsOf b s g).get a = if g = 2 then (judgeAll b s).get a else .none := by
  unfold actionsOf
  split
  · rfl
  · exact PerAxis.get_all _ _

theorem moveTasks_none (h : g ≠ 2) : moveTasks b s (actionsOf b s g) = [] := by
  have nobody : toDrive (actionsOf b s g) = [] :=
    List.filter_eq_nil_iff.mpr fun a _ => by rw [actionsOf_get, if_neg h]; decide
  rw [moveTasks, nobody]
  rfl

theorem moveTasks_eq (g : Nat) : moveTasks b s (actionsOf b s g) = if g = 2 then moveTasks b s (judgeAll b s) else [] := by
  by_cases h : g = 2
  · rw [if_pos h, actionsOf, if_pos h]
  · rw [if_neg h, moveTasks_none h]

theorem toDrive_contains {actions : PerAxis AxisAction} : (toDrive actions).contains a = true ↔ actions.get a = .running := by
  rw [List.contains_iff_mem, toDrive, List.mem_filter, decide_eq_true_iff]
  exact and_iff_right (mem_braceOrder a)

theorem postBrace_eq (restore : RestoreOutcome) :
    postBrace s restore =
      post s .braceState .none (pairWord (modeCode s.brace.mode) (restoreCode restore * 16 + gradeOrKind s.brace)) := rfl

theorem postBrace_plain : postBrace s .none = post s .braceState .none (pairWord (modeCode s.brace.mode) (gradeOrKind s.brace)) := by
  rw [postBrace_eq]
  exact congrArg (fun n => post s .braceState .none (pairWord (modeCode s.brace.mode) n)) (Nat.zero_add _)

/-! ### The moves that end at an entry (R141 step 4) -/

/-- What an entry makes of an axis that it does not drive. -/
def entryAxis (b : Base) (drive : List Axis) (a : Axis) (x : AxisState) : AxisState :=
  if ¬ drive.contains a = true ∧ (ownerMet .bracing x = .manual ∨ ownerMet .bracing x = .link ∨ ownerMet .bracing x = .learn) then
    (earlyEnd (b.cfg.axis.get a) a .aborted false (learnDropped x)).axis
  else x

theorem endForBrace_eq (drive : List Axis) :
    endForBrace b drive a s =
      if ¬ drive.contains a = true ∧ (ownerMet .bracing (axisOf s a) = .manual ∨ ownerMet .bracing (axisOf s a) = .link ∨
          ownerMet .bracing (axisOf s a) = .learn) then endMove b s a .aborted false
      else (s, []) := by
  unfold endForBrace
  by_cases driven : drive.contains a = true
  · rw [if_pos driven, if_neg fun h => h.1 driven]
    rfl
  · rw [if_neg driven]
    cases ownerMet .bracing (axisOf s a) with
    | manual => exact (if_pos ⟨driven, .inl rfl⟩).symm
    | link => exact (if_pos ⟨driven, .inr (.inl rfl)⟩).symm
    | learn => exact (if_pos ⟨driven, .inr (.inr rfl)⟩).symm
    | none => exact (if_neg (by simp)).symm
    | brace => exact (if_neg (by simp)).symm
    | _ => exact (if_neg (by simp)).symm

theorem endForBrace_alone (b : Base) (drive : List Axis) : ActsAlone (endForBrace b drive) (entryAxis b drive) := by
  refine ⟨fun a s => ?_, fun a c s ne => ?_⟩
  · rw [endForBrace_eq, entryAxis]
    split
    · exact endMove_axis MoveResult.noConfusion
    · rfl
  · rw [endForBrace_eq]
    split
    · exact (endMove_other b s a c _ _ ne).1
    · rfl

theorem endForBrace_keeps (drive : List Axis) (a : Axis) (s : Seat) : KeepsRest s (endForBrace b drive a s).1 := by
  rw [endForBrace_eq]
  split
  · exact endMove_keeps b s a _ _
  · exact .same s

theorem endForBrace_massage (drive : List Axis) (a : Axis) (s : Seat) : KeepsMassage s (endForBrace b drive a s).1 := by
  rw [endForBrace_eq]
  split
  · exact endMove_massage b s a _ _ MoveResult.noConfusion
  · exact ⟨rfl, rfl, rfl⟩

/-! ### Quiet (R61, R77, R120) -/

/-- The notice of the recall that a brace or a crash aborts. -/
def recallTold (s : Seat) : Notices :=
  match s.recallCtx with
  | some r => postTo s.notices .recallDone .none (pairWord (slotCode r.slot * 16 + sourceCode r.source) (outcomeCode .preempted))
  | none => s.notices

/-- The notices once the massage has ended too. -/
def quietTold (s : Seat) (why : EndReason) : Notices :=
  if s.engine.state = .off then recallTold s
  else postTo (recallTold s) .massageStopped (patternSubject s.engine.pattern) (toWord (reasonCode why))

/-- No recall, no massage, no store window, and no contact that acts. -/
def Quiet (s : Seat) (why : EndReason) (t : Seat) : Prop :=
  t.recallCtx = none ∧ EndsMassage s why t ∧ t.notices = quietTold s why ∧ t.scanner.window = none ∧ t.scanner.waiting = [] ∧
    ∀ c, (contactOf t.scanner c).cond ≠ some .active

theorem quieted {u : Seat} {why : EndReason} (ctx : u.recallCtx = none) (engine : u.engine = s.engine)
    (gallery : u.gallery = s.gallery) (notices : u.notices = recallTold s) :
    Quiet s why (closeWindow (holdOffAll (engineEnd u why))) := by
  obtain ⟨sc, seat, window, waiting, silent⟩ := heldOff_seat (engineEnd u why)
  obtain ⟨e, n, ended⟩ := engineEnd_seat (s := u) (why := why)
  have ends : EndsMassage s why (engineEnd u why) := engineEnd_ends engine gallery
  have told : (engineEnd u why).notices = quietTold s why := by
    rw [engineEnd_told, engine, notices]
    rfl
  rw [seat]
  refine ⟨?_, ends, told, window, waiting, silent⟩
  change (engineEnd u why).recallCtx = none
  rw [ended]
  exact ctx

/-- Quieting leaves everything but the engine, the notices and the contacts. -/
theorem quieted_seat {u : Seat} {why : EndReason} :
    ∃ e n sc, closeWindow (holdOffAll (engineEnd u why)) = { u with engine := e, notices := n, scanner := sc } := by
  obtain ⟨sc, seat, _⟩ := heldOff_seat (engineEnd u why)
  obtain ⟨e, n, ended⟩ := engineEnd_seat (s := u) (why := why)
  exact ⟨e, n, sc, seat.trans (by rw [ended])⟩

end

/-! ### Entry (R141) -/

section
variable (b : Base) (s : Seat) (g : Nat)

/-- The seat at an entry, before the recall is aborted. -/
def entrySeat : Seat := withBrace (putProfile s .brace (captureBrace b.fit s)) (enteredBrace g (actionsOf b s g))

/-- The seat of an entry once the recall is aborted and the moves have ended. -/
def entryEnded : Did :=
  andThen (abortRecall b (entrySeat b s g) .preempted)
    (fun t => forEach (presentIn b.fit axisOrder) (endForBrace b (toDrive (actionsOf b s g))) t)

theorem enterBracing_eq :
    enterBracing b s g =
      (closeWindow (holdOffAll (engineEnd (entryEnded b s g).1 .brace)),
        (entryEnded b s g).2 ++ [.pass] ++ fillTasks ++ moveTasks b s (actionsOf b s g) ++ [.braceEntered]) := rfl

theorem entryEnded_keeps : KeepsRest (abortRecall b (entrySeat b s g) .preempted).1 (entryEnded b s g).1 := by
  rw [entryEnded, andThen_fst]
  exact KeepsRest.forEach _ _ _ fun a t => endForBrace_keeps _ a t

theorem entryEnded_massage :
    (entryEnded b s g).1.engine = s.engine ∧ (entryEnded b s g).1.gallery = s.gallery ∧ (entryEnded b s g).1.notices = recallTold s := by
  obtain ⟨engine, gallery, notices⟩ := abortRecall_massage b (entrySeat b s g) .preempted
  have kept := forEach_massage (presentIn b.fit axisOrder) (endForBrace b (toDrive (actionsOf b s g)))
    (abortRecall b (entrySeat b s g) .preempted).1 fun a t => endForBrace_massage _ a t
  rw [entryEnded, andThen_fst]
  exact ⟨kept.engine.trans engine, kept.gallery.trans gallery, kept.notices.trans notices⟩

theorem entryEnded_axis (a : Axis) (free : ∀ k, s.recallCtx = some k → k.result.get a ≠ .running) :
    axisOf (entryEnded b s g).1 a =
      if present b.fit a = true then entryAxis b (toDrive (actionsOf b s g)) a (axisOf s a) else axisOf s a := by
  have nodup : (presentIn b.fit axisOrder).Nodup := List.Nodup.filter _ (by decide)
  have kept : axisOf (abortRecall b (entrySeat b s g) .preempted).1 a = axisOf s a :=
    abortRecall_axis.trans (if_neg fun ⟨r, ctx, runs⟩ => free r ctx runs)
  rw [entryEnded, andThen_fst, forEach_axis (endForBrace_alone b _) nodup, kept]
  refine if_congr ?_ rfl rfl
  rw [presentIn, List.mem_filter]
  exact and_iff_right (mem_axisOrder a)

/-- The seat of a re-brace once the recall is aborted. -/
def reBraceEnded : Did :=
  abortRecall b
    (withBrace s { s.brace with
      mode := .bracing, grade := g, holdLeft := none, bolster := .all .running, axisAction := actionsOf b s g }) .preempted

theorem reBrace_eq :
    reBrace b s g =
      (closeWindow (holdOffAll (engineEnd (reBraceEnded b s g).1 .brace)),
        (reBraceEnded b s g).2 ++ [.pass] ++ fillTasks ++ moveTasks b s (actionsOf b s g) ++ [.braceEntered]) := rfl

end

/-! ### By brace state (R140, R145, R146) -/

section
variable {b : Base} {s : Seat} {g : Nat} {op : Op} {i : Bolster} {v : OpResult}

theorem takeBrace_holds (mode : s.brace.mode = .bracing ∨ s.brace.mode = .braced) (low : g ≤ s.brace.grade) :
    takeBrace b s g = (restartHold b s, []) := by
  unfold takeBrace
  rcases mode with e | e
  · rw [e]
    exact if_neg (Nat.not_lt.mpr low)
  · rw [e]
    exact if_neg (Nat.not_lt.mpr low)

theorem takeBrace_upgrades (mode : s.brace.mode = .bracing ∨ s.brace.mode = .braced) (high : s.brace.grade < g) :
    takeBrace b s g = upgradeBrace b s g := by
  unfold takeBrace
  rcases mode with e | e
  · rw [e]
    exact if_pos high
  · rw [e]
    exact if_pos high

/-- The brace controller of an upgrade. -/
def upgraded (b : Base) (s : Seat) (g : Nat) : Brace := { s.brace with grade := g, axisAction := judgeAll b s, holdLeft := none }

theorem upgradeBrace_moves (h : s.brace.mode = .bracing ∨ moveTasks b s (judgeAll b s) ≠ []) :
    upgradeBrace b s g =
      ({ s with brace := { upgraded b s g with mode := .bracing } },
        (if s.brace.mode = .braced then [.pass] else []) ++ moveTasks b s (judgeAll b s) ++ [.braceEntered]) := by
  refine if_neg fun ⟨braced, nobody⟩ => ?_
  rcases h with bracing | moves
  · exact nomatch bracing.symm.trans braced
  · exact moves (by rw [moveTasks, List.isEmpty_iff.mp nobody]; rfl)

theorem upgradeBrace_still (braced : s.brace.mode = .braced) (h : moveTasks b s (judgeAll b s) = []) :
    upgradeBrace b s g = (postBrace (restartHold b (withBrace s (upgraded b s g))) .none, []) :=
  if_pos ⟨braced, List.isEmpty_iff.mpr (List.map_eq_nil_iff.mp h)⟩

theorem takeHold_holds (mode : s.brace.mode = .bracing ∨ s.brace.mode = .braced) : takeHold b s = restartHold b s := by
  unfold takeHold
  rcases mode with e | e <;> rw [e]

theorem takeHold_other (notBracing : s.brace.mode ≠ .bracing) (notBraced : s.brace.mode ≠ .braced) : takeHold b s = s := by
  unfold takeHold
  cases mode : s.brace.mode with
  | bracing => exact absurd mode notBracing
  | braced => exact absurd mode notBraced
  | idle => rfl
  | releasing => rfl
  | locked => rfl

theorem axisActionRuns_iff {x : Brace} : axisActionRuns x = true ↔ ∃ a, x.axisAction.get a = .running := by
  rw [axisActionRuns, List.any_eq_true]
  exact exists_congr fun a => ⟨fun h => of_decide_eq_true h.2, fun h => ⟨mem_axisOrder a, decide_eq_true h⟩⟩

theorem mem_bolsterOrder (i : Bolster) : i ∈ bolsterOrder := by cases i <;> decide

theorem bolsterRuns_iff {x : Brace} : bolsterRuns x = true ↔ ∃ i, x.bolster.get i = .running := by
  rw [bolsterRuns, List.any_eq_true]
  exact exists_congr fun i => ⟨fun h => of_decide_eq_true h.2, fun h => ⟨mem_bolsterOrder i, decide_eq_true h⟩⟩

theorem ventRuns_iff {x : Brace} : ventRuns x = true ↔ ∃ i, x.vents.get i = .running := by
  rw [ventRuns, List.any_eq_true]
  exact exists_congr fun i => ⟨fun h => of_decide_eq_true h.2, fun h => ⟨mem_bolsterOrder i, decide_eq_true h⟩⟩

theorem braceCheck_waits (h : (∃ a, s.brace.axisAction.get a = .running) ∨ (∃ i, s.brace.bolster.get i = .running) ∨
    b.monitor.state = .cutoff) : braceCheck b s = (s, []) := by
  refine if_neg fun ⟨_, _, noAxis, noBolster, on⟩ => ?_
  rcases h with runs | runs | off
  · exact noAxis (axisActionRuns_iff.mpr runs)
  · exact noBolster (bolsterRuns_iff.mpr runs)
  · exact on off

theorem braceCheck_braced (mode : s.brace.mode = .bracing) (entered : s.brace.holdLeft.isSome = true)
    (noAxis : ¬ ∃ a, s.brace.axisAction.get a = .running) (noBolster : ¬ ∃ i, s.brace.bolster.get i = .running)
    (on : b.monitor.state ≠ .cutoff) :
    braceCheck b s = (post { s with brace := { s.brace with mode := .braced } } .braceState .none (pairWord 2 s.brace.grade), [.pass]) := by
  refine (if_pos ⟨mode, entered, fun h => noAxis (axisActionRuns_iff.mp h), fun h => noBolster (bolsterRuns_iff.mp h), on⟩).trans ?_
  rw [postBrace_plain]
  rfl

/-! ### What is asked (R142, R143, R150) -/

theorem handResult_brace (real : op.seed = false) (mine : op.origin = .brace) : handResult b s op v = braceResult s op v := by
  unfold handResult
  rw [if_neg (Bool.eq_false_iff.mp real), mine]

theorem bolsterOf_bladder (i : Bolster) : bolsterOf i.bladder = some i := by cases i <;> rfl

theorem braceResult_fill (bolster : op.bladder = i.bladder) (fill : op.kind = .fill) :
    braceResult s op v = ({ s with brace := { s.brace with bolster := s.brace.bolster.set i (.ended v) } }, [.braceCheck]) := by
  rw [braceResult, bolster, bolsterOf_bladder, fill]
  rfl

theorem braceResult_vent (bolster : op.bladder = i.bladder) (vent : op.kind = .vent) :
    braceResult s op v = ({ s with brace := { s.brace with vents := s.brace.vents.set i (.ended v) } }, [.releasingCheck]) := by
  rw [braceResult, bolster, bolsterOf_bladder, vent]
  rfl

end

/-- Settles O52: BRACE and HOLD by the brace state, the end of the actions, and what the controller asks and is told. -/
theorem braceIsEnteredUpgradedAndHeld : Obligations.BraceIsEnteredUpgradedAndHeld := by
  unfold Obligations.BraceIsEnteredUpgradedAndHeld
  refine ⟨fun b s g => ?_, fun b s i a target op v => ?_⟩
  · intro x hold order judged moves handed fills action e massageEnds recalled noted quiet held t told
    have judgedEq (a : Axis) : (judgeAll b s).get a = judged a := judgeAll_get a
    have actions (a : Axis) : (actionsOf b s g).get a = if g = 2 then judged a else .none := by
      rw [actionsOf_get, judgedEq]
    have movesEq : moveTasks b s (judgeAll b s) = moves := by
      rw [moveTasks, toDrive]
      simp only [judgedEq]
      rfl
    have handedEq : moveTasks b s (actionsOf b s g) = handed := by
      rw [moveTasks_eq, movesEq]
    have quietEq (u : Seat) (h : Quiet s .brace u) : quiet u := h
    have taken {y : Did} (h : takeBrace b s g = y) : t = y.1 ∧ told = y.2 := by
      subst h
      exact ⟨rfl, rfl⟩
    refine ⟨fun idle => ?_, fun releasing => ?_, fun locked => ?_,
      fun mode => ⟨fun low => takeBrace_holds mode low, fun high => ⟨fun moving => ?_, fun braced still => ?_⟩⟩,
      takeHold_holds, takeHold_other, fun bracing => ?_, fun bracing entered => ?_⟩
    · have entered : takeBrace b s g = enterBracing b s g := by
        rw [takeBrace, show s.brace.mode = .idle from idle]
      obtain ⟨seat, tasks⟩ := taken (entered.trans (enterBracing_eq b s g))
      obtain ⟨engine, gallery, notices⟩ := entryEnded_massage b s g
      have kept := entryEnded_keeps b s g
      obtain ⟨restore, brace⟩ := abortRecall_brace (b := b) (s := entrySeat b s g) (o := .preempted)
      obtain ⟨profiles, _⟩ := abortRecall_rest (b := b) (s := entrySeat b s g) (o := .preempted)
      have quiet_ := quieted (s := s) (why := .brace) (kept.recallCtx.trans abortRecall_ctx) engine gallery notices
      obtain ⟨g', n', sc', rest⟩ := quieted_seat (u := (entryEnded b s g).1) (why := .brace)
      have braceEq : t.brace = { (entrySeat b s g).brace with restore := restore } := by
        rw [seat, rest]
        exact kept.brace.trans brace
      have profilesEq : t.profiles = (entrySeat b s g).profiles := by
        rw [seat, rest]
        exact kept.profiles.trans profiles
      have axisEq (a : Axis) : axisOf t a = axisOf (entryEnded b s g).1 a := by
        rw [seat, rest]
        rfl
      have profile : t.profiles.get .brace = captureBrace b.fit s := by
        rw [profilesEq]
        exact PerSlot.get_set_same s.profiles .brace _
      refine ⟨by rw [seat]; exact quietEq _ quiet_, fun a => ?_, ⟨(entryEnded b s g).2, ?_⟩, ?_, ?_, ?_, ?_, ?_, fun a free => ?_, ?_⟩
      · rw [braceEq]
        exact actions a
      · rw [tasks, ← handedEq]
        simp only [List.append_assoc]
        rfl
      · rw [braceEq]
        rfl
      · rw [braceEq]
        rfl
      · rw [braceEq]
        rfl
      · rw [braceEq]
        rfl
      · rw [braceEq]
        rfl
      · intro owner ends
        have undriven : ¬ (toDrive (actionsOf b s g)).contains a = true ↔ g ≠ 2 ∨ judged a ≠ .running := by
          rw [toDrive_contains, actions]
          by_cases two : g = 2 <;> simp [two]
        have early : axisOf (endMove b s a .aborted false).1 a =
            (earlyEnd (b.cfg.axis.get a) a .aborted false (learnDropped (axisOf s a))).axis := endMove_axis MoveResult.noConfusion
        rw [axisEq, entryEnded_axis b s g a free, entryAxis, early]
        refine ⟨fun ⟨there, not, who⟩ => ?_, fun no => ?_⟩
        · rw [if_pos there, if_pos ⟨undriven.mpr not, who⟩]
        · split
          · next there => exact if_neg fun ⟨not, who⟩ => no ⟨there, undriven.mp not, who⟩
          · rfl
      · intro q
        have qEq : q = captureBrace b.fit s := profile
        rw [qEq]
        refine ⟨rfl, rfl, axisPart_get _, fun i => ?_⟩
        cases i <;> rfl
    · have entered : takeBrace b s g = reBrace b s g := by
        rw [takeBrace, show s.brace.mode = .releasing from releasing]
      obtain ⟨seat, tasks⟩ := taken (entered.trans (reBrace_eq b s g))
      obtain ⟨engine, gallery, notices⟩ := abortRecall_massage b (withBrace s { s.brace with
        mode := .bracing, grade := g, holdLeft := none, bolster := .all .running, axisAction := actionsOf b s g }) .preempted
      obtain ⟨restore, brace⟩ := abortRecall_brace (b := b) (s := withBrace s { s.brace with
        mode := .bracing, grade := g, holdLeft := none, bolster := .all .running, axisAction := actionsOf b s g }) (o := .preempted)
      obtain ⟨profiles, _⟩ := abortRecall_rest (b := b) (s := withBrace s { s.brace with
        mode := .bracing, grade := g, holdLeft := none, bolster := .all .running, axisAction := actionsOf b s g }) (o := .preempted)
      have quiet_ := quieted (s := s) (u := (reBraceEnded b s g).1) (why := .brace) abortRecall_ctx engine gallery notices
      obtain ⟨g', n', sc', rest⟩ := quieted_seat (u := (reBraceEnded b s g).1) (why := .brace)
      have braceEq : t.brace = { s.brace with
          mode := .bracing, grade := g, holdLeft := none, bolster := .all .running, axisAction := actionsOf b s g, restore := restore } := by
        rw [seat, rest]
        exact brace
      refine ⟨by rw [seat]; exact quietEq _ quiet_, fun a => ?_, ⟨(reBraceEnded b s g).2, ?_⟩, ?_, ?_, ?_, ?_, ?_, ?_⟩
      · rw [braceEq]
        exact actions a
      · rw [tasks, ← handedEq]
        simp only [List.append_assoc]
        rfl
      · rw [braceEq]
      · rw [braceEq]
      · rw [braceEq]
      · rw [braceEq]
      · rw [braceEq]
      · rw [seat, rest]
        exact profiles
    · rw [takeBrace, show s.brace.mode = .locked from locked]
      rfl
    · obtain ⟨seat, tasks⟩ := taken ((takeBrace_upgrades mode high).trans (upgradeBrace_moves (by rw [movesEq]; exact moving)))
      rw [movesEq] at tasks
      rw [seat]
      exact ⟨judgedEq, rfl, rfl, rfl, rfl, rfl, rfl, tasks⟩
    · obtain ⟨seat, tasks⟩ := taken ((takeBrace_upgrades mode high).trans (upgradeBrace_still braced (movesEq.trans still)))
      rw [postBrace_plain] at seat
      rw [seat]
      refine ⟨judgedEq, braced, rfl, rfl, tasks, ?_⟩
      have mode_ : (restartHold b (withBrace s (upgraded b s g))).brace.mode = .braced := braced
      have grade : gradeOrKind (restartHold b (withBrace s (upgraded b s g))).brace = g := by
        unfold gradeOrKind
        rw [mode_]
        rfl
      rw [mode_, grade]
      rfl
    · change (postBrace _ .none, [Task.braceCheck]) = _
      rw [postBrace_plain]
      have mode_ : (withBrace s { s.brace with holdLeft := some (b.cfg.holdLimit * 1000) }).brace.mode = .bracing := bracing
      have grade : gradeOrKind (withBrace s { s.brace with holdLeft := some (b.cfg.holdLimit * 1000) }).brace = x.grade := by
        unfold gradeOrKind
        rw [mode_]
        rfl
      rw [mode_, grade]
      rfl
    · intro running braced
      refine ⟨fun waits => braceCheck_waits (or_assoc.mp waits), fun done_ on => ?_⟩
      obtain ⟨noAxis, noBolster⟩ := not_or.mp done_
      exact braceCheck_braced bracing entered noAxis noBolster on
  · intro x fill vent new pressure
    refine ⟨fun ok => ⟨if_neg ok, if_neg ok⟩, fun fault => ⟨if_pos fault, if_pos fault⟩, rfl, fun real mine bolster => ?_, ?_, fun releasing => ?_⟩
    · intro filled vented
      exact ⟨fun fills => (handResult_brace real mine).trans (braceResult_fill bolster fills),
        fun vents => (handResult_brace real mine).trans (braceResult_vent bolster vents)⟩
    · exact ⟨fun stops => if_pos stops, fun goesOn => if_neg goesOn⟩
    · intro entered
      refine (if_pos releasing).trans ?_
      rw [postBrace_plain]
      have mode_ : (withBrace s { s.brace with holdLeft := none }).brace.mode = .releasing := releasing
      have grade : gradeOrKind (withBrace s { s.brace with holdLeft := none }).brace = x.grade := by
        unfold gradeOrKind
        rw [mode_]
        rfl
      rw [mode_, grade]
      rfl

end Sys2Proof.Machine
end

section
/-! SUPPORT. The stand-down, the crash and the unlock (R148 to R151, R153, R155). -/
namespace Sys2Proof.Machine

/-! ### The stand-down (R148) -/

section
variable {b : Base} {s : Seat} {a : Axis}

theorem flatMap_filter_ite {α β : Type} (l : List α) (p : α → Bool) (f : α → List β) :
    (l.filter p).flatMap f = l.flatMap fun a => if p a = true then f a else [] := by
  induction l with
  | nil => rfl
  | cons a l ih =>
    by_cases h : p a = true
    · rw [List.filter_cons_of_pos h, List.flatMap_cons, List.flatMap_cons, ih, if_pos h]
    · rw [List.filter_cons_of_neg h, List.flatMap_cons, ih, if_neg h, List.nil_append]

theorem endMove_told_other {r : MoveResult} {report : Bool} (early : r ≠ .reached) (a c : Axis) (s : Seat) (ne : c ≠ a) :
    (endMove b (endMove b s a r report).1 c r report).2 = (endMove b s c r report).2 :=
  endMove_told_congr early (endMove_other b s a c r report ne).1 (endMove_claims early ne)

/-- The axes that a stand-down stops. -/
def braceMoving (x : Brace) : List Axis := braceOrder.filter (fun a => x.axisAction.get a = .running)

/-- The seat as a stand-down begins. -/
def releasingSeat (s : Seat) : Seat :=
  withBrace s { s.brace with
    mode := .releasing, holdLeft := some 0, axisAction := s.brace.axisAction.map abortedAction, vents := .all .running, restore := .none }

/-- The moves of the brace have ended. -/
def standDownEnded (b : Base) (s : Seat) : Did :=
  forEach (braceMoving s.brace) (fun a t => endMove b t a .aborted false) (releasingSeat s)

theorem standDown_eq :
    standDown b s =
      ((standDownEnded b s).1,
        (standDownEnded b s).2 ++ [.pass] ++
          (if axisOrder.any (fun a => s.brace.driven.get a) then [.recallStart .brace .standDown none] else []) ++
            bolsterOrder.map .standDownVent ++ [.massageStop, .releasingEntered]) := rfl

theorem standDownEnded_keeps : KeepsRest (releasingSeat s) (standDownEnded b s).1 :=
  KeepsRest.forEach _ _ _ fun a t => endMove_keeps b t a _ _

theorem braceMoving_nodup (x : Brace) : (braceMoving x).Nodup := List.Nodup.filter _ (by decide)

theorem standDownEnded_axis :
    axisOf (standDownEnded b s).1 a =
      if s.brace.axisAction.get a = .running then axisOf (endMove b s a .aborted false).1 a else axisOf s a := by
  rw [endMove_axis MoveResult.noConfusion, standDownEnded,
    forEach_axis (endMove_alone b MoveResult.noConfusion false) (braceMoving_nodup _)]
  refine if_congr ?_ rfl rfl
  rw [braceMoving, List.mem_filter, decide_eq_true_iff]
  exact and_iff_right (mem_braceOrder a)

theorem standDownEnded_told :
    (standDownEnded b s).2 =
      braceOrder.flatMap fun a => if s.brace.axisAction.get a = .running then (endMove b s a .aborted false).2 else [] := by
  rw [standDownEnded, forEach_told (endMove_told_other MoveResult.noConfusion) (braceMoving_nodup _), braceMoving, flatMap_filter_ite]
  refine List.flatMap_congr fun a _ => ?_
  have same : (endMove b (releasingSeat s) a .aborted false).2 = (endMove b s a .aborted false).2 :=
    endMove_told_congr MoveResult.noConfusion rfl rfl
  rw [same]
  exact if_congr decide_eq_true_iff rfl rfl

theorem takeStandDown_braces (mode : s.brace.mode = .bracing ∨ s.brace.mode = .braced) : takeStandDown b s = standDown b s := by
  unfold takeStandDown
  rcases mode with e | e <;> rw [e]

theorem takeStandDown_other (notBracing : s.brace.mode ≠ .bracing) (notBraced : s.brace.mode ≠ .braced) :
    takeStandDown b s = (s, []) := by
  unfold takeStandDown
  cases mode : s.brace.mode with
  | bracing => exact absurd mode notBracing
  | braced => exact absurd mode notBraced
  | idle => rfl
  | releasing => rfl
  | locked => rfl

/-! ### The end of a stand-down (R151) -/

theorem releasingCheck_waits (h : s.recallCtx.isSome = true ∨ ∃ i, s.brace.vents.get i = .running) : releasingCheck s = (s, []) := by
  refine if_neg fun ⟨_, _, free, still⟩ => ?_
  rcases h with runs | vents
  · exact Bool.noConfusion (runs.symm.trans (Option.isSome_eq_false_iff.mpr free))
  · exact still (ventRuns_iff.mpr vents)

theorem releasingCheck_idle (mode : s.brace.mode = .releasing) (entered : s.brace.holdLeft = none) (free : s.recallCtx = none)
    (still : ¬ ∃ i, s.brace.vents.get i = .running) :
    releasingCheck s =
      (post { s with brace := { s.brace with mode := .idle, grade := 0, driven := .all false } } .braceState .none
        (pairWord 0 (restoreCode s.brace.restore * 16)), [.pass]) := by
  refine (if_pos ⟨mode, Option.isNone_iff_eq_none.mpr entered, Option.isNone_iff_eq_none.mpr free,
    fun h => still (ventRuns_iff.mp h)⟩).trans ?_
  rw [braceToIdle, postBrace_eq, ← entered]
  rfl

/-! ### A crash of an axis (R153) -/

/-- What a crash makes of an axis. -/
def crashed (b : Base) (a : Axis) (x : AxisState) : AxisState :=
  let y := (earlyEnd (b.cfg.axis.get a) a .aborted false (learnDropped x)).axis
  if y.drive = .coasting then { y with bridge := .braked } else y

theorem crashAxis_seat :
    (crashAxis b s a).1 = putAxis (endMove b s a .aborted false).1 a (crashed b a (axisOf s a)) := by
  have early : axisOf (endMove b s a .aborted false).1 a =
      (earlyEnd (b.cfg.axis.get a) a .aborted false (learnDropped (axisOf s a))).axis := endMove_axis MoveResult.noConfusion
  unfold crashAxis crashed
  dsimp only
  rw [← early]
  split
  · rfl
  · exact putAxis_axisOf.symm

theorem crashAxis_alone (b : Base) : ActsAlone (fun a t => crashAxis b t a) (crashed b) := by
  refine ⟨fun a s => ?_, fun a c s ne => ?_⟩
  · rw [crashAxis_seat, axisOf_putAxis]
  · rw [crashAxis_seat, putAxis_other _ _ _ _ ne]
    exact (endMove_other b s a c _ _ ne).1

theorem crashAxis_keeps : KeepsRest s (crashAxis b s a).1 := by
  rw [crashAxis_seat]
  exact (endMove_keeps b s a .aborted false).after ⟨rfl, rfl, rfl, rfl, rfl, rfl, rfl, rfl⟩

theorem crashAxis_massage : KeepsMassage s (crashAxis b s a).1 := by
  obtain ⟨engine, gallery, notices⟩ := endMove_massage b s a .aborted false MoveResult.noConfusion
  rw [crashAxis_seat]
  exact ⟨engine, gallery, notices⟩

theorem crashAxis_store (learn : (axisOf s a).learn = .none) : (crashAxis b s a).1.store = s.store := by
  rw [crashAxis_seat]
  exact endMove_store MoveResult.noConfusion learn

theorem crashed_drive (x : AxisState) : (crashed b a x).drive = stoppedDrive x.drive := by
  have early := earlyEnd_drive (a := a) (r := .aborted) (report := false) (x := learnDropped x) (cf := b.cfg.axis.get a)
  rw [learnDropped_drive] at early
  rw [← early]
  unfold crashed
  dsimp only
  split <;> rfl

theorem crashed_still (x : AxisState) : (crashed b a x).drive ≠ .driving ∧ (crashed b a x).drive ≠ .waitGrant := by
  rw [crashed_drive]
  cases x.drive <;> exact ⟨Drive.noConfusion, Drive.noConfusion⟩

theorem crashed_braked {x : AxisState} (moves : x.drive = .driving ∨ x.drive = .coasting) :
    (crashed b a x).drive = .coasting ∧ (crashed b a x).bridge = .braked := by
  have coasts : (crashed b a x).drive = .coasting := by
    rw [crashed_drive]
    rcases moves with e | e <;> rw [e] <;> rfl
  refine ⟨coasts, ?_⟩
  unfold crashed at coasts ⊢
  dsimp only at coasts ⊢
  by_cases h : (earlyEnd (b.cfg.axis.get a) a .aborted false (learnDropped x)).axis.drive = .coasting
  · rw [if_pos h]
  · rw [if_neg h] at coasts
    exact absurd coasts h

theorem crashed_learn {x : AxisState} (h : x.learn = .none) : (crashed b a x).learn = .none := by
  unfold crashed
  dsimp only
  split <;> exact earlyEnd_learn (learnDropped_learn h)

/-! ### No learn run runs -/

/-- No axis learns, and the store queue is the same. -/
def NoLearn (s t : Seat) : Prop := (∀ a, (axisOf t a).learn = .none) ∧ t.store = s.store

theorem abortRecall_noLearn {o : RecallOutcome} (h : ∀ a, (axisOf s a).learn = .none) : NoLearn s (abortRecall b s o).1 := by
  refine ⟨fun a => ?_, ?_⟩
  · rw [abortRecall_axis]
    split
    · exact earlyEnd_learn (learnDropped_learn (h a))
    · exact h a
  · unfold abortRecall
    cases s.recallCtx with
    | none => rfl
    | some r =>
      have kept := forEach_keeps (NoLearn s) (fun a t => endMove b t a (abortResult (axisOf s a) o) false) (fun a t ht => by
        refine ⟨fun c => ?_, (endMove_store (abortResult_ne _ _) (ht.1 a)).trans ht.2⟩
        by_cases here : c = a
        · subst here
          rw [endMove_axis (abortResult_ne _ _)]
          exact earlyEnd_learn (learnDropped_learn (ht.1 c))
        · rw [(endMove_other b t a c _ _ here).1]
          exact ht.1 c) (recallOrder.filter (fun a => r.result.get a = .running)) s ⟨h, rfl⟩
      dsimp only
      rw [noteRestore_eq]
      exact kept.2

/-! ### The gallery, the climate and the fans of a crash (R101, R136) -/

theorem endFlight_seat {r : OpResult} (told : r ≠ .limit) (starved : r ≠ .starved) :
    ∃ g al, (endFlight s r).1 = { s with gallery := g, alloc := al } ∧ g.inFlight = none := by
  cases flight : s.gallery.inFlight with
  | none => exact ⟨s.gallery, s.alloc, by rw [endFlight, flight]; rfl, flight⟩
  | some op =>
    have silent : endNotice { s with gallery := flightEnded s.gallery op r } op.bladder r =
        { s with gallery := flightEnded s.gallery op r } := by
      cases r <;> first | rfl | contradiction
    rw [endFlight_eq flight, silent]
    exact ⟨flightEnded s.gallery op r, _, releaseClaim_seat _ _, rfl⟩

theorem crashGallery_seat :
    ∃ g al, (crashGallery s).1 = { s with gallery := g, alloc := al } ∧ g.inFlight = none ∧ g.queue = [] := by
  obtain ⟨g, al, seat, free⟩ := endFlight_seat (s := s) (r := .preempted) OpResult.noConfusion OpResult.noConfusion
  rw [crashGallery, andThen_fst, removeQueued_all, seat]
  exact ⟨_, al, rfl, free, rfl⟩

/-- A zone and its fan go off, and nothing else but claims changes. -/
theorem zoneOff_seat (z : Zone) :
    ∃ x al, (andThen (setHeat s z 0) (fun u => setFan b u z 0)).1 = { putZone s z x with alloc := al } ∧ x.heat = 0 ∧ x.fan = 0 := by
  have heat : ∃ x, (setHeat s z 0).1 = putZone s z x ∧ x.heat = 0 := by
    by_cases off : (zoneOf s z).heat = 0
    · refine ⟨zoneOf s z, ?_, off⟩
      rw [setHeat_same off]
      have zones : s.zones.set z (s.zones.get z) = s.zones := by cases z <;> rfl
      change s = { s with zones := s.zones.set z (s.zones.get z) }
      rw [zones]
    · rw [setHeat_off off]
      exact ⟨_, rfl, rfl⟩
  have fan (u : Seat) : ∃ al, (setFan b u z 0).1 = { putZone u z { zoneOf u z with fan := 0 } with alloc := al } := by
    unfold setFan fanLevelChange
    dsimp only
    split
    · exact ⟨_, rfl⟩
    · split
      · exact ⟨_, releaseClaim_seat _ _⟩
      · split
        · exact ⟨_, rfl⟩
        · split <;> exact ⟨_, rfl⟩
  obtain ⟨x, warm, cold⟩ := heat
  obtain ⟨al, still⟩ := fan (putZone s z x)
  rw [andThen_fst, warm, still, zoneOf_putZone, putZone_put]
  exact ⟨{ x with fan := 0 }, al, rfl, cold, rfl⟩

theorem forEach_zones (f : Zone → Seat → Did) : (forEach zoneOrder f s).1 = (f .b (f .c s).1).1 := rfl

theorem climateOff_seat :
    ∃ zs al, (climateOff b s).1 = { s with zones := zs, alloc := al } ∧ ∀ z, (zs.get z).heat = 0 ∧ (zs.get z).fan = 0 := by
  obtain ⟨c, al, first, cHeat, cFan⟩ := zoneOff_seat (b := b) (s := s) .c
  obtain ⟨x, al', second, heat, fan⟩ := zoneOff_seat (b := b) (s := { putZone s .c c with alloc := al }) .b
  refine ⟨(s.zones.set .c c).set .b x, al', ?_, fun z => ?_⟩
  · rw [climateOff, forEach_zones, first, second]
    rfl
  · cases z
    · exact ⟨cHeat, cFan⟩
    · exact ⟨heat, fan⟩

theorem releaseFans_seat : ∃ al, (releaseFans s).1 = { s with alloc := al } := by
  have first := releaseClaim_seat s (.fan .c)
  have second := releaseClaim_seat (releaseClaim s (.fan .c)).1 (.fan .b)
  refine ⟨(releaseClaim (releaseClaim s (.fan .c)).1 (.fan .b)).1.alloc, ?_⟩
  rw [releaseFans, forEach_zones]
  refine second.trans ?_
  rw [first]

/-! ### The crash (R153) -/

/-- The seat of a crash once the recall is aborted. -/
def crashAborted (b : Base) (s : Seat) (k : CrashKind) : Did := abortRecall b (withBrace s (lockedBrace s.brace k)) .preempted

/-- The seat of a crash once every axis is stopped. -/
def crashStopped (b : Base) (s : Seat) (k : CrashKind) : Did :=
  forEach (presentIn b.fit axisOrder) (fun a u => crashAxis b u a) (crashAborted b s k).1

theorem takeCrash_told (k : CrashKind) (open_ : s.brace.mode ≠ .locked) : ∃ ended, (takeCrash b s k).2 = ended ++ [.pass] := by
  unfold takeCrash
  rw [if_neg open_]
  exact ⟨_, rfl⟩

/-- What a crash leaves, part by part. -/
theorem takeCrash_seat (k : CrashKind) (open_ : s.brace.mode ≠ .locked) :
    ∃ g al zs sc,
      (takeCrash b s k).1 =
        postBrace (queueWrite (putProfile
          { engineEnd (crashStopped b s k).1 .crash with gallery := g, alloc := al, zones := zs, scanner := sc } .brace Reset.profile)
          (.crashLock (some k))) .none ∧
      g.inFlight = none ∧ g.queue = [] ∧ (∀ z, (zs.get z).heat = 0 ∧ (zs.get z).fan = 0) ∧ sc.window = none ∧
      ∀ i, (contactOf sc i).cond ≠ some .active := by
  obtain ⟨g, al1, gallery, flight, queue⟩ := crashGallery_seat (s := engineEnd (crashStopped b s k).1 .crash)
  obtain ⟨zs, al2, climate, off⟩ := climateOff_seat (b := b) (s := (crashGallery (engineEnd (crashStopped b s k).1 .crash)).1)
  obtain ⟨al3, fans⟩ := releaseFans_seat (s := (climateOff b (crashGallery (engineEnd (crashStopped b s k).1 .crash)).1).1)
  obtain ⟨sc, held, window, _, silent⟩ :=
    heldOff_seat (releaseFans (climateOff b (crashGallery (engineEnd (crashStopped b s k).1 .crash)).1).1).1
  refine ⟨g, al3, zs, sc, ?_, flight, queue, off, window, silent⟩
  unfold takeCrash
  rw [if_neg open_]
  dsimp only
  rw [andThen_fst, andThen_fst, andThen_fst, andThen_fst]
  change postBrace (queueWrite (putProfile (closeWindow (holdOffAll
    (releaseFans (climateOff b (crashGallery (engineEnd (crashStopped b s k).1 .crash)).1).1).1)) .brace Reset.profile) _) .none = _
  rw [held, fans, climate, gallery]

theorem crashStopped_keeps (k : CrashKind) : KeepsRest (crashAborted b s k).1 (crashStopped b s k).1 :=
  KeepsRest.forEach _ _ _ fun _ _ => crashAxis_keeps

theorem crashStopped_massage (k : CrashKind) :
    (crashStopped b s k).1.engine = s.engine ∧ (crashStopped b s k).1.gallery = s.gallery ∧
      (crashStopped b s k).1.notices = recallTold s := by
  obtain ⟨engine, gallery, notices⟩ := abortRecall_massage b (withBrace s (lockedBrace s.brace k)) .preempted
  have kept := forEach_massage (presentIn b.fit axisOrder) (fun a u => crashAxis b u a) (crashAborted b s k).1
    fun _ _ => crashAxis_massage
  exact ⟨kept.engine.trans engine, kept.gallery.trans gallery, kept.notices.trans notices⟩

theorem crashStopped_brace (k : CrashKind) : ∃ v, (crashStopped b s k).1.brace = { lockedBrace s.brace k with restore := v } := by
  obtain ⟨v, brace⟩ := abortRecall_brace (b := b) (s := withBrace s (lockedBrace s.brace k)) (o := .preempted)
  exact ⟨v, (crashStopped_keeps k).brace.trans brace⟩

theorem crashStopped_axis (k : CrashKind) (there : present b.fit a = true) :
    axisOf (crashStopped b s k).1 a = crashed b a (axisOf (crashAborted b s k).1 a) := by
  have nodup : (presentIn b.fit axisOrder).Nodup := List.Nodup.filter _ (by decide)
  rw [crashStopped, forEach_axis (crashAxis_alone b) nodup]
  exact if_pos (List.mem_filter.mpr ⟨mem_axisOrder a, there⟩)

theorem crashAborted_moves (k : CrashKind) (moves : (axisOf s a).drive = .driving ∨ (axisOf s a).drive = .coasting) :
    (axisOf (crashAborted b s k).1 a).drive = .driving ∨ (axisOf (crashAborted b s k).1 a).drive = .coasting := by
  rw [crashAborted, abortRecall_axis]
  split
  · rw [earlyEnd_drive, learnDropped_drive]
    change stoppedDrive (axisOf s a).drive = .driving ∨ stoppedDrive (axisOf s a).drive = .coasting
    rcases moves with e | e
    · rw [e]
      exact .inr rfl
    · rw [e]
      exact .inr rfl
  · exact moves

theorem crashStopped_store (k : CrashKind) (h : ∀ a, (axisOf s a).learn = .none) : (crashStopped b s k).1.store = s.store := by
  have aborted := abortRecall_noLearn (b := b) (s := withBrace s (lockedBrace s.brace k)) (o := .preempted) h
  refine Eq.trans (forEach_keeps (NoLearn (crashAborted b s k).1) (fun a u => crashAxis b u a) (fun a t ht => ?_)
    (presentIn b.fit axisOrder) (crashAborted b s k).1 ⟨aborted.1, rfl⟩).2 aborted.2
  refine ⟨fun c => ?_, (crashAxis_store (ht.1 a)).trans ht.2⟩
  by_cases here : c = a
  · subst here
    rw [(crashAxis_alone b).own]
    exact crashed_learn (ht.1 c)
  · rw [(crashAxis_alone b).other a c t here]
    exact ht.1 c

/-! ### The unlock (R155) -/

/-- The claim of a fan at level 0, behind what was done before. -/
theorem andThen_levelZero (y : Did) (z : Zone) :
    andThen y (fun t => levelZeroClaim b t z) =
      if (zoneOf y.1 z).fan ≠ 0 then y
      else if b.cfg.fanClaim.l0 = 0 then ((releaseClaim y.1 (.fan z)).1, y.2 ++ (releaseClaim y.1 (.fan z)).2)
      else if holdsClaim y.1.alloc (.fan z) then y
      else ({ y.1 with alloc := arrive y.1.alloc (.fan z) 3 b.cfg.fanClaim.l0 0 }, y.2 ++ [.pass]) := by
  have nothing : andThen y done = y := Prod.ext rfl (List.append_nil _)
  have zero : andThen y (fun t => levelZeroClaim b t z) = ((levelZeroClaim b y.1 z).1, y.2 ++ (levelZeroClaim b y.1 z).2) := rfl
  rw [zero]
  unfold levelZeroClaim
  by_cases on : (y.1.zones.get z).fan ≠ 0
  · rw [if_pos on]
    exact nothing.trans (if_pos on).symm
  · rw [if_neg on]
    refine Eq.trans ?_ (if_neg on).symm
    by_cases free : b.cfg.fanClaim.l0 = 0
    · rw [if_pos free, if_pos free]
    · rw [if_neg free, if_neg free]
      split
      · exact nothing
      · rfl

theorem unlock_eq :
    unlock b s =
      andThen (andThen (postBrace (queueWrite (withBrace s (unlockedBrace s.brace)) (.crashLock none)) .none, [.pass])
        (fun t => levelZeroClaim b t .c)) (fun t => levelZeroClaim b t .b) := by
  rw [unlock, andThen_forEach]
  rfl

end

end Sys2Proof.Machine
end

section
/-! SUPPORT. How the gallery takes a brace operation (R96, R100), and the stand-down, the crash and the unlock together. -/
namespace Sys2Proof.Machine

section
variable {b : Base} {s t : Seat} {op : Op} {o : Op} {l before after : List Op} {g : Gallery}

/-! ### What a brace operation clears (R100 steps 1 to 3) -/

theorem removeQueued_eq (out : Op → Bool) (r : OpResult) :
    removeQueued s out r =
      ({ s with gallery := { s.gallery with
          queue := s.gallery.queue.filter (fun o => !out o),
          bladders := (s.gallery.queue.filter out).foldl (fun l o => l.set o.bladder { l.get o.bladder with lastResult := some r })
            s.gallery.bladders } }, (s.gallery.queue.filter out).map (fun o => .opResult o r)) := by
  rw [removeQueued]
  dsimp only
  rw [writeResult_fold]
  rfl

/-- R100 step 1: a non-brace operation in flight ends. -/
def cutFlight (s : Seat) : Did :=
  match s.gallery.inFlight with
  | some o => if o.origin = .brace then done s else endFlight s .preempted
  | none => done s

theorem cutFlight_kept (h : ∀ o, s.gallery.inFlight = some o → o.origin = .brace) : cutFlight s = (s, []) := by
  unfold cutFlight
  cases flight : s.gallery.inFlight with
  | none => rfl
  | some o => exact if_pos (h o flight)

theorem cutFlight_cut (flight : s.gallery.inFlight = some o) (other : o.origin ≠ .brace) :
    cutFlight s =
      ((releaseClaim { s with gallery := flightEnded s.gallery o .preempted } .compressor).1,
        (releaseClaim s .compressor).2 ++ [.opResult o .preempted, .galleryIdle]) := by
  unfold cutFlight
  rw [flight]
  dsimp only
  rw [if_neg other, endFlight_eq flight, releaseClaim_told, releaseClaim_told]
  rfl

theorem releaseClaim_frees (c : Consumer) : isGranted (releaseClaim s c).1.alloc c = false := by
  unfold releaseClaim
  split
  · refine not_isGranted_iff.mpr fun mem => ?_
    obtain ⟨h, hh, same⟩ := List.mem_map.mp mem
    exact (of_decide_eq_true (List.mem_filter.mp hh).2) same
  · next free =>
    exact ((Bool.or_eq_false_iff ..).mp (Bool.eq_false_iff.mpr free)).1

theorem cutFlight_queue : (cutFlight s).1.gallery.queue = s.gallery.queue := by
  by_cases h : ∀ o, s.gallery.inFlight = some o → o.origin = .brace
  · rw [cutFlight_kept h]
  · obtain ⟨o, rest⟩ := not_forall.mp h
    obtain ⟨flight, other⟩ := Classical.not_imp.mp rest
    rw [cutFlight_cut flight other, releaseClaim_seat]
    rfl

/-- A queued operation that a brace operation for its bladder removes. -/
def yields (op o : Op) : Bool := o.bladder = op.bladder && o.origin ≠ .brace

/-- R100 steps 1 to 3. -/
def cleared (s : Seat) (op : Op) : Did :=
  andThen (andThen (cutFlight s) (fun t => removeQueued t (fun o => o.origin = .massage) .cancelled))
    (fun t => removeQueued t (yields op) .cancelled)

theorem askBrace_eq :
    askBrace b s op = andThen (andThen (cleared s op) (fun t => enterBrace b t op)) (fun t => (t, [.serve, .engineRetry])) := rfl

/-- The queue that the clearing leaves. -/
def keptQueue (s : Seat) (op : Op) : List Op :=
  (s.gallery.queue.filter (fun o => !decide (o.origin = .massage))).filter (fun o => !yields op o)

/-- What the clearing removes. -/
def goneQueue (s : Seat) (op : Op) : List Op :=
  s.gallery.queue.filter (fun o => o.origin = .massage) ++
    (s.gallery.queue.filter (fun o => !decide (o.origin = .massage))).filter (yields op)

theorem cleared_seat :
    ∃ bl, (cleared s op).1 =
      { (cutFlight s).1 with gallery := { (cutFlight s).1.gallery with queue := keptQueue s op, bladders := bl } } := by
  rw [cleared, andThen_fst, andThen_fst, removeQueued_eq, removeQueued_eq]
  dsimp only
  rw [cutFlight_queue]
  exact ⟨_, rfl⟩

theorem cleared_told :
    (cleared s op).2 = (cutFlight s).2 ++ (goneQueue s op).map (fun o => .opResult o .cancelled) := by
  rw [cleared, andThen_snd, andThen_snd, andThen_fst, removeQueued_eq, removeQueued_eq]
  dsimp only
  rw [cutFlight_queue, goneQueue, List.map_append, List.append_assoc]

/-! ### How it enters (R100 steps 4 to 6) -/

theorem insertBrace_eq : insertBrace op l = l.takeWhile (fun o => o.origin = .brace) ++ op :: l.dropWhile (fun o => o.origin = .brace) := by
  induction l with
  | nil => rfl
  | cons o l ih =>
    rw [insertBrace]
    by_cases h : o.origin = .brace
    · rw [if_pos h, ih, List.takeWhile_cons_of_pos (p := fun o : Op => o.origin = .brace) (decide_eq_true h),
        List.dropWhile_cons_of_pos (p := fun o : Op => o.origin = .brace) (decide_eq_true h)]
      rfl
    · rw [if_neg h, List.takeWhile_cons_of_neg (p := fun o : Op => o.origin = .brace) (by rw [decide_eq_true_iff]; exact h),
        List.dropWhile_cons_of_neg (p := fun o : Op => o.origin = .brace) (by rw [decide_eq_true_iff]; exact h)]
      rfl

theorem setLastTarget_target (moves : op.kind ≠ .measure) : (bladderOf (setLastTarget g op) op.bladder).lastTarget = op.target := by
  rw [setLastTarget, if_neg moves, bladderOf_putBladder_same]

theorem setLastTarget_rest : (setLastTarget g op).queue = g.queue ∧ (setLastTarget g op).inFlight = g.inFlight := by
  unfold setLastTarget
  split <;> exact ⟨rfl, rfl⟩

theorem queuedFor_none : queuedFor g op.bladder = none ↔ ∀ o ∈ g.queue, o.bladder ≠ op.bladder := by
  rw [queuedFor, List.find?_eq_none]
  exact forall₂_congr fun o _ => not_congr decide_eq_true_iff

theorem queuedFor_split (queue : g.queue = before ++ o :: after) (here : o.bladder = op.bladder)
    (others : ∀ k ∈ before, k.bladder ≠ op.bladder) : queuedFor g op.bladder = some o := by
  have nobody : before.find? (fun o => o.bladder = op.bladder) = none :=
    List.find?_eq_none.mpr fun k hk => by rw [decide_eq_true_iff]; exact others k hk
  rw [queuedFor, queue, List.find?_append, nobody, 
    List.find?_cons_of_pos (p := fun o : Op => o.bladder = op.bladder) (decide_eq_true here)]
  rfl

theorem lastNonBrace_none (h : ∀ o ∈ l, o.origin = .brace) : lastNonBrace l = none := by
  rw [lastNonBrace, List.filter_eq_nil_iff.mpr fun o ho => by rw [decide_eq_true_iff]; exact not_not.mpr (h o ho)]
  rfl

theorem lastNonBrace_split (other : o.origin ≠ .brace) (later : ∀ k ∈ after, k.origin = .brace) :
    lastNonBrace (before ++ o :: after) = some o := by
  have nobody : after.filter (fun o => o.origin ≠ .brace) = [] :=
    List.filter_eq_nil_iff.mpr fun k hk => by rw [decide_eq_true_iff]; exact not_not.mpr (later k hk)
  rw [lastNonBrace, List.filter_append, List.filter_cons_of_pos (p := fun o : Op => o.origin ≠ .brace) (decide_eq_true other), nobody,
    List.getLast?_append]
  rfl

/-- The seat in which an operation has entered behind the queued brace operations. -/
def braceEnters (t : Seat) (op : Op) : Seat :=
  withGallery t (setLastTarget { t.gallery with queue := insertBrace op t.gallery.queue } op)

theorem enterBrace_free (free : queuedFor t.gallery op.bladder = none) :
    enterBrace b t op = (braceEnters (makeRoom b t).1 op, (makeRoom b t).2) := by
  rw [enterBrace, free]
  exact Prod.ext rfl (List.append_nil _)

theorem enterBrace_queued (held : queuedFor t.gallery op.bladder = some o) : enterBrace b t op = enterOp t op := by
  rw [enterBrace, held]

theorem makeRoom_room (h : t.gallery.queue.length < b.cfg.queueLimit) : makeRoom b t = (t, []) := if_neg (Nat.not_le.mpr h)

theorem makeRoom_braced (h : ∀ o ∈ t.gallery.queue, o.origin = .brace) : makeRoom b t = (t, []) := by
  unfold makeRoom
  split
  · rw [lastNonBrace_none h]
    rfl
  · rfl

theorem makeRoom_drops (full : b.cfg.queueLimit ≤ t.gallery.queue.length) (queue : t.gallery.queue = before ++ o :: after)
    (other : o.origin ≠ .brace) (later : ∀ k ∈ after, k.origin = .brace) :
    makeRoom b t = removeQueued t (fun x => x.bladder = o.bladder) .cancelled := by
  have last : lastNonBrace t.gallery.queue = some o := by
    rw [queue]
    exact lastNonBrace_split other later
  rw [makeRoom, if_pos full, last]

theorem filter_bladder (others : ∀ k ∈ before ++ after, k.bladder ≠ o.bladder) :
    (before ++ o :: after).filter (fun x => x.bladder = o.bladder) = [o] ∧
      (before ++ o :: after).filter (fun x => !decide (x.bladder = o.bladder)) = before ++ after := by
  have none_ {k : List Op} (h : ∀ x ∈ k, x.bladder ≠ o.bladder) : k.filter (fun x => x.bladder = o.bladder) = [] :=
    List.filter_eq_nil_iff.mpr fun x hx => by rw [decide_eq_true_iff]; exact h x hx
  have all {k : List Op} (h : ∀ x ∈ k, x.bladder ≠ o.bladder) : k.filter (fun x => !decide (x.bladder = o.bladder)) = k :=
    List.filter_eq_self.mpr fun x hx => by rw [decide_eq_false (h x hx)]; rfl
  have left : ∀ x ∈ before, x.bladder ≠ o.bladder := fun x hx => others x (List.mem_append_left _ hx)
  have right : ∀ x ∈ after, x.bladder ≠ o.bladder := fun x hx => others x (List.mem_append_right _ hx)
  constructor
  · rw [List.filter_append, none_ left, List.filter_cons_of_pos (p := fun x : Op => x.bladder = o.bladder) (decide_eq_true rfl), none_ right]
    rfl
  · rw [List.filter_append, all left, List.filter_cons_of_neg (by simp), all right]

/-- Entering leaves the operation in flight and the claims, and sets the last target. -/
theorem enterBrace_rest (moves : op.kind ≠ .measure) :
    (enterBrace b t op).1.gallery.inFlight = t.gallery.inFlight ∧ (enterBrace b t op).1.alloc = t.alloc ∧
      (bladderOf (enterBrace b t op).1.gallery op.bladder).lastTarget = op.target := by
  cases queued : queuedFor t.gallery op.bladder with
  | some o =>
    rw [enterBrace_queued queued, enterOp, queued]
    exact ⟨setLastTarget_rest.2, rfl, setLastTarget_target moves⟩
  | none =>
    have room : (makeRoom b t).1.gallery.inFlight = t.gallery.inFlight ∧ (makeRoom b t).1.alloc = t.alloc := by
      unfold makeRoom
      split
      · split
        · rw [removeQueued_eq]
          exact ⟨rfl, rfl⟩
        · exact ⟨rfl, rfl⟩
      · exact ⟨rfl, rfl⟩
    rw [enterBrace_free queued]
    exact ⟨setLastTarget_rest.2.trans room.1, room.2, setLastTarget_target moves⟩

theorem braceEnters_queue : (braceEnters t op).gallery.queue = insertBrace op t.gallery.queue := setLastTarget_rest.1

theorem enterOp_replaces (queue : t.gallery.queue = before ++ o :: after) (here : o.bladder = op.bladder)
    (others : ∀ k ∈ before ++ after, k.bladder ≠ op.bladder) : (enterOp t op).1.gallery.queue = before ++ op :: after := by
  have same {k : List Op} (h : ∀ x ∈ k, x.bladder ≠ op.bladder) : k.map (fun x => if x.bladder = op.bladder then op else x) = k :=
    (List.map_congr_left fun x hx => if_neg (h x hx)).trans (List.map_id _)
  rw [enterOp, queuedFor_split queue here fun k hk => others k (List.mem_append_left _ hk)]
  refine setLastTarget_rest.1.trans ?_
  change t.gallery.queue.map (fun x => if x.bladder = op.bladder then op else x) = _
  rw [queue, List.map_append, List.map_cons, if_pos here, same fun k hk => others k (List.mem_append_left _ hk),
    same fun k hk => others k (List.mem_append_right _ hk)]

end

/-- Settles O53: the stand-down and its end, the crash, the unlock, and how the gallery takes a brace operation. -/
theorem standDownAndCrashAct : Obligations.StandDownAndCrashAct := by
  unfold Obligations.StandDownAndCrashAct
  refine ⟨fun s k w => ?_, fun b s op _ moves => ?_⟩
  · intro b x d c
    refine ⟨event_works w fun b t => takeStandDown b t, takeStandDown_other, fun mode => ?_, fun releasing entered => ?_,
      fun locked => if_pos locked, fun open_ => ?_, fun open_ mode => ?_, fun locked => ⟨fun moving => ?_, fun still => ?_⟩⟩
    · have stood : d = standDown b s.seat := takeStandDown_braces mode
      have kept := standDownEnded_keeps (b := b) (s := s.seat)
      rw [stood, standDown_eq]
      refine ⟨?_, ?_, ?_, ?_, fun a => ?_, kept.recallCtx, kept.profiles, fun a => standDownEnded_axis, ?_⟩
      · exact (congrArg Brace.mode kept.brace).trans rfl
      · exact (congrArg Brace.grade kept.brace).trans rfl
      · exact (congrArg Brace.driven kept.brace).trans rfl
      · exact (congrArg Brace.vents kept.brace).trans rfl
      · have action : (standDownEnded b s.seat).1.brace.axisAction = x.axisAction.map abortedAction :=
          (congrArg Brace.axisAction kept.brace).trans rfl
        rw [action, PerAxis.get_map]
        rfl
      · intro ended
        have told : (standDownEnded b s.seat).2 = ended := standDownEnded_told
        rw [told]
        simp only [List.append_assoc]
        rfl
    · intro idle vents
      exact ⟨releasingCheck_waits, fun free stillVents => releasingCheck_idle releasing entered free stillVents⟩
    · obtain ⟨g, al, zs, sc, seat, flight, queue, off, window, silent⟩ := takeCrash_seat (b := b) (s := s.seat) k open_
      obtain ⟨engine, gallery, notices⟩ := crashStopped_massage (b := b) (s := s.seat) k
      obtain ⟨restore, brace⟩ := crashStopped_brace (b := b) (s := s.seat) k
      obtain ⟨e, n, ended⟩ := engineEnd_seat (s := (crashStopped b s.seat k).1) (why := .crash)
      have ends : EndsMassage s.seat .crash (engineEnd (crashStopped b s.seat k).1 .crash) := engineEnd_ends engine gallery
      have told : (engineEnd (crashStopped b s.seat k).1 .crash).notices = quietTold s.seat .crash := by
        rw [engineEnd_told, engine, notices]
        rfl
      have seatEq : c.1 = _ := seat
      rw [postBrace_plain] at seatEq
      have engineEq : c.1.engine = (engineEnd (crashStopped b s.seat k).1 .crash).engine := by
        rw [seatEq]
        rfl
      have braceEq : c.1.brace = { lockedBrace s.seat.brace k with restore := restore } := by
        rw [seatEq]
        change (engineEnd (crashStopped b s.seat k).1 .crash).brace = _
        rw [ended]
        exact brace
      have axisEq (a : Axis) : axisOf c.1 a = axisOf (crashStopped b s.seat k).1 a := by
        rw [seatEq]
        change axisOf (engineEnd (crashStopped b s.seat k).1 .crash) a = _
        rw [ended]
        rfl
      refine ⟨?_, takeCrash_told k open_, ?_, ?_, ?_, ?_, ?_, ?_, ?_, ?_, ?_, ?_, ?_, ?_, ?_, ?_, ?_, fun a there => ?_,
        fun a there moving => ?_, ?_, fun learn => ?_⟩
      · dsimp only
        rw [engineEq]
        exact ends
      · rw [braceEq]
        rfl
      · rw [braceEq]
        rfl
      · rw [braceEq]
        rfl
      · rw [braceEq]
        rfl
      · rw [braceEq]
        rfl
      · rw [braceEq]
        rfl
      · rw [braceEq]
        rfl
      · rw [seatEq]
        exact congrArg Profile.valid (PerSlot.get_set_same (engineEnd (crashStopped b s.seat k).1 .crash).profiles .brace Reset.profile)
      · rw [seatEq]
        change (engineEnd (crashStopped b s.seat k).1 .crash).recallCtx = none
        rw [ended]
        exact (crashStopped_keeps k).recallCtx.trans abortRecall_ctx
      · rw [engineEq]
        by_cases already : s.seat.engine.state = .off
        · rw [ends.1 already]
          exact already
        · obtain ⟨cells, now, _⟩ := ends.2 already
          rw [now]
      · rw [seatEq]
        exact flight
      · rw [seatEq]
        exact queue
      · rw [seatEq]
        exact window
      · rw [seatEq]
        exact silent
      · rw [seatEq]
        exact off
      · rw [axisEq, crashStopped_axis k there]
        exact crashed_still _
      · rw [axisEq, crashStopped_axis k there]
        exact crashed_braked (crashAborted_moves k moving)
      · intro recalled ended_
        have noticesEq : quietTold s.seat .crash = ended_ := rfl
        have mode : (engineEnd (crashStopped b s.seat k).1 .crash).brace = { lockedBrace s.seat.brace k with restore := restore } := by
          rw [ended]
          exact brace
        rw [seatEq]
        change postTo (engineEnd (crashStopped b s.seat k).1 .crash).notices .braceState .none
          (pairWord (modeCode (engineEnd (crashStopped b s.seat k).1 .crash).brace.mode)
            (gradeOrKind (engineEnd (crashStopped b s.seat k).1 .crash).brace)) = _
        rw [told, noticesEq, mode]
        rfl
      · rw [seatEq]
        change enterWrite (engineEnd (crashStopped b s.seat k).1 .crash).store (.crashLock (some k)) = _
        rw [ended]
        exact congrArg (fun q => enterWrite q (.crashLock (some k))) (crashStopped_store k learn)
    · have runs : passes s.seat.brace.mode .lockTaken = true := by
        rcases mode with e | e
        · exact passes_idle .lockTaken e
        · rw [show s.seat.brace.mode = .releasing from e]
          rfl
      exact comfort_refuses w runs fun l _ => if_pos open_
    · have runs : passes s.seat.brace.mode .lockTaken = true := by
        rw [show s.seat.brace.mode = .locked from locked]
        rfl
      exact comfort_refuses w runs fun l hv => (if_neg (not_not.mpr locked)).trans (if_pos (hv.trans moving))
    · intro open_ t zero
      have runs : passes s.seat.brace.mode .lockTaken = true := by
        rw [show s.seat.brace.mode = .locked from locked]
        rfl
      have claims (y : Did) (z : Zone) : andThen y (fun u => levelZeroClaim b u z) = zero y z := andThen_levelZero y z
      have unlocked : unlock b s.seat = zero (zero (post t .braceState .none (pairWord 0 0), [.pass]) .c) .b := by
        rw [← claims, ← claims, unlock_eq]
        rfl
      rw [← unlocked]
      exact comfort_takes w runs fun l hv =>
        (if_neg (not_not.mpr locked)).trans (if_neg fun moving => Vehicle.noConfusion ((hv.trans still).symm.trans moving))
  · intro g y cuts massage rest mine kept gone isBrace enters
    obtain ⟨bladders, clear⟩ := cleared_seat (s := s) (op := op)
    have keptEq : keptQueue s op = kept := by
      unfold kept rest keptQueue yields g
      simp
    have goneEq : (goneQueue s op).map (fun o => Task.opResult o .cancelled) = gone := by
      unfold gone mine rest massage goneQueue yields g
      simp
    have clearQueue : (cleared s op).1.gallery.queue = kept := by
      rw [clear]
      exact keptEq
    have seatEq : y.1 = (enterBrace b (cleared s op).1 op).1 := rfl
    have told : y.2 = (cleared s op).2 ++ (enterBrace b (cleared s op).1 op).2 ++ [.serve, .engineRetry] := rfl
    obtain ⟨flight, alloc, target⟩ := enterBrace_rest (b := b) (t := (cleared s op).1) moves
    rw [clear] at flight alloc
    have entering {l : List Op} {ended : List Task} (queue : (enterBrace b (cleared s op).1 op).1.gallery.queue = insertBrace op l)
        (handed : (enterBrace b (cleared s op).1 op).2 = ended) : enters l ended := by
      refine ⟨queue.trans insertBrace_eq, fun o cut => ?_, fun noCut => ?_⟩
      · have cutting := cutFlight_cut cut.1 cut.2
        refine ⟨?_, ?_, ?_⟩
        · rw [seatEq, clear, flight, cutting, releaseClaim_seat]
          rfl
        · rw [seatEq, clear, alloc, cutting]
          exact releaseClaim_frees _
        · rw [told, handed, cleared_told, goneEq, cutting]
      · have keeping := cutFlight_kept fun o flying => not_not.mp fun other => noCut o ⟨flying, other⟩
        refine ⟨?_, ?_, ?_⟩
        · rw [seatEq, clear, flight, keeping]
        · rw [seatEq, clear, alloc, keeping]
        · rw [told, handed, cleared_told, goneEq, keeping]
          rfl
    refine ⟨target, fun free => ?_, fun before o after split here others => ?_⟩
    · have nobody : queuedFor (cleared s op).1.gallery op.bladder = none := by
        rw [queuedFor_none, clearQueue]
        exact free
      have entered := enterBrace_free (b := b) nobody
      have plain (room : makeRoom b (cleared s op).1 = ((cleared s op).1, [])) : enters kept [] := by
        refine entering ?_ ?_
        · rw [entered, room, braceEnters_queue, clearQueue]
        · rw [entered, room]
      refine ⟨fun room => plain (makeRoom_room (by rw [clearQueue]; exact room)),
        fun full braces => plain (makeRoom_braced (by rw [clearQueue]; exact braces)),
        fun before o after full split other later others => ?_⟩
      have drops := makeRoom_drops (b := b) (t := (cleared s op).1) (by rw [clearQueue]; exact full) (clearQueue.trans split) other later
      obtain ⟨gone_, left⟩ := filter_bladder others
      refine entering ?_ ?_
      · rw [entered, braceEnters_queue, drops, removeQueued_eq]
        dsimp only
        rw [clearQueue, split, left]
      · rw [entered, drops, removeQueued_eq]
        dsimp only
        rw [clearQueue, split, gone_]
        rfl
    · have held := queuedFor_split (op := op) (clearQueue.trans split) here fun k hk => others k (List.mem_append_left _ hk)
      rw [seatEq, enterBrace_queued held]
      exact enterOp_replaces (clearQueue.trans split) here others

end Sys2Proof.Machine
end

section
/-! SUPPORT. The whole frames of the safety line and the reply (R160, R163, R164, R166). -/
namespace Sys2Proof.Machine

/-! ### Hearing a frame (R160) -/

section
variable {s : State} {f : State → State} {command argument : Nat}

theorem safetyFrame_hears (h : Works s) (free : s.base.line.receiver ≠ .stuck) (f : State → State) : safetyFrame s f = .next (f s) := by
  unfold safetyFrame
  have power := works_power h
  rcases power with e | e
  · rw [e]
    exact if_neg free
  · rw [e]
    exact if_neg free

theorem safetyFrame_deaf (h : Works s) (stuck : s.base.line.receiver = .stuck) (f : State → State) : safetyFrame s f = .next s := by
  unfold safetyFrame
  rcases works_power h with e | e
  · rw [e]
    exact if_pos stuck
  · rw [e]
    exact if_pos stuck

/-! ### The table of commands (R163) -/

theorem judgeFrame_unknown (h1 : command ≠ 1) (h5 : command ≠ 5) (h6 : command ≠ 6) (h9 : command ≠ 9) (h12 : command ≠ 12) :
    judgeFrame command argument = .unknown := by
  unfold judgeFrame
  split
  · exact absurd rfl h1
  · exact absurd rfl h5
  · exact absurd rfl h6
  · exact absurd rfl h9
  · exact absurd rfl h12
  · rfl

theorem judgeFrame_argument
    (h : (command = 1 ∨ command = 6 ∨ command = 9) ∧ argument ≠ 0 ∨ command = 5 ∧ argument ≠ 1 ∧ argument ≠ 2 ∨
      command = 12 ∧ 3 < argument) : judgeFrame command argument = .argument := by
  rcases h with ⟨rfl | rfl | rfl, nonzero⟩ | ⟨rfl, notOne, notTwo⟩ | ⟨rfl, high⟩
  · exact if_neg nonzero
  · exact if_neg nonzero
  · exact if_neg nonzero
  · exact (if_neg notOne).trans (if_neg notTwo)
  · have nothing : crashOfCode argument = none := List.getElem?_eq_none high
    unfold judgeFrame
    rw [nothing]
    rfl

theorem checkedFrame_unknown (h : judgeFrame command argument = .unknown) :
    checkedFrame s command argument = refuseFrame s command argument .unknown := by
  rw [checkedFrame, h]

theorem checkedFrame_argument (h : judgeFrame command argument = .argument) :
    checkedFrame s command argument = refuseFrame s command argument .argument := by
  rw [checkedFrame, h]

/-- A refusal posts its notice and is answered. -/
theorem refuseFrame_eq (o : FrameOutcome) :
    refuseFrame s command argument o = answerFrame (actOn s (postFrame s.seat o, [])) command argument o := by
  rw [actOn_nil]
  rfl

end

/-! ### The reply (R164) -/

section
variable {b : Base} {s : Seat} {x : Brace}

theorem fieldSymbols_two (n : Nat) : fieldSymbols 2 n = [decide (n / 2 % 2 = 1), decide (n % 2 = 1)] := by
  simp [fieldSymbols]

theorem attainedGrade_eq :
    attainedGrade x =
      if x.bolster.bbl ≠ .ended .done ∨ x.bolster.bbr ≠ .ended .done ∨ x.bolster.cbl ≠ .ended .done ∨ x.bolster.cbr ≠ .ended .done then 0
      else if x.grade = 1 then 1
      else if axisOrder.all (fun a =>
          x.axisAction.get a = .none ∨ x.axisAction.get a = .inWindow ∨ x.axisAction.get a = .ended .reached) then 2
      else 1 := by
  have bolsters : bolsterOrder.any (fun i => x.bolster.get i ≠ .ended .done) = true ↔
      (x.bolster.bbl ≠ .ended .done ∨ x.bolster.bbr ≠ .ended .done ∨ x.bolster.cbl ≠ .ended .done ∨ x.bolster.cbr ≠ .ended .done) := by
    simp only [bolsterOrder, List.any_cons, List.any_nil, Bool.or_false, Bool.or_eq_true, decide_eq_true_iff]
    exact Iff.rfl
  have axes : axisOrder.any (fun a =>
      !(x.axisAction.get a = .none || x.axisAction.get a = .inWindow || x.axisAction.get a = .ended .reached)) =
      !axisOrder.all (fun a =>
        x.axisAction.get a = .none ∨ x.axisAction.get a = .inWindow ∨ x.axisAction.get a = .ended .reached) := by
    simp [List.all_eq_not_any_not, Bool.and_assoc]
  unfold attainedGrade
  refine ite_congr (propext bolsters) (fun _ => rfl) fun _ => ite_congr rfl (fun _ => rfl) fun _ => ?_
  rw [axes]
  cases axisOrder.all (fun a =>
    x.axisAction.get a = .none ∨ x.axisAction.get a = .inWindow ∨ x.axisAction.get a = .ended .reached) <;> rfl

theorem readiness_ready :
    (readiness b s).ready =
      decide (s.axes.recline.confidence ≠ .unlearned ∧ s.axes.recline.drive ≠ .fault ∧ b.monitor.state ≠ .cutoff ∧
        s.gallery.state ≠ .fault ∧ s.brace.mode ≠ .locked ∧ b.line.stuck = false) := by
  simp [readiness, Readiness.ready, Bool.and_assoc]

end

/-- Settles O54: the frames that are taken, refused and dropped, and the reply bit by bit. -/
theorem safetyFramesAreJudged : Obligations.SafetyFramesAreJudged := by
  unfold Obligations.SafetyFramesAreJudged
  intro s w answers drops
  refine ⟨fun stuck g k command argument cause => ?_, fun free => ?_, ?_⟩
  · exact ⟨safetyFrame_deaf w stuck fun t => takeFrame t .statusQuery, safetyFrame_deaf w stuck fun t => takeFrame t (.brace g),
      safetyFrame_deaf w stuck fun t => takeFrame t .hold, safetyFrame_deaf w stuck fun t => takeFrame t .standDown,
      safetyFrame_deaf w stuck fun t => takeFrame t (.crash k), safetyFrame_deaf w stuck fun t => checkedFrame t command argument,
      safetyFrame_deaf w stuck (dropAtEdge cause)⟩
  · have hears := safetyFrame_hears w free
    refine ⟨hears fun t => takeFrame t .statusQuery, hears fun t => takeFrame t (.brace .one), hears fun t => takeFrame t (.brace .two),
      hears fun t => takeFrame t .hold, hears fun t => takeFrame t .standDown, fun k => ?_, fun command argument => ⟨?_, ?_⟩,
      hears (dropAtEdge .lead), hears (dropAtEdge .gap), hears (dropAtEdge .calRange), hears (dropAtEdge .shortSymbol),
      fun command argument => hears (dropAtEdge (.check command argument))⟩
    · exact hears fun t => takeFrame t (.crash k)
    · intro h1 h5 h6 h9 h12
      refine (hears fun t => checkedFrame t command argument).trans (congrArg Host.Outcome.next ?_)
      rw [checkedFrame_unknown (judgeFrame_unknown h1 h5 h6 h9 h12), refuseFrame_eq]
      rfl
    · intro wrong
      refine (hears fun t => checkedFrame t command argument).trans (congrArg Host.Outcome.next ?_)
      rw [checkedFrame_argument (judgeFrame_argument wrong), refuseFrame_eq]
      rfl
  · intro x attained bits r ready
    have two (n : Nat) : fieldSymbols 2 n = bits n := fieldSymbols_two n
    have attainedEq : attainedGrade x = attained := attainedGrade_eq
    have readyEq : (readiness s.base s.seat).ready = ready := readiness_ready
    have mode : fieldSymbols 3 (modeCode x.mode) = (match x.mode with
        | .idle => [false, false, false]
        | .bracing => [false, false, true]
        | .braced => [false, true, false]
        | .releasing => [false, true, true]
        | .locked => [true, false, false]) := by
      cases x.mode <;> rfl
    have grade : replyGrade x = (match x.mode with
        | .idle => 0
        | .bracing => x.grade
        | .releasing => x.grade
        | .braced => attained
        | .locked => match x.crash with
          | some .rear => 1
          | some .side => 2
          | some .unspecified => 3
          | _ => 0) := by
      rw [← attainedEq]
      unfold replyGrade
      cases x.mode with
      | locked =>
        cases x.crash with
        | none => rfl
        | some k => cases k <;> rfl
      | idle => rfl
      | bracing => rfl
      | braced => rfl
      | releasing => rfl
    have supply : monitorCode s.base.monitor.state = (match s.base.monitor.state with
        | .normal => 0
        | .low => 1
        | .cutoff => 2) := rfl
    unfold replySymbols
    rw [mode, two, two, readyEq, grade, supply] <;> rfl

end Sys2Proof.Machine
end

section
/-! SUPPORT. The moments and the edges of the safety line (R160 to R162, R164, R165, R167). -/
namespace Sys2Proof.Machine

section
variable {s : State} {micros : Nat}

/-! ### Moments -/

theorem exec_gapTimeout (h : Works s) (at_ : s.base.line.receiver = .gap) :
    exec .safetyGapTimeout s = .next (dropFrame s .gap none .waitLead) := if_pos ⟨h, decide_eq_true at_⟩

theorem exec_symbolTimeout (h : Works s) (at_ : s.base.line.receiver = .symbols) (high : s.base.line.low = false) :
    exec .safetySymbolTimeout s = .next (dropFrame s .timeout none .waitLead) := if_pos ⟨h, by simp [at_, high]⟩

theorem exec_symbolTooLong (h : Works s) (at_ : s.base.line.receiver = .symbols) (low : s.base.line.low = true) :
    exec .safetySymbolTooLong s = .next (dropFrame s .symbol none .waitHigh) := if_pos ⟨h, by simp [at_, low]⟩

theorem exec_replyStart (h : Works s) (at_ : s.base.line.receiver = .turnaround) :
    exec .safetyReplyStart s = .next (withLine s (beginLow { s.base.line with receiver := .reply, replyIndex := 0 })) :=
  if_pos ⟨h, decide_eq_true at_⟩

theorem exec_replySymbolEnd (h : Works s) (at_ : s.base.line.receiver = .reply) :
    exec .replySymbolEnd s = .next (withLine s (replySymbol s.base.line)) := if_pos ⟨h, decide_eq_true at_⟩

theorem exec_replySent (h : Works s) (at_ : s.base.line.receiver = .reply) :
    exec .safetyReplySent s = .next (replySent (withLine s { s.base.line with replyIndex := 8 })) :=
  if_pos ⟨h, decide_eq_true at_⟩

theorem exec_collision (h : Works s) (at_ : s.base.line.receiver = .turnaround ∨ s.base.line.receiver = .reply) :
    exec .safetyCollision s = .next (collide (withLine s (releaseLine s.base.line))) := if_pos ⟨h, by simpa using at_⟩

theorem exec_lineStuck (h : Works s) (free : s.base.line.receiver ≠ .stuck) (high : s.base.line.driving = none) :
    exec .lineStuck s = .next (enterStuck s) := if_pos ⟨h, by simp [free, high]⟩

/-- The part's own low is not watched for stuck. -/
theorem exec_lineStuck_driven (driving : s.base.line.driving.isSome = true) : exec .lineStuck s = .next s :=
  if_neg fun now => by simp [Option.isSome_iff_ne_none.mp driving] at now

theorem exec_stuckCleared (h : Works s) (stuck : s.base.line.stuck = true) : exec .lineStuckCleared s = .next (clearStuck s) :=
  if_pos ⟨h, stuck⟩

theorem exec_lineEdge (h : Works s) (rising : Bool) : exec (.safetyLineEdge rising micros) s = .next (lineEdge s rising micros) := by
  change execSafetyLineEdge rising micros s = _
  unfold execSafetyLineEdge
  rcases works_power h with e | e <;> rw [e]

theorem exec_lineWake (h : Works s) : exec .safetyLineWake s = .next (ordinaryFall s) := by
  change execSafetyLineWake s = _
  unfold execSafetyLineWake
  rcases works_power h with e | e <;> rw [e]

/-! ### The level (R160) -/

theorem fall_of_low (low : s.base.line.low = true) : lineEdge s false micros = s :=
  if_neg fun e => Bool.noConfusion (e.trans low)

theorem rise_of_high (high : s.base.line.low = false) : lineEdge s true micros = s :=
  if_neg fun e => Bool.noConfusion (e.trans high)

theorem exec_fall (h : Works s) (high : s.base.line.low = false) :
    exec (.safetyLineEdge false micros) s = .next (fallingEdge s micros) :=
  (exec_lineEdge h false).trans (congrArg Host.Outcome.next (if_pos high.symm))

theorem exec_rise (h : Works s) (low : s.base.line.low = true) : exec (.safetyLineEdge true micros) s = .next (risingEdge s micros) :=
  (exec_lineEdge h true).trans (congrArg Host.Outcome.next (if_pos low.symm))

/-! ### Rising edges (R160 to R162) -/

/-- The state at a high, with nothing else changed. -/
def raised (s : State) : State := withLine s (lineHigh s.base.line)

/-- What the end of a low shorter than 10000 µs does, from the state at the high. -/
def lowEnded (s : State) (micros : Nat) : State :=
  match s.base.line.receiver with
  | .leadIn => endLead s micros
  | .cal => endCal s micros
  | .symbols => endSymbol s micros
  | .waitHigh => withLine s { s.base.line with receiver := .waitLead }
  | _ => s

theorem risingEdge_long (free : s.base.line.receiver ≠ .stuck) (long : 10000 ≤ micros) :
    risingEdge s micros = raised (stuckByLow s micros) := by
  unfold risingEdge
  rw [if_pos ⟨long, free⟩]
  rfl

theorem risingEdge_early (early : micros < 10000 ∨ s.base.line.receiver = .stuck) :
    risingEdge s micros = lowEnded (raised s) micros := by
  have notStuck : ¬(10000 ≤ micros ∧ s.base.line.receiver ≠ .stuck) := fun ⟨long, free⟩ =>
    early.elim (fun short => absurd long (Nat.not_le.mpr short)) free
  unfold risingEdge
  rw [if_neg notStuck]
  rfl

theorem lowEnded_leadIn (at_ : s.base.line.receiver = .leadIn) : lowEnded s micros = endLead s micros := by
  unfold lowEnded
  rw [at_]

theorem lowEnded_cal (at_ : s.base.line.receiver = .cal) : lowEnded s micros = endCal s micros := by
  unfold lowEnded
  rw [at_]

theorem lowEnded_symbols (at_ : s.base.line.receiver = .symbols) : lowEnded s micros = endSymbol s micros := by
  unfold lowEnded
  rw [at_]

theorem lowEnded_waitHigh (at_ : s.base.line.receiver = .waitHigh) :
    lowEnded s micros = withLine s { s.base.line with receiver := .waitLead } := by
  unfold lowEnded
  rw [at_]

/-- The receiver states in which the length of a low says nothing. -/
theorem lowEnded_rest
    (at_ : s.base.line.receiver = .stuck ∨ s.base.line.receiver = .waitLead ∨ s.base.line.receiver = .gap ∨
      s.base.line.receiver = .turnaround ∨ s.base.line.receiver = .reply) : lowEnded s micros = s := by
  unfold lowEnded
  rcases at_ with e | e | e | e | e <;> rw [e]

theorem endSymbol_short {w : Nat} (e : s.base.line.w = some w) (short : 8 * micros < w) :
    endSymbol s micros = dropFrame s .symbol none .waitHigh := by
  unfold endSymbol
  dsimp only
  rw [e]
  exact if_pos short

theorem endSymbol_long {w : Nat} (e : s.base.line.w = some w) (legal : w ≤ 8 * micros) (long : 11 * w < 16 * micros) :
    endSymbol s micros = dropFrame s .symbol none .waitLead := by
  unfold endSymbol
  dsimp only
  rw [e]
  exact (if_neg (Nat.not_lt.mpr legal)).trans (if_pos long)

/-- A low of a legal length is one symbol more, and the sixteenth ends the data. -/
theorem endSymbol_legal {w : Nat} (e : s.base.line.w = some w) (legal : w ≤ 8 * micros) (within : 16 * micros ≤ 11 * w) :
    endSymbol s micros =
      if s.base.line.symbols.length + 1 < 16 then
        withLine s { s.base.line with symbols := s.base.line.symbols ++ [decide (3 * w ≤ 8 * micros)] }
      else
        endOfData (withLine s { s.base.line with symbols := s.base.line.symbols ++ [decide (3 * w ≤ 8 * micros)] })
          (s.base.line.symbols ++ [decide (3 * w ≤ 8 * micros)]) := by
  unfold endSymbol
  dsimp only
  rw [e, ← List.length_singleton (a := decide (3 * w ≤ 8 * micros)), ← List.length_append]
  exact (if_neg (Nat.not_lt.mpr legal)).trans (if_neg (Nat.not_lt.mpr within))

theorem stuckByLow_plain (outside : s.base.line.receiver ≠ .symbols) : stuckByLow s micros = enterStuck s := by
  unfold stuckByLow symbolTooLong
  rw [decide_eq_false outside]
  rfl

theorem stuckByLow_symbol {w : Nat} (inside : s.base.line.receiver = .symbols) (e : s.base.line.w = some w)
    (long : 11 * w < 16 * micros) : stuckByLow s micros = enterStuck (dropFrame s .symbol none .waitHigh) := by
  have tooLong : symbolTooLong s.base.line micros = true := by
    simp only [symbolTooLong, inside, e, Option.getD_some, decide_true, Bool.true_and, decide_eq_true_iff]
    exact long
  unfold stuckByLow
  rw [if_pos tooLong]

/-! ### Falling edges (R160 to R162, R165) -/

theorem fallingEdge_waitLead (at_ : s.base.line.receiver = .waitLead) : fallingEdge s micros = startLead s := by
  unfold fallingEdge
  dsimp only
  rw [at_]

theorem fallingEdge_gap (at_ : s.base.line.receiver = .gap) : fallingEdge s micros = endGap s micros := by
  unfold fallingEdge
  dsimp only
  rw [at_]

theorem fallingEdge_symbols {w : Nat} (at_ : s.base.line.receiver = .symbols) (e : s.base.line.w = some w) :
    fallingEdge s micros =
      if 3 * w < 4 * micros then startLead (dropFrame s .timeout none .waitLead) else withLine s (lineLow s.base.line) := by
  unfold fallingEdge highTooLong
  dsimp only
  rw [at_, e]
  exact if_congr decide_eq_true_iff rfl rfl

theorem fallingEdge_turnaround (at_ : s.base.line.receiver = .turnaround) : fallingEdge s micros = collide s := by
  unfold fallingEdge
  dsimp only
  rw [at_]

theorem fallingEdge_stuck (at_ : s.base.line.receiver = .stuck) :
    fallingEdge s micros = if micros < 1000 then withLine s (lineLow s.base.line) else startLead (clearStuck s) := by
  unfold fallingEdge
  dsimp only
  rw [at_]

theorem fallingEdge_rest
    (at_ : s.base.line.receiver = .waitHigh ∨ s.base.line.receiver = .leadIn ∨ s.base.line.receiver = .cal ∨
      s.base.line.receiver = .reply) : fallingEdge s micros = withLine s (lineLow s.base.line) := by
  unfold fallingEdge
  dsimp only
  rcases at_ with e | e | e | e <;> rw [e]

/-! ### A fall whose high broke no limit (R167, R181) -/

theorem ordinaryFall_low (low : s.base.line.low = true) : ordinaryFall s = s := if_pos low

theorem ordinaryFall_waitLead (high : s.base.line.low = false) (at_ : s.base.line.receiver = .waitLead) :
    ordinaryFall s = startLead s := by
  unfold ordinaryFall
  rw [high, at_]
  rfl

theorem ordinaryFall_gap (high : s.base.line.low = false) (at_ : s.base.line.receiver = .gap) :
    ordinaryFall s = withLine s { s.base.line with receiver := .cal, low := true } := by
  unfold ordinaryFall
  rw [high, at_]
  rfl

theorem ordinaryFall_turnaround (high : s.base.line.low = false) (at_ : s.base.line.receiver = .turnaround) :
    ordinaryFall s = collide s := by
  unfold ordinaryFall
  rw [high, at_]
  rfl

theorem ordinaryFall_rest (high : s.base.line.low = false) (lead : s.base.line.receiver ≠ .waitLead)
    (gap : s.base.line.receiver ≠ .gap) (turn : s.base.line.receiver ≠ .turnaround) :
    ordinaryFall s = withLine s (lineLow s.base.line) := by
  unfold ordinaryFall
  rw [high]
  cases e : s.base.line.receiver with
  | waitLead => exact absurd e lead
  | gap => exact absurd e gap
  | turnaround => exact absurd e turn
  | waitHigh | leadIn | cal | symbols | reply | stuck => rfl

end

/-! ### The symbols of a reply (R164) -/

section
variable {l : SafetyLine}

theorem replySymbol_releases (driving : l.driving.isSome = true) :
    replySymbol l = { l with driving := none, replyIndex := l.replyIndex + 1 } := if_pos driving

theorem replySymbol_begins (free : l.driving = none) (more : l.replyIndex < 8) : replySymbol l = beginLow l := by
  unfold replySymbol
  rw [free]
  exact if_pos more

theorem replySymbol_whole (free : l.driving = none) (whole : 8 ≤ l.replyIndex) : replySymbol l = l := by
  unfold replySymbol
  rw [free]
  exact if_neg (Nat.not_lt.mpr whole)

/-- A release ends a low that the part drives: the reply goes on to the next symbol. -/
theorem releaseLine_eq :
    releaseLine l = { l with driving := none, replyIndex := if l.driving.isSome = true then l.replyIndex + 1 else l.replyIndex } := by
  unfold releaseLine replySymbol
  by_cases driving : l.driving.isSome = true
  · rw [if_pos driving, if_pos driving, if_pos driving]
  · have free : l.driving = none := Option.not_isSome_iff_eq_none.mp driving
    rw [if_neg driving, if_neg driving, ← free]

theorem releaseLine_high (high : l.driving = none) : releaseLine l = l := by
  unfold releaseLine
  rw [high]
  rfl

end

/-- Settles O55: each moment by the receiver state at which it comes, each edge by the level and the receiver. -/
theorem lineMomentsAct : Obligations.LineMomentsAct := by
  unfold Obligations.LineMomentsAct
  intro s l becomes dropped noted low told
  refine ⟨fun w => ⟨?gap, ?timeout, ?tooLong, ?start, ?reply, ?collision, ?stuck, ?driven, ?cleared, ?lead, ?lowWake, ?wake, ?leadEnd,
    ?gapEnd, ?calEnd, ?symbolEnd, ?highEnd, ?edges⟩, ?parked⟩
  case gap => exact exec_gapTimeout w
  case timeout => exact exec_symbolTimeout w
  case tooLong => exact exec_symbolTooLong w
  case start => exact exec_replyStart w
  case reply =>
    intro at_ released next sent
    have ended := exec_replySymbolEnd w at_
    refine ⟨fun driving => ?_, fun free more => ?_, fun free whole => ?_, exec_replySent w at_⟩
    · rw [replySymbol_releases driving] at ended
      exact ended
    · rw [replySymbol_begins free more] at ended
      exact ended
    · rw [replySymbol_whole free whole] at ended
      exact ended
  case collision =>
    intro at_ index k
    have seen := exec_collision w at_
    rw [releaseLine_eq] at seen
    exact seen
  case stuck =>
    intro free high k up
    refine ⟨exec_lineStuck w free high, fun micros low long => ⟨fun outside => ?_, fun n inside e tooLong => ?_⟩⟩
    · refine (exec_rise w low).trans ?_
      rw [risingEdge_long free long, stuckByLow_plain outside]
      rfl
    · refine (exec_rise w low).trans ?_
      rw [risingEdge_long free long, stuckByLow_symbol inside e tooLong]
      rfl
  case driven => exact exec_lineStuck_driven
  case cleared => exact exec_stuckCleared w
  case lead =>
    intro at_ high micros k
    refine ⟨(exec_fall w high).trans ?_, (exec_lineWake w).trans ?_⟩
    · rw [fallingEdge_waitLead at_]
      rfl
    · rw [ordinaryFall_waitLead high at_]
      rfl
  case lowWake => exact fun low => (exec_lineWake w).trans (congrArg Host.Outcome.next (ordinaryFall_low low))
  case wake =>
    intro high k calibrates
    refine ⟨fun at_ => ?_, fun at_ free => ?_, fun lead gap turn => ?_⟩
    · exact (exec_lineWake w).trans (congrArg Host.Outcome.next (ordinaryFall_gap high at_))
    · rw [exec_lineWake w, exec_collision w (.inl at_), ordinaryFall_turnaround high at_, releaseLine_high free]
      rfl
    · exact (exec_lineWake w).trans (congrArg Host.Outcome.next (ordinaryFall_rest high lead gap turn))
  case leadEnd =>
    intro at_ low micros early k late
    have ended : exec (.safetyLineEdge true micros) s = .next (endLead (raised s) micros) := by
      rw [exec_rise w low, risingEdge_early (.inl early), lowEnded_leadIn (s := raised s) at_]
    refine ⟨fun legal => ended.trans ?_, fun long => ended.trans (congrArg Host.Outcome.next ?_)⟩
    · by_cases short : micros < 800
      · have receiver : k = { l with receiver := .waitLead, low := false } := by simp [k, short]
        rw [receiver]
        exact congrArg Host.Outcome.next (if_pos short)
      · have receiver : k = { l with receiver := .gap, low := false } := by simp [k, short]
        rw [receiver]
        exact congrArg Host.Outcome.next ((if_neg short).trans (if_pos legal))
    · exact (if_neg (by omega)).trans (if_neg (Nat.not_le.mpr long))
  case gapEnd =>
    intro at_ high micros k short long
    have ended : exec (.safetyLineEdge false micros) s = .next (endGap s micros) := by
      rw [exec_fall w high, fallingEdge_gap at_]
    refine ⟨fun less => ended.trans (congrArg Host.Outcome.next ?_), fun least most => ended.trans (congrArg Host.Outcome.next ?_),
      fun more => ended.trans (congrArg Host.Outcome.next ?_)⟩
    · exact if_pos less
    · exact (if_neg (Nat.not_lt.mpr least)).trans (if_pos most)
    · exact (if_neg (by omega)).trans (if_neg (Nat.not_le.mpr more))
  case calEnd =>
    intro at_ low micros early k bad
    have ended : exec (.safetyLineEdge true micros) s = .next (endCal (raised s) micros) := by
      rw [exec_rise w low, risingEdge_early (.inl early), lowEnded_cal (s := raised s) at_]
    refine ⟨fun least most => ended.trans (congrArg Host.Outcome.next ?_), fun outside => ended.trans (congrArg Host.Outcome.next ?_)⟩
    · exact if_pos ⟨least, most⟩
    · exact if_neg (by omega)
  case symbolEnd =>
    intro n at_ e low room micros early k short long
    have ended : exec (.safetyLineEdge true micros) s = .next (endSymbol (raised s) micros) := by
      rw [exec_rise w low, risingEdge_early (.inl early), lowEnded_symbols (s := raised s) at_]
    refine ⟨fun less => ended.trans ?_, fun legal within => ended.trans ?_, fun legal tooLong => ended.trans ?_⟩
    · rw [endSymbol_short (s := raised s) e less]
      rfl
    · rw [endSymbol_legal (s := raised s) e legal within,
        if_pos (show (raised s).base.line.symbols.length + 1 < 16 from Nat.succ_lt_succ room)]
      rfl
    · rw [endSymbol_long (s := raised s) e legal tooLong]
      rfl
  case highEnd =>
    intro n at_ e high micros k late
    have ended := (exec_fall (micros := micros) w high).trans (congrArg Host.Outcome.next (fallingEdge_symbols at_ e))
    exact ⟨fun legal => ended.trans (congrArg Host.Outcome.next (if_neg (Nat.not_lt.mpr legal))),
      fun long => ended.trans (congrArg Host.Outcome.next (if_pos long))⟩
  case edges =>
    intro micros down up collided cleared ready falls rises
    refine ⟨fun low => ?_, fun high => ?_, fun high => ⟨fun at_ => ?_, fun at_ short => ?_, fun at_ long => ?_, fun at_ => ?_⟩,
      fun low => ⟨fun at_ => ?_, fun at_ short => ?_, fun at_ short => ?_⟩⟩
    · exact (exec_lineEdge w false).trans (congrArg Host.Outcome.next (fall_of_low low))
    · exact (exec_lineEdge w true).trans (congrArg Host.Outcome.next (rise_of_high high))
    · refine (exec_fall w high).trans ?_
      rw [fallingEdge_turnaround at_, collide, if_pos (show s.base.line.receiver = .turnaround from at_)]
      rfl
    · exact (exec_fall w high).trans (congrArg Host.Outcome.next ((fallingEdge_stuck at_).trans (if_pos short)))
    · exact (exec_fall w high).trans (congrArg Host.Outcome.next ((fallingEdge_stuck at_).trans (if_neg (Nat.not_lt.mpr long))))
    · exact (exec_fall w high).trans (congrArg Host.Outcome.next (fallingEdge_rest at_))
    · exact (exec_rise w low).trans
        (congrArg Host.Outcome.next ((risingEdge_early (.inr at_)).trans (lowEnded_rest (s := raised s) (.inl at_))))
    · exact (exec_rise w low).trans
        (congrArg Host.Outcome.next ((risingEdge_early (.inl short)).trans (lowEnded_waitHigh (s := raised s) at_)))
    · exact (exec_rise w low).trans
        (congrArg Host.Outcome.next ((risingEdge_early (.inl short)).trans (lowEnded_rest (s := raised s) (.inr at_))))
  case parked =>
    intro asleep woken k t
    refine ⟨?_, fun micros => ?_⟩
    · change execSafetyLineWake s = _
      unfold execSafetyLineWake
      rw [asleep] <;> rfl
    · change execSafetyLineEdge false micros s = _
      unfold execSafetyLineEdge
      rw [asleep] <;> rfl

end Sys2Proof.Machine
end

section
/-! SUPPORT. The symbols of a frame, read back one low at a time (R162, R163). -/
namespace Sys2Proof.Machine

/-! ### What the lows spell -/

theorem fieldSymbols_length (n v : Nat) : (fieldSymbols n v).length = n := by
  induction n with
  | zero => rfl
  | succ n ih => exact congrArg Nat.succ ih

theorem foldl_fieldSymbols (n v i : Nat) :
    (fieldSymbols n v).foldl (fun n x => 2 * n + x.toNat) i = i * 2 ^ n + v % 2 ^ n := by
  induction n generalizing i with
  | zero => simp [fieldSymbols, Nat.mod_one]
  | succ n ih =>
    have bit : (decide (v / 2 ^ n % 2 = 1)).toNat = v / 2 ^ n % 2 := by
      rcases Nat.mod_two_eq_zero_or_one (v / 2 ^ n) with e | e <;> rw [e] <;> rfl
    rw [fieldSymbols, List.foldl_cons, ih, bit, Nat.mod_pow_succ]
    ring

theorem symbolValue_fieldSymbols {n v : Nat} (small : v < 2 ^ n) : symbolValue (fieldSymbols n v) = v := by
  unfold symbolValue
  rw [foldl_fieldSymbols, Nat.zero_mul, Nat.zero_add, Nat.mod_eq_of_lt small]

theorem expectedCheck_small (command argument : Nat) : expectedCheck command argument < 2 ^ 4 :=
  Nat.lt_succ_of_le (Nat.sub_le _ _)

section
variable {s : State} {command argument : Nat}

/-- The sixteen symbols of a frame with its check are that frame. -/
theorem endOfData_frameSymbols (hc : command < 16) (ha : argument < 256) :
    endOfData s (frameSymbols command argument) = checkedFrame s command argument := by
  have first : (frameSymbols command argument).take 4 = fieldSymbols 4 command := by
    rw [frameSymbols, List.append_assoc]
    exact List.take_left' (fieldSymbols_length 4 command)
  have second : ((frameSymbols command argument).drop 4).take 8 = fieldSymbols 8 argument := by
    rw [frameSymbols, List.append_assoc, List.drop_left' (fieldSymbols_length 4 command)]
    exact List.take_left' (fieldSymbols_length 8 argument)
  have third : (frameSymbols command argument).drop 12 = fieldSymbols 4 (expectedCheck command argument) :=
    List.drop_left' (by rw [List.length_append, fieldSymbols_length, fieldSymbols_length])
  unfold endOfData
  rw [first, second, third, symbolValue_fieldSymbols hc, symbolValue_fieldSymbols ha,
    symbolValue_fieldSymbols (expectedCheck_small command argument)]
  exact if_pos rfl

/-! ### The symbols received so far change nothing else -/

/-- The base at a high inside a frame, with the symbols received so far. -/
def heardBase (b : Base) (x : List Bool) : Base := { b with line := { b.line with symbols := x, low := false } }

/-- The state at a high inside a frame, with the symbols received so far. -/
def heard (s : State) (x : List Bool) : State := withLine s { s.base.line with symbols := x, low := false }

theorem heard_base (x : List Bool) : (heard s x).base = heardBase s.base x := rfl

theorem heard_nothing (none : s.base.line.symbols = []) (high : s.base.line.low = false) : heard s [] = s := by
  rw [heard, ← none, ← high]
  rfl

/-- No hand-over reads the symbols or the level of the line. -/
theorem runTask_heard (t : Task) (b : Base) (x : Seat) (symbols : List Bool) : runTask t (heardBase b symbols) x = runTask t b x := by
  cases t <;> rfl

theorem settle_heard (n : Nat) (l : List Task) (b : Base) (x : Seat) (symbols : List Bool) :
    settle n l (heardBase b symbols) x = settle n l b x := by
  induction n generalizing l x with
  | zero => rfl
  | succ n ih =>
    cases l with
    | nil => rfl
    | cons t rest =>
      by_cases waits : t = .pass ∧ passInProgress rest = true
      · rw [waits.1, settle_pass_deferred n rest _ x waits.2, settle_pass_deferred n rest b x waits.2, ih]
      · rw [settle_cons n t rest _ x waits, settle_cons n t rest b x waits, runTask_heard, ih]

theorem settled_heard (b : Base) (y : Did) (symbols : List Bool) : settled (heardBase b symbols) y = settled b y :=
  settle_heard fuel y.2 b y.1 symbols

theorem braceCommand_heard (c : SafetyCommand) (b : Base) (x : Seat) (symbols : List Bool) :
    braceCommand c (heardBase b symbols) x = braceCommand c b x := by
  cases c <;> rfl

theorem takeFrame_heard (c : SafetyCommand) (symbols : List Bool) : takeFrame (heard s symbols) c = takeFrame s c := by
  have acted : actOn (heard s symbols) (braceCommand c (heard s symbols).base s.seat) =
      heard (actOn s (braceCommand c s.base s.seat)) symbols := by
    unfold actOn
    rw [heard_base, settled_heard, braceCommand_heard]
    rfl
  unfold takeFrame
  rw [show (heard s symbols).seat = s.seat from rfl, acted]
  rfl

theorem checkedFrame_heard (symbols : List Bool) : checkedFrame (heard s symbols) command argument = checkedFrame s command argument := by
  unfold checkedFrame
  cases judgeFrame command argument with
  | take c => exact takeFrame_heard c symbols
  | unknown => rfl
  | argument => rfl

/-! ### One symbol after the other -/

/-- A run of the machine over events that all step. -/
def follow (c : Option State) (i : Instr) : Option State :=
  match c with
  | some t => match exec i t with
    | .next u => some u
    | _ => none
  | none => none

theorem follow_some {t u : State} {i : Instr} (h : exec i t = .next u) : follow (some t) i = some u := by
  unfold follow
  simp only [h]

/-- A fall after a high and the rise after the low that it began. -/
def symbolEdges (p : Nat × Nat) : List Instr := [.safetyLineEdge false p.2, .safetyLineEdge true p.1]

/-- A low and the high before it that R162 accepts. -/
def LegalSymbol (w : Nat) (p : Nat × Nat) : Prop := w ≤ 8 * p.1 ∧ 16 * p.1 ≤ 11 * w ∧ 4 * p.2 ≤ 3 * w

/-- What a low spells. -/
def spelt (w : Nat) (p : Nat × Nat) : Bool := decide (3 * w ≤ 8 * p.1)

variable {w : Nat} {p : Nat × Nat} {x : List Bool}

/-- A legal high and low bring the next symbol, and the sixteenth ends the data. -/
theorem follow_symbol (works : Works s) (at_ : s.base.line.receiver = .symbols) (e : s.base.line.w = some w) (most : w ≤ 400)
    (legal : LegalSymbol w p) :
    (symbolEdges p).foldl follow (some (heard s x)) =
      some (if x.length + 1 < 16 then heard s (x ++ [spelt w p]) else endOfData (heard s (x ++ [spelt w p])) (x ++ [spelt w p])) := by
  obtain ⟨least, longest, high⟩ := legal
  have early : p.1 < 10000 := by omega
  have fallen : exec (.safetyLineEdge false p.2) (heard s x) = .next (withLine (heard s x) (lineLow (heard s x).base.line)) := by
    rw [exec_fall (s := heard s x) works rfl, fallingEdge_symbols (s := heard s x) at_ e, if_neg (Nat.not_lt.mpr high)]
  have risen := exec_rise (s := withLine (heard s x) (lineLow (heard s x).base.line)) (micros := p.1) works rfl
  rw [risingEdge_early (.inl early), lowEnded_symbols (s := raised (withLine (heard s x) (lineLow (heard s x).base.line))) at_,
    endSymbol_legal (s := raised (withLine (heard s x) (lineLow (heard s x).base.line))) e least longest] at risen
  rw [symbolEdges, List.foldl_cons, follow_some fallen, List.foldl_cons, follow_some risen]
  rfl

/-- Up to fifteen legal symbols are kept as what they spell. -/
theorem follow_symbols (works : Works s) (at_ : s.base.line.receiver = .symbols) (e : s.base.line.w = some w) (most : w ≤ 400)
    (pairs : List (Nat × Nat)) (x : List Bool) (room : x.length + pairs.length ≤ 15) (legal : ∀ p ∈ pairs, LegalSymbol w p) :
    (pairs.flatMap symbolEdges).foldl follow (some (heard s x)) = some (heard s (x ++ pairs.map (spelt w))) := by
  induction pairs generalizing x with
  | nil => rw [List.map_nil, List.append_nil, List.flatMap_nil, List.foldl_nil]
  | cons p rest ih =>
    rw [List.length_cons] at room
    rw [List.flatMap_cons, List.foldl_append, follow_symbol works at_ e most (legal p List.mem_cons_self),
      if_pos (by omega), ih _ (by rw [List.length_append, List.length_singleton]; omega) fun q hq => legal q (List.mem_cons_of_mem p hq),
      List.append_assoc, List.map_cons, List.singleton_append]

/-- Sixteen legal symbols that spell a frame with its check are that frame. -/
theorem follow_frame (works : Works s) (at_ : s.base.line.receiver = .symbols) (e : s.base.line.w = some w) (most : w ≤ 400)
    {pairs : List (Nat × Nat)} (sixteen : pairs.length = 16) (legal : ∀ p ∈ pairs, LegalSymbol w p) (hc : command < 16)
    (ha : argument < 256) (spells : pairs.map (spelt w) = frameSymbols command argument) :
    (pairs.flatMap symbolEdges).foldl follow (some (heard s [])) = some (checkedFrame s command argument) := by
  rcases List.eq_nil_or_concat pairs with rfl | ⟨before, last, rfl⟩
  · exact absurd sixteen (by decide)
  · have fifteen : before.length = 15 := by simpa using sixteen
    have all : before.map (spelt w) ++ [spelt w last] = frameSymbols command argument := by simpa using spells
    have full : ¬([] ++ before.map (spelt w)).length + 1 < 16 := by simp [fifteen]
    rw [List.concat_eq_append, List.flatMap_append, List.foldl_append,
      follow_symbols works at_ e most before [] (by simp [fifteen]) fun p hp => legal p (by simp [hp])]
    have ended := follow_symbol (x := [] ++ before.map (spelt w)) works at_ e most (legal last (by simp))
    rw [if_neg full, List.nil_append, all, endOfData_frameSymbols hc ha, checkedFrame_heard] at ended
    simpa using ended

end

/-- The lows of legal lengths spell the symbols that they were sent for. -/
theorem spelt_zip {w : Nat} {symbols : List Bool} {lows highs : List Nat} (n : symbols.length = lows.length)
    (m : lows.length = highs.length)
    (h : ∀ p ∈ symbols.zip lows, decide (3 * w ≤ 8 * p.2) = p.1) : (lows.zip highs).map (spelt w) = symbols := by
  calc (lows.zip highs).map (spelt w)
      = ((lows.zip highs).map Prod.fst).map fun p => decide (3 * w ≤ 8 * p) := by rw [List.map_map]; rfl
    _ = lows.map fun p => decide (3 * w ≤ 8 * p) := by rw [List.map_fst_zip m.le]
    _ = ((symbols.zip lows).map Prod.snd).map fun p => decide (3 * w ≤ 8 * p) := by rw [List.map_snd_zip n.ge]
    _ = (symbols.zip lows).map Prod.fst := by
      rw [List.map_map]
      exact List.map_congr_left h
    _ = symbols := List.map_fst_zip n.le

/-- Settles O56: sixteen times one fall and one rise, each legal pair one symbol, and the sixteenth the whole frame. -/
theorem symbolsSpellTheFrame : Obligations.SymbolsSpellTheFrame := by
  unfold Obligations.SymbolsSpellTheFrame
  intro s w command argument lows highs works at_ e least most none high hc ha symbols nLows nHighs highLegal lowLegal edges run
  have sixteen : symbols.length = 16 := by
    simp only [symbols, frameSymbols, List.length_append, fieldSymbols_length]
  have spells : (lows.zip highs).map (spelt w) = symbols := by
    refine spelt_zip (sixteen.trans nLows.symm) (nLows.trans nHighs.symm) fun p hp => ?_
    obtain ⟨forFalse, forTrue⟩ := lowLegal p hp
    cases sent : p.1 with
    | false => exact decide_eq_false (Nat.not_le.mpr (forFalse sent).2)
    | true => exact decide_eq_true (forTrue sent).1
  have legal : ∀ p ∈ lows.zip highs, LegalSymbol w p := by
    intro p hp
    obtain ⟨ofLow, ofHigh⟩ := List.of_mem_zip (show (p.1, p.2) ∈ lows.zip highs from hp)
    rw [← List.map_snd_zip (show lows.length ≤ symbols.length by rw [sixteen, nLows])] at ofLow
    obtain ⟨q, hq, same⟩ := List.mem_map.mp ofLow
    obtain ⟨forFalse, forTrue⟩ := lowLegal q hq
    have within : w ≤ 8 * p.1 ∧ 16 * p.1 ≤ 11 * w := by
      rw [← same]
      cases sent : q.1 with
      | false =>
        obtain ⟨lower, upper⟩ := forFalse sent
        exact ⟨lower, by omega⟩
      | true =>
        obtain ⟨lower, upper⟩ := forTrue sent
        exact ⟨by omega, upper⟩
    exact ⟨within.1, within.2, highLegal p.2 ofHigh⟩
  have ran := follow_frame works at_ e most (by rw [List.length_zip, nLows, nHighs]; rfl) legal hc ha spells
  rw [heard_nothing none high] at ran
  exact ⟨checkedFrame s command argument, ran,
    safetyFrame_hears works (fun stuck => Receiver.noConfusion (at_.symm.trans stuck)) fun t => checkedFrame t command argument⟩

end Sys2Proof.Machine
end

section
/-! SUPPORT. The contacts of the axes, raw levels and stuck contacts (R52 to R56, R61, R79). -/
namespace Sys2Proof.Machine

section
variable {b : Base} {s : Seat} {a : Axis} {d : Dir} {c e : Contact} {k : Key}

/-! ### One contact at a time (R53 to R55) -/

theorem isActive_iff : isActive s c = true ↔ (contactOf s.scanner c).cond = some .active := decide_eq_true_iff

theorem holdOff_active (h : (contactOf s.scanner c).cond = some .active) : holdOff s c = setCondition s c .heldOff :=
  if_pos (isActive_iff.mpr h)

theorem holdOff_quietSelf (h : (contactOf s.scanner c).cond ≠ some .active) : holdOff s c = s := if_neg (isActive_iff.not.mpr h)

theorem contactOf_accepted (other : e ≠ c) (cond : Condition) :
    contactOf (acceptPress b s c cond).scanner e = contactOf s.scanner e :=
  (contactOf_putContact _ _ _ _).trans (if_neg other)

theorem holdsPress_iff {x : ContactState} : holdsPress x = true ↔ x.pressed = true ∧ x.cond ≠ some .stuck := by
  rw [holdsPress, Bool.and_eq_true_iff, decide_eq_true_iff]

theorem partner_ne (a : Axis) (d : Dir) : Contact.axis a (partner d) ≠ .axis a d := by
  cases d <;> simp [partner]

/-! ### The move that a contact owns (R56) -/

theorem endManual_manual (h : ownerMet s.brace.mode (axisOf s a) = .manual) : endManual b s a = endMove b s a .reached false := if_pos h

theorem endManual_other (h : ownerMet s.brace.mode (axisOf s a) ≠ .manual) : endManual b s a = done s := if_neg h

/-! ### A press with its partner held (R55) -/

theorem pairHeldOff_quiet (quiet : (contactOf s.scanner (.axis a (partner d))).cond ≠ some .active) :
    pairHeldOff b s a d = done (acceptPress b s (.axis a d) .heldOff) := by
  unfold pairHeldOff
  dsimp only
  rw [if_neg (isActive_iff.not.mpr quiet)]
  refine congrArg (·, _) (holdOff_quietSelf ?_)
  rw [contactOf_accepted (partner_ne a d)]
  exact quiet

/-- Both contacts, once the partner's move has ended as `y`. -/
theorem pairHeldOff_active {y : Did} (active : (contactOf s.scanner (.axis a (partner d))).cond = some .active)
    (ends : endManual b s a = y) (kept : y.1.scanner = s.scanner) :
    pairHeldOff b s a d =
      (withContact (acceptPress b y.1 (.axis a d) .heldOff) (.axis a (partner d))
        { contactOf s.scanner (.axis a (partner d)) with cond := some .heldOff }, y.2) := by
  have partnerKept : contactOf (acceptPress b y.1 (.axis a d) .heldOff).scanner (.axis a (partner d)) =
      contactOf s.scanner (.axis a (partner d)) := by
    rw [contactOf_accepted (partner_ne a d), kept]
  unfold pairHeldOff
  dsimp only
  rw [if_pos (isActive_iff.mpr active), ends, holdOff_active (by rw [partnerKept]; exact active), setCondition, partnerKept]
  rfl

theorem pressAxis_pair (h : holdsPress (contactOf s.scanner (.axis a (partner d))) = true) :
    pressAxis b s a d = pairHeldOff b s a d := if_pos h

/-! ### A press with its partner free (R56, R61, R79) -/

theorem pressAxis_idle (free : ¬ holdsPress (contactOf s.scanner (.axis a (partner d))) = true) (mode : s.brace.mode = .idle) :
    pressAxis b s a d =
      ((abortRecall b (acceptPress b s (.axis a d) .heldOff) .bySwitch).1,
        (abortRecall b (acceptPress b s (.axis a d) .heldOff) .bySwitch).2 ++ [.axisPress a d]) := by
  unfold pressAxis
  dsimp only
  rw [if_neg free, mode]

theorem pressAxis_releasing (free : ¬ holdsPress (contactOf s.scanner (.axis a (partner d))) = true)
    (mode : s.brace.mode = .releasing) :
    pressAxis b s a d =
      if axisPressActs b s a d then
        ((pressEndsRestore b (acceptPress b s (.axis a d) .heldOff)).1,
          (pressEndsRestore b (acceptPress b s (.axis a d) .heldOff)).2 ++ [.axisPress a d])
      else done (acceptPress b s (.axis a d) .heldOff) := by
  unfold pressAxis
  dsimp only
  rw [if_neg free, mode]

theorem pressAxis_held (free : ¬ holdsPress (contactOf s.scanner (.axis a (partner d))) = true)
    (mode : s.brace.mode = .bracing ∨ s.brace.mode = .braced ∨ s.brace.mode = .locked) :
    pressAxis b s a d = done (acceptPress b s (.axis a d) .heldOff) := by
  unfold pressAxis
  dsimp only
  rw [if_neg free]
  rcases mode with e | e | e <;> rw [e]

/-- What keeps a press in RELEASING from acting: a fault, or a soft limit at an axis that stands. -/
theorem axisPressActs_iff :
    axisPressActs b s a d = true ↔
      (axisOf s a).drive ≠ .fault ∧ ¬(((axisOf s a).drive = .idle ∨ (axisOf s a).drive = .waitGrant) ∧
        atSoftLimit (b.cfg.axis.get a) (axisOf s a) d = true) := by
  unfold axisPressActs
  cases e : (axisOf s a).drive <;> simp [e]

/-! ### A release and a stuck contact (R53, R54, R60, R80) -/

theorem release_active (h : (contactOf s.scanner c).cond = some .active) :
    release b s c = handRelease b (acceptRelease s c) c := if_pos (isActive_iff.mpr h)

theorem release_quiet (h : (contactOf s.scanner c).cond ≠ some .active) : release b s c = done (acceptRelease s c) :=
  if_neg (isActive_iff.not.mpr h)

/-- The contact made STUCK, with its notice. -/
def stuckSeat (s : Seat) (c : Contact) : Seat :=
  post (withContact s c { contactOf s.scanner c with cond := some .stuck, stuckLeft := none }) .switchStuck (contactSubject c)
    (toWord (contactCode c))

theorem stuckContact_active (h : (contactOf s.scanner c).cond = some .active) :
    stuckContact b s c = handRelease b (stuckSeat s c) c := if_pos (isActive_iff.mpr h)

theorem stuckContact_quiet (h : (contactOf s.scanner c).cond ≠ some .active) : stuckContact b s c = done (stuckSeat s c) :=
  if_neg (isActive_iff.not.mpr h)

theorem deadManEnds_holds (h : ∃ r, s.recallCtx = some r ∧ r.deadMan = some k) :
    deadManEnds b s k = abortRecall b s .keyReleased := by
  obtain ⟨r, ctx, holds⟩ := h
  unfold deadManEnds
  rw [ctx]
  exact if_pos holds

theorem deadManEnds_free (h : ¬ ∃ r, s.recallCtx = some r ∧ r.deadMan = some k) : deadManEnds b s k = done s := by
  unfold deadManEnds
  cases ctx : s.recallCtx with
  | none => rfl
  | some r => exact if_neg fun holds => h ⟨r, ctx, holds⟩

/-! ### The end of a restore (R79, R151) -/

theorem abortRecall_last {r : Recall} {o : RecallOutcome} (ctx : s.recallCtx = some r) :
    ∃ last, (abortRecall b s o).1.lastRecall = some last ∧ last.phase = .aborted ∧ last.outcome = some o ∧ last.source = r.source := by
  unfold abortRecall
  rw [ctx]
  dsimp only
  rw [noteRestore_eq]
  exact ⟨_, rfl, rfl, rfl, rfl⟩

theorem pressEndsRestore_eq :
    pressEndsRestore b s =
      (post
        { (abortRecall b s .bySwitch).1 with
          brace := { s.brace with mode := .idle, grade := 0, holdLeft := none, driven := .all false, restore := .bySwitch } }
        .braceState .none (pairWord 0 (4 * 16)), (abortRecall b s .bySwitch).2 ++ [.pass]) := by
  obtain ⟨v, kept⟩ := abortRecall_brace (b := b) (s := s) (o := .bySwitch)
  have ends : pressEndsRestore b s =
      ((braceToIdle (abortRecall b s .bySwitch).1 .bySwitch).1,
        (abortRecall b s .bySwitch).2 ++ (braceToIdle (abortRecall b s .bySwitch).1 .bySwitch).2) := rfl
  rw [ends, braceToIdle]
  rw [kept]
  rfl

end

/-! ### The events of a contact (R52, R53) -/

section
variable {s : State} {c : Contact}

theorem pressEvent_works (h : Works s) (there : contactPresent s.base.fit c = true) (free : (contactOf s.seat.scanner c).pressed = false)
    (f : Base → Seat → Did) : pressEvent s c f = .next (actOn s (f s.base s.seat)) :=
  eventIf_works h (by rw [there, free]; rfl) f

theorem releaseEvent_works (h : Works s) (there : contactPresent s.base.fit c = true)
    (pressed : (contactOf s.seat.scanner c).pressed = true) (f : Base → Seat → Did) :
    releaseEvent s c f = .next (actOn s (f s.base s.seat)) :=
  eventIf_works h (by rw [there, pressed]; rfl) f

theorem pullUp_works (h : Works s) : wettingPullUp s.base.power false = true := by
  rcases works_power h with e | e <;> rw [e] <;> rfl

end

/-- Settles O57: the press by the partner and by the brace state, the release and the stuck expiry by the kind of contact. -/
theorem axisContactsAct : Obligations.AxisContactsAct := by
  unfold Obligations.AxisContactsAct
  refine ⟨fun s a d w there => ?_, fun b s => ?_⟩
  · intro sc mine other x owner pressed released put held press
    have same : other = Contact.axis a (partner d) := by cases d <;> rfl
    clear_value other
    subst same
    refine ⟨fun free => ?_, ?_, fun down => ?_, fun c closed present => ?_, pullUp_works w, rfl, rfl⟩
    · have comes : press = .next (actOn s (pressAxis s.base s.seat a d)) :=
        pressEvent_works (c := .axis a d) w there free fun b t => pressAxis b t a d
      refine ⟨fun holds => ?_, fun frees => ?_⟩
      · rw [pressAxis_pair (holdsPress_iff.mpr holds)] at comes
        refine ⟨fun quiet => ?_, fun active => ?_⟩
        · rw [comes, pairHeldOff_quiet quiet]
          exact congrArg Host.Outcome.next (actOn_nil ..)
        · refine ⟨fun notManual => ?_, fun manual => ?_⟩
          · rw [comes, pairHeldOff_active active (endManual_other notManual) rfl]
            exact congrArg Host.Outcome.next (actOn_nil ..)
          · rw [comes, pairHeldOff_active active (endManual_manual manual) (endMove_keeps ..).scanner]
            rfl
      · have alone : ¬ holdsPress (contactOf s.seat.scanner (.axis a (partner d))) = true := by
          rw [holdsPress_iff]
          rintro ⟨down, notStuck⟩
          exact frees.elim (fun up => Bool.noConfusion (down.symm.trans up)) notStuck
        refine ⟨fun mode => ?_, fun mode => ?_, fun mode => ?_⟩
        · rw [comes, pressAxis_idle alone mode]
          rfl
        · intro atLimit
          rw [pressAxis_releasing alone mode] at comes
          refine ⟨fun ignores => ?_, fun ok away => ?_⟩
          · rw [comes, if_neg fun acts => ignores.elim (axisPressActs_iff.mp acts).1 (axisPressActs_iff.mp acts).2]
            exact congrArg Host.Outcome.next (actOn_nil ..)
          · rw [comes, if_pos (axisPressActs_iff.mpr ⟨ok, away⟩)]
            rfl
        · rw [comes, pressAxis_held alone mode]
          exact congrArg Host.Outcome.next (actOn_nil ..)
    · exact ⟨fun ignores => if_pos ignores, fun ok free => if_neg fun ignores => ignores.elim ok free⟩
    · have comes : exec (.axisContactRelease a d) s = .next (actOn s (release s.base s.seat (.axis a d))) :=
        releaseEvent_works (c := .axis a d) w there down fun b t => release b t (.axis a d)
      refine ⟨fun active manual => ?_, fun rest => ?_⟩
      · rw [comes, release_active active]
        exact congrArg (fun y => Host.Outcome.next (actOn s y)) (endManual_manual manual)
      · rw [comes]
        refine .trans (congrArg (fun y => Host.Outcome.next (actOn s y)) ?_) (congrArg Host.Outcome.next (actOn_nil ..))
        by_cases active : mine.cond = some .active
        · rw [release_active active]
          exact endManual_other (rest.resolve_left (not_not.mpr active))
        · exact release_quiet active
    · intro k level
      refine ⟨fun changed => ?_, fun same => ?_, fun timed => ?_⟩
      · refine (eventIf_works w ?_ fun b t => done (levelChange b t c closed)).trans (congrArg Host.Outcome.next (actOn_nil ..))
        rw [contactWatched, present, pullUp_works w]
        exact decide_eq_true changed
      · refine if_neg fun comes => ?_
        exact of_decide_eq_true (Bool.and_eq_true_iff.mp comes).2 same
      · intro stuck t
        have comes : exec (.switchStuck c) s = .next (actOn s (stuckContact s.base s.seat c)) :=
          eventIf_works w (by rw [present, timed]; rfl) fun b t => stuckContact b t c
        have quietly (y : stuckContact s.base s.seat c = done t) : exec (.switchStuck c) s = .next { s with seat := t } := by
          rw [comes, y]
          exact congrArg Host.Outcome.next (actOn_nil ..)
        refine ⟨fun quiet => quietly (stuckContact_quiet quiet), ?_, ?_, ?_⟩
        · rintro e f rfl active
          refine ⟨fun manual => ?_, fun notManual => quietly ((stuckContact_active active).trans (endManual_other notManual))⟩
          rw [comes, stuckContact_active active]
          exact congrArg (fun y => Host.Outcome.next (actOn s y)) (endManual_manual manual)
        · rintro n rfl active
          refine ⟨fun holds => ?_, fun free => quietly ((stuckContact_active active).trans (deadManEnds_free free))⟩
          rw [comes, stuckContact_active active]
          exact congrArg (fun y => Host.Outcome.next (actOn s y)) (deadManEnds_holds holds)
        · rintro n rfl active
          rw [comes, stuckContact_active active]
          exact congrArg Host.Outcome.next (actOn_nil ..)
  · intro y t idle u
    have ends : y = _ := pressEndsRestore_eq
    refine ⟨ends, ?_, fun r ctx => ?_⟩
    · rw [ends]
      exact abortRecall_ctx
    · rw [ends]
      exact abortRecall_last ctx

end Sys2Proof.Machine
end

section
/-! SUPPORT. The keys and the lumbar contacts (R57 to R61, R80). -/
namespace Sys2Proof.Machine

section
variable {b : Base} {s : Seat} {f : Fitment} {c : Contact} {k : Key} {l : LumbarStep} {p : Retained4}

/-! ### The press of a key or a lumbar contact (R57, R60, R61) -/

/-- A press that the brace state lets act, and the hand-over that acts. -/
def actsByMode (b : Base) (s s1 : Seat) (act : Task) : Did :=
  match s.brace.mode with
  | .idle => (s1, [act])
  | .releasing => ((pressEndsRestore b s1).1, (pressEndsRestore b s1).2 ++ [act])
  | _ => done s1

theorem pressKey_ready (armed : s.scanner.armed.get k = true) (rested : s.scanner.rearm.get k = none) :
    pressKey b s k = actsByMode b s (acceptPress b s (.key k) .heldOff) (.keyAct k) := by
  have ready : keyReady s.scanner k = true := by simp [keyReady, armed, rested]
  unfold pressKey
  dsimp only
  rw [if_neg (by simp [ready])]
  rfl

theorem pressKey_early (h : s.scanner.armed.get k = false ∨ s.scanner.rearm.get k ≠ none) :
    pressKey b s k =
      done { acceptPress b s (.key k) .heldOff with
        scanner := { (acceptPress b s (.key k) .heldOff).scanner with rearm := s.scanner.rearm.put k none } } := by
  have early : keyReady s.scanner k = false := by
    rcases h with unarmed | running
    · simp [keyReady, unarmed]
    · simp [keyReady, Option.isSome_iff_ne_none.mpr running]
  unfold pressKey
  dsimp only
  rw [if_pos (by simp [early])]
  rfl

theorem pressLumbar_eq : pressLumbar b s l = actsByMode b s (acceptPress b s (.lumbar l) .heldOff) (.lumbarAct l) := rfl

/-! ### A MEM key that acts (R59) -/

/-- The seat when a key acts: it is ACTIVE and no longer armed. -/
def keySeat (s : Seat) (k : Key) : Seat :=
  { setCondition s (.key k) .active with
    scanner := { (setCondition s (.key k) .active).scanner with armed := s.scanner.armed.put k false } }

theorem keyAct_mem (slot : keySlot k = some p) : keyAct b s k = memAct b (keySeat s k) k p := by
  unfold keyAct
  dsimp only
  rw [slot]
  rfl

theorem memAct_stores (window : s.scanner.window.isSome = true) (h : storeRefusal b.fit (closeWindow s) p = none) :
    memAct b s k p = done (storeSlot (closeWindow s) p (captureStore b.fit (closeWindow s))) := by
  unfold memAct
  rw [if_pos window]
  dsimp only
  rw [h]

theorem memAct_storeRefused {r : Result} (window : s.scanner.window.isSome = true)
    (h : storeRefusal b.fit (closeWindow s) p = some r) : memAct b s k p = done (refuseKey (closeWindow s) k r) := by
  unfold memAct
  rw [if_pos window]
  dsimp only
  rw [h]

theorem memAct_recalls (window : s.scanner.window = none) (h : recallRefusal b.fit s p.slot = none) :
    memAct b s k p = supersede b s p.slot .key (if b.link.vehicle = .moving then some k else none) := by
  unfold memAct
  rw [window]
  dsimp only [Option.isSome_none]
  rw [if_neg Bool.false_ne_true, h]

theorem memAct_recallRefused {r : Result} (window : s.scanner.window = none) (h : recallRefusal b.fit s p.slot = some r) :
    memAct b s k p = done (refuseKey s k r) := by
  unfold memAct
  rw [window]
  dsimp only [Option.isSome_none]
  rw [if_neg Bool.false_ne_true, h]

/-- An axis of the profile that a hand or a learn run holds. -/
theorem busyAxis_met {q : Profile} :
    busyAxis f s q = true ↔ ∃ a, present f a = true ∧ (q.axes.get a).isSome = true ∧
      (ownerMet s.brace.mode (axisOf s a) = .manual ∨ ownerMet s.brace.mode (axisOf s a) = .learn) := by
  refine any_presentIn.trans (exists_congr fun a => and_congr_right fun _ => ?_)
  rw [Bool.and_eq_true_iff, Bool.or_eq_true_iff, decide_eq_true_iff, decide_eq_true_iff]

/-! ### The lumbar contacts (R60) -/

/-- A contact that no longer acts. -/
def heldOffContact (x : ContactState) : ContactState := if x.cond = some .active then { x with cond := some .heldOff } else x

theorem holdOff_lumbar :
    holdOff s (.lumbar l) =
      { s with scanner := { s.scanner with lumbar := s.scanner.lumbar.set l (heldOffContact (s.scanner.lumbar.get l)) } } := by
  by_cases active : (s.scanner.lumbar.get l).cond = some .active
  · rw [holdOff_active (c := .lumbar l) active, heldOffContact, if_pos active]
    rfl
  · rw [holdOff_quietSelf (c := .lumbar l) active, heldOffContact, if_neg active]
    exact congrArg (fun sc => { s with scanner := sc }) (putContact_self s.scanner (.lumbar l)).symm

theorem holdOff_lumbars :
    ∃ L : PerLumbar ContactState, (∀ j, L.get j = heldOffContact (s.scanner.lumbar.get j)) ∧
      lumbarOrder.foldl (fun t j => holdOff t (.lumbar j)) s = { s with scanner := { s.scanner with lumbar := L } } := by
  simp only [lumbarOrder, List.foldl_cons, List.foldl_nil, holdOff_lumbar]
  exact ⟨_, fun j => by cases j <;> rfl, rfl⟩

theorem lumbarAct_eq :
    ∃ L : PerLumbar ContactState,
      (∀ j, L.get j = if j = l then { s.scanner.lumbar.get l with cond := some .active } else heldOffContact (s.scanner.lumbar.get j)) ∧
      lumbarAct b s l = lumbarNext b { s with scanner := { s.scanner with lumbar := L } } := by
  obtain ⟨L, gets, held⟩ := holdOff_lumbars (s := s)
  refine ⟨L.set l { L.get l with cond := some .active }, fun j => ?_, ?_⟩
  · rw [PerLumbar.get_set, gets j]
    refine ite_congr rfl (fun _ => ?_) fun _ => rfl
    rw [gets l, heldOffContact]
    split <;> rfl
  · unfold lumbarAct
    rw [held]
    rfl

theorem lumbarResult_ignored {x : Bladder} {n : Nat} (h : n ≠ s.scanner.stepNo ∨ x ∉ s.scanner.waiting) :
    lumbarResult s x n = done s := if_pos (h.imp_right fun absent => by simpa using absent)

theorem lumbarResult_counts {x : Bladder} {n : Nat} (now : n = s.scanner.stepNo) (waits : x ∈ s.scanner.waiting) :
    lumbarResult s x n =
      ({ s with scanner := { s.scanner with waiting := s.scanner.waiting.filter (fun y => y ≠ x) } },
        if s.scanner.waiting.filter (fun y => y ≠ x) = [] then [.lumbarNext] else []) := by
  have counts : ¬(n ≠ s.scanner.stepNo ∨ ¬ s.scanner.waiting.contains x = true) := by
    rintro (other | absent)
    · exact other now
    · exact absent (List.contains_iff_mem.mpr waits)
  unfold lumbarResult
  rw [if_neg counts]
  exact congrArg (Prod.mk _) (if_congr List.isEmpty_iff rfl rfl)

theorem activeLumbar_only (active : (contactOf s.scanner (.lumbar l)).cond = some .active)
    (others : ∀ j, j ≠ l → (contactOf s.scanner (.lumbar j)).cond ≠ some .active) : activeLumbar s = some l := by
  unfold activeLumbar
  cases found : lumbarOrder.find? (fun j => isActive s (.lumbar j)) with
  | none => exact absurd (isActive_iff.mpr active) (List.find?_eq_none.mp found l (by cases l <;> decide))
  | some j =>
    have acts := isActive_iff.mp (List.find?_some (p := fun j => isActive s (.lumbar j)) found)
    exact congrArg some (by_contra fun differs => others j differs acts)

/-- The seat with one step more counted, and the bladders that it waits for. -/
def countedStep (s : Seat) (l : LumbarStep) : Seat :=
  { s with scanner := { s.scanner with stepNo := s.scanner.stepNo + 1, waiting := (lumbarAsks s.gallery l).map Prod.fst } }

theorem lumbarNext_refused (only : activeLumbar s = some l) (h : lumbarVerdict b s.gallery l ≠ .taken) :
    lumbarNext b s = done (holdOff s (.lumbar l)) := by
  unfold lumbarNext
  rw [only]
  exact if_pos h

theorem lumbarNext_taken (only : activeLumbar s = some l) (h : lumbarVerdict b s.gallery l = .taken) :
    lumbarNext b s =
      if (lumbarAsks s.gallery l).map Prod.fst = [] then
        (holdOff (lumbarStep (countedStep s l) l (some (s.scanner.stepNo + 1))).1 (.lumbar l),
          (lumbarStep (countedStep s l) l (some (s.scanner.stepNo + 1))).2)
      else lumbarStep (countedStep s l) l (some (s.scanner.stepNo + 1)) := by
  unfold lumbarNext
  rw [only]
  exact (if_neg (not_not.mpr h)).trans (if_congr List.isEmpty_iff rfl rfl)

/-- A step that asks nothing sets the comfort targets alone. -/
theorem lumbarStep_still {tag : Option Nat} (still : lumbarAsks s.gallery l = []) :
    lumbarStep s l tag = (setComfort (setComfort s .lu (lumbarValues s.gallery l).1) .ll (lumbarValues s.gallery l).2, [.serve]) := by
  unfold lumbarStep
  dsimp only
  rw [still]
  rfl

end

/-! ### The events (R53, R57, R58) -/

section
variable {s : State} {k : Key}

/-- A press whose contact acts by the brace state, in the three cases of R61. -/
theorem actOn_actsByMode {t : Seat} {act : Task} :
    (s.seat.brace.mode = .idle → actOn s (actsByMode s.base s.seat t act) = actOn s (t, [act])) ∧
    (s.seat.brace.mode = .releasing →
      actOn s (actsByMode s.base s.seat t act) =
        actOn s ((pressEndsRestore s.base t).1, (pressEndsRestore s.base t).2 ++ [act])) ∧
    (s.seat.brace.mode = .bracing ∨ s.seat.brace.mode = .braced ∨ s.seat.brace.mode = .locked →
      actOn s (actsByMode s.base s.seat t act) = { s with seat := t }) := by
  refine ⟨fun mode => ?_, fun mode => ?_, fun mode => ?_⟩
  · rw [actsByMode, mode]
  · rw [actsByMode, mode]
  · refine .trans (congrArg (actOn s) ?_) (actOn_nil ..)
    rw [actsByMode]
    rcases mode with e | e | e <;> rw [e] <;> rfl

theorem exec_keyRearm (h : Works s) (runs : (s.seat.scanner.rearm.get k).isSome = true) :
    exec (.keyRearm k) s = .next (withSeat s (armKey s.seat k)) := if_pos (by rw [show running s.base.power = true from h, runs]; rfl)

end

/-- Settles O58: the press by what arms it and by the brace state, the MEM key by the window, the lumbar step by its verdict. -/
theorem keysAndLumbarContactsAct : Obligations.KeysAndLumbarContactsAct := by
  unfold Obligations.KeysAndLumbarContactsAct
  intro s k l w b sc pressed released put key lumbar presses
  refine ⟨fun free => ⟨fun armed rested => ?_, fun early => ?_⟩, fun down => ?_, exec_keyRearm w, ?_, ⟨?_, fun p n code => ?_⟩,
    fun free => ?_, fun down => ?_, lumbarAct_eq, fun op r n plain support tag => ?_, fun active others => ?_⟩
  · have comes : exec (.keyPress k) s = .next (actOn s (pressKey b s.seat k)) :=
      pressEvent_works (c := .key k) w rfl free fun b t => pressKey b t k
    rw [pressKey_ready armed rested] at comes
    obtain ⟨idle, releasing, rest⟩ := actOn_actsByMode (s := s) (t := put s.seat (.key k) pressed) (act := .keyAct k)
    exact ⟨fun mode => comes.trans (congrArg Host.Outcome.next (idle mode)),
      fun mode => comes.trans (congrArg Host.Outcome.next (releasing mode)), fun mode => comes.trans (congrArg Host.Outcome.next (rest mode))⟩
  · refine (pressEvent_works (c := .key k) w rfl free fun b t => pressKey b t k).trans (congrArg Host.Outcome.next ?_)
    rw [pressKey_early early]
    exact actOn_nil ..
  · intro t u deadMan
    have comes : exec (.keyRelease k) s = .next (actOn s (release b (startRearm s.seat k) (.key k))) :=
      releaseEvent_works (c := .key k) w rfl down fun b t => release b (startRearm t k) (.key k)
    refine ⟨fun active holds => ?_, fun rest => ?_⟩
    · rw [comes, release_active (s := startRearm s.seat k) (c := .key k) active]
      exact congrArg (fun y => Host.Outcome.next (actOn s y)) (deadManEnds_holds holds)
    · rw [comes]
      refine .trans (congrArg (fun y => Host.Outcome.next (actOn s y)) ?_) (congrArg Host.Outcome.next (actOn_nil ..))
      by_cases active : key.cond = some .active
      · rw [release_active (s := startRearm s.seat k) (c := .key k) active]
        exact deadManEnds_free (rest.resolve_left (not_not.mpr active))
      · exact release_quiet (s := startRearm s.seat k) (c := .key k) active
  · exact (event_works w fun _ t => done (closeWindow t)).trans (congrArg Host.Outcome.next (actOn_nil ..))
  · rintro rfl
    rfl
  · have named : keySlot k = some p ∧ keyCode k = n := by
      rcases code with ⟨rfl, rfl, rfl⟩ | ⟨rfl, rfl, rfl⟩ | ⟨rfl, rfl, rfl⟩
      · exact ⟨rfl, rfl⟩
      · exact ⟨rfl, rfl⟩
      · exact ⟨rfl, rfl⟩
    obtain ⟨slot, number⟩ := named
    subst number
    have acts : runTask (.keyAct k) b s.seat = memAct b (keySeat s.seat k) k p := keyAct_mem slot
    refine ⟨fun window => ?_, fun window => ?_⟩
    · intro q moves full
      have movesIff : anyAxisMoves b.fit (closeWindow (keySeat s.seat k)) = true ↔ moves := anyAxisMoves_iff
      have fullIff : refusesLinkWrite (closeWindow (keySeat s.seat k)).store (.profile p Reset.profile) = true ↔ full :=
        refusesLinkWrite_iff ..
      refine ⟨fun h => ?_, fun rest room => ?_⟩
      · exact acts.trans (memAct_storeRefused window (storeRefusal_busy (h.imp movesIff.mpr fullIff.mpr)))
      · exact acts.trans (memAct_stores window (storeRefusal_none (mt movesIff.mp rest) (mt fullIff.mp room)))
    · intro q busy
      have busyIff : busyAxis b.fit (keySeat s.seat k) q = true ↔ busy := busyAxis_met
      refine ⟨fun empty => ?_, fun valid h => ?_, fun valid free => ?_⟩
      · exact acts.trans (memAct_recallRefused window (recallRefusal_empty empty))
      · exact acts.trans (memAct_recallRefused window ((recallRefusal_valid valid).trans (if_pos (busyIff.mpr h))))
      · exact acts.trans (memAct_recalls window ((recallRefusal_valid valid).trans (if_neg (mt busyIff.mp free))))
  · have comes : exec (.lumbarContactPress l) s = .next (actOn s (pressLumbar b s.seat l)) :=
      pressEvent_works (c := .lumbar l) w rfl free fun b t => pressLumbar b t l
    rw [pressLumbar_eq] at comes
    obtain ⟨idle, releasing, rest⟩ := actOn_actsByMode (s := s) (t := put s.seat (.lumbar l) pressed) (act := .lumbarAct l)
    exact ⟨fun mode => comes.trans (congrArg Host.Outcome.next (idle mode)),
      fun mode => comes.trans (congrArg Host.Outcome.next (releasing mode)), fun mode => comes.trans (congrArg Host.Outcome.next (rest mode))⟩
  · have comes : exec (.lumbarContactRelease l) s = .next (actOn s (release b s.seat (.lumbar l))) :=
      releaseEvent_works (c := .lumbar l) w rfl down fun b t => release b t (.lumbar l)
    refine ⟨fun active => ?_, fun quiet => ?_⟩
    · rw [comes, release_active active]
      exact congrArg Host.Outcome.next (actOn_nil ..)
    · rw [comes, release_quiet quiet]
      exact congrArg Host.Outcome.next (actOn_nil ..)
  · intro left waits
    have ended : runTask (.opResult op r) b s.seat = lumbarResult s.seat op.bladder n := by
      change handResult b s.seat op r = _
      unfold handResult
      rw [plain, support, tag] <;> rfl
    exact ⟨fun h => ended.trans (lumbarResult_ignored h), fun now h => ended.trans (lumbarResult_counts now h)⟩
  · intro off asks counted
    have only : activeLumbar s.seat = some l := activeLumbar_only active others
    refine ⟨fun refused => ?_, fun taken some => ?_, fun taken none => ?_⟩
    · exact (lumbarNext_refused only refused).trans (congrArg done (holdOff_active active))
    · exact (lumbarNext_taken only taken).trans (if_neg some)
    · intro g v aimed h
      have still : lumbarAsks s.seat.gallery l = [] := List.map_eq_nil_iff.mp none
      have step : lumbarStep (countedStep s.seat l) l (Option.some (s.seat.scanner.stepNo + 1)) = _ := lumbarStep_still still
      refine ((lumbarNext_taken only taken).trans (if_pos none)).trans ?_
      rw [step]
      exact congrArg (·, _) (holdOff_active (c := .lumbar l) active)

end Sys2Proof.Machine
end

section
/-! SUPPORT. The store queue and its copies, and what an accepted item calls for at once (R43, R133, R172, R176, R177). -/
namespace Sys2Proof.Machine

/-! ### The store queue and the copies (R176, R177) -/

section
variable {q : StoreQueue} {l : List RecordWrite}

/-- With its write made, the oldest entry begins. -/
theorem nextWrite_eq :
    nextWrite q =
      match q.queue with
      | [] => { queue := [], inFlight := none }
      | y :: rest => { queue := rest, inFlight := some y } := by
  unfold nextWrite startWrite
  cases q.queue <;> rfl

theorem startWrite_queue (h : q.inFlight.isSome = true) : startWrite { q with queue := l } = { q with queue := l } :=
  startWrite_waits _ h

theorem readCopies_writeCopy {α : Type} (c : Copies α) (x : α) : readCopies (writeCopy c x) = some x := by
  unfold writeCopy readCopies
  by_cases older : c.one.seq ≤ c.two.seq
  · simp only [older, if_true]
    rw [if_pos ⟨trivial, .inr (by omega)⟩]
  · simp only [older, if_false]
    rw [if_neg, if_pos trivial]
    rintro ⟨_, bad | newer⟩
    · exact bad trivial
    · omega

end

/-! ### Claims as they are now written (R43) -/

section
variable {b : Base} {s : Seat} {c d : Settings} {f : Fitment} {item index v w level : Nat} {k : Consumer} {z : Zone}

theorem changeAmount_held (h : holdsClaim s.alloc k = true) (amount : Nat) :
    changeAmount s k amount = ({ s with alloc := mapClaims s.alloc k fun x => { x with amount := amount } }, [.pass]) := if_pos h

theorem changeAmount_free (h : holdsClaim s.alloc k = false) (amount : Nat) : changeAmount s k amount = (s, []) :=
  if_neg (Bool.eq_false_iff.mp h)


theorem fanLevel_iff {x : Claim} :
    ((decide (x.consumer = .fan .c) || decide (x.consumer = .fan .b)) && decide (x.level = level)) = true ↔
      (x.consumer = .fan .c ∨ x.consumer = .fan .b) ∧ x.level = level := by
  rw [Bool.and_eq_true_iff, Bool.or_eq_true_iff, decide_eq_true_iff, decide_eq_true_iff, decide_eq_true_iff]

theorem atLevel_same {x : Claim} (h : x.level = level) : atLevel c level x = { x with amount := c.fanClaim.get level } := by
  rw [atLevel, ← h]

/-- The claims of the fans at a level, with the amount that the level now has. -/
theorem changeFanAmount_eq :
    changeFanAmount c s level =
      if (∃ x ∈ s.alloc.pending, (x.consumer = .fan .c ∨ x.consumer = .fan .b) ∧ x.level = level) ∨
          (∃ g ∈ s.alloc.granted, (g.claim.consumer = .fan .c ∨ g.claim.consumer = .fan .b) ∧ g.claim.level = level) then
        ({ s with alloc := { s.alloc with
            pending := s.alloc.pending.map fun x =>
              if (x.consumer = .fan .c ∨ x.consumer = .fan .b) ∧ x.level = level then { x with amount := c.fanClaim.get level } else x
            granted := s.alloc.granted.map fun g =>
              if (g.claim.consumer = .fan .c ∨ g.claim.consumer = .fan .b) ∧ g.claim.level = level then
                { g with claim := { g.claim with amount := c.fanClaim.get level } }
              else g } }, [.pass])
      else (s, []) := by
  have pending : (fun x : Claim => if (decide (x.consumer = .fan .c) || decide (x.consumer = .fan .b)) && decide (x.level = level)
      then atLevel c level x else x) =
      fun x => if (x.consumer = .fan .c ∨ x.consumer = .fan .b) ∧ x.level = level then { x with amount := c.fanClaim.get level } else x :=
    funext fun x => ite_congr (propext fanLevel_iff) (fun h => atLevel_same h.2) fun _ => rfl
  have granted : (fun g : Grant => if (decide (g.claim.consumer = .fan .c) || decide (g.claim.consumer = .fan .b)) &&
      decide (g.claim.level = level) then { g with claim := atLevel c level g.claim } else g) =
      fun g => if (g.claim.consumer = .fan .c ∨ g.claim.consumer = .fan .b) ∧ g.claim.level = level then
        { g with claim := { g.claim with amount := c.fanClaim.get level } } else g :=
    funext fun g => ite_congr (propext fanLevel_iff) (fun h => by rw [atLevel_same h.2]) fun _ => rfl
  unfold changeFanAmount
  dsimp only
  rw [pending, granted]
  refine if_congr ?_ rfl rfl
  simp only [Bool.or_eq_true_iff, List.any_eq_true, fanLevel_iff]

/-- Zone C raises its level-0 claim first. -/
theorem fanClaimWritten_zero :
    fanClaimWritten b s 0 =
      andThen (andThen (changeFanAmount b.cfg s 0) fun t => levelZeroClaim b t .c) fun t => levelZeroClaim b t .b := by
  unfold fanClaimWritten
  rw [if_pos rfl]
  have done_ (t : Seat) : (forEach [] (fun z u => levelZeroClaim b u z) t).2 = [] := rfl
  refine Prod.ext rfl ?_
  simp only [andThen_fst, andThen_snd, zoneOrder, forEach_cons, List.append_assoc, done_, List.append_nil]

theorem fanClaimWritten_level (on : level ≠ 0) : fanClaimWritten b s level = changeFanAmount b.cfg s level := if_neg on

theorem levelZeroClaim_on (on : (zoneOf s z).fan ≠ 0) : levelZeroClaim b s z = (s, []) := if_pos on

theorem levelZeroClaim_raises (off : (zoneOf s z).fan = 0) (claims : b.cfg.fanClaim.l0 ≠ 0)
    (free : holdsClaim s.alloc (.fan z) = false) :
    levelZeroClaim b s z = ({ s with alloc := arrive s.alloc (.fan z) 3 b.cfg.fanClaim.l0 0 }, [.pass]) := by
  unfold levelZeroClaim
  rw [if_neg (not_not.mpr (show (s.zones.get z).fan = 0 from off)), if_neg claims, free]
  rfl

/-! ### What an accepted item calls for (R172) -/

theorem written_fanClaim (h : writeItem f c 0x25 index v w = some d) : index ≤ 3 ∧ d.fanClaim.get index = v := by
  obtain ⟨⟨places, _⟩, e⟩ := Option.ite_none_right_eq_some.mp h
  cases e
  exact ⟨places, PerLevel.get_set_same places⟩

theorem written_axis {a : Axis} (h : writeItem f c 0x01 (axisCode a) v w = some d) : present f a = true := by
  obtain ⟨e, x, there, code, _⟩ := (writeItem_axis rfl).mp h
  have same : e = a := Option.some.inj ((axisOfCode_axisCode e).symm.trans (code ▸ axisOfCode_axisCode a))
  rwa [← same]

theorem written_stepDown (h : writeItem f c 0x57 index v w = some d) (code : (index = 0 ∧ z = Zone.c) ∨ (index = 1 ∧ z = Zone.b)) :
    (d.zone.get z).stepDown = v := by
  obtain ⟨y, x, known, hx, rfl⟩ := (writeItem_zone rfl rfl).mp h
  have same : y = z := Option.some.inj ((zoneOfCode_iff.mpr known).symm.trans (zoneOfCode_iff.mpr code))
  obtain ⟨_, e⟩ := Option.ite_none_right_eq_some.mp hx
  cases e
  rw [← same, setZoneCfg, PerZone.get_set_same]

/-- Most items take effect by being read later. -/
theorem itemEffect_other (h : item ∉ [0x01, 0x21, 0x22, 0x25, 0x26, 0x44, 0x57]) : itemEffect item index v b s = (s, []) := by
  unfold itemEffect
  split <;> first | exact absurd (by decide) h | rfl

theorem stepDownDue_iff {x : ZoneState} {zs : ZoneSettings} :
    stepDownDue zs x = true ↔ zs.stepDown ≠ 0 ∧ x.heat = 3 ∧ zs.stepDown * 60000 ≤ x.level3 := by
  unfold stepDownDue stepDownTime
  by_cases never : zs.stepDown = 0 <;> simp [never]

theorem itemEffect_stepDown (code : (index = 0 ∧ z = Zone.c) ∨ (index = 1 ∧ z = Zone.b)) :
    itemEffect 0x57 index v b s = if stepDownDue (b.cfg.zone.get z) (zoneOf s z) then stepDown s z else done s := by
  unfold itemEffect
  rw [zoneOfCode_iff.mpr code]
  rfl

theorem itemEffect_axis {a : Axis} (there : present b.fit a = true) :
    itemEffect 0x01 (axisCode a) v b s = changeAmount s (.axis a) v := by
  simp only [itemEffect, presentAxis_code there]

end

end Sys2Proof.Machine
end

section
/-! SUPPORT. The frames of WRITE CONFIG and SET VEHICLE STATE (R8, R171, R172). -/
namespace Sys2Proof.Machine

section
variable {s : State} {c : Settings} {item index v w : Nat}

theorem openFrame_settings (s : State) :
    (openFrame s).base.fit = s.base.fit ∧ (openFrame s).base.cfg = s.base.cfg ∧
      (openFrame s).base.link.vehicle = s.base.link.vehicle := by
  obtain ⟨l, vehicle, e⟩ := openFrame_base s
  rw [e]
  exact ⟨rfl, rfl, vehicle⟩

theorem passes_plain (mode : s.seat.brace.mode = .idle ∨ s.seat.brace.mode = .releasing) : passes s.seat.brace.mode .plain = true :=
  (passes_plain_iff _).mpr mode

/-! ### WRITE CONFIG (R172) -/

theorem exec_writeConfig_range (h : Works s) (mode : s.seat.brace.mode = .idle ∨ s.seat.brace.mode = .releasing)
    (bad : writeItem s.base.fit s.base.cfg item index v w = none) : exec (.writeConfig item index v w) s = .next (refused s .range) := by
  obtain ⟨fit, cfg, _⟩ := openFrame_settings s
  have answer : writeConfig item index v w (openFrame s) = (.range, openFrame s) := by
    rw [writeConfig, fit, cfg, bad]
  refine (comfort_run (act := writeConfig item index v w) h (passes_plain mode)).trans ?_
  rw [answer]
  rfl

theorem exec_writeConfig_busy (h : Works s) (mode : s.seat.brace.mode = .idle ∨ s.seat.brace.mode = .releasing)
    (good : writeItem s.base.fit s.base.cfg item index v w = some c)
    (full : refusesLinkWrite s.seat.store (.configuration c) = true) :
    exec (.writeConfig item index v w) s = .next (refused s .busy) := by
  obtain ⟨fit, cfg, _⟩ := openFrame_settings s
  have answer : writeConfig item index v w (openFrame s) = (.busy, openFrame s) := by
    rw [writeConfig, fit, cfg, good, openFrame_seat]
    exact if_pos full
  refine (comfort_run (act := writeConfig item index v w) h (passes_plain mode)).trans ?_
  rw [answer]
  rfl

/-- The state with new settings, once what they call for has been carried out and their record is queued. -/
def configured (s : State) (c : Settings) (y : Did) : State :=
  { s with
    base := { s.base with cfg := c },
    seat := { settled { s.base with cfg := c } y with
      store := enterWrite (settled { s.base with cfg := c } y).store (.configuration c) } }

theorem exec_writeConfig_takes (h : Works s) (mode : s.seat.brace.mode = .idle ∨ s.seat.brace.mode = .releasing)
    (good : writeItem s.base.fit s.base.cfg item index v w = some c)
    (room : ¬ refusesLinkWrite s.seat.store (.configuration c) = true) :
    exec (.writeConfig item index v w) s =
      .next (closeFrame (configured (openFrame s) c (itemEffect item index v { (openFrame s).base with cfg := c } s.seat)) .accepted []) := by
  obtain ⟨fit, cfg, _⟩ := openFrame_settings s
  have answer : writeConfig item index v w (openFrame s) =
      (.accepted, configured (openFrame s) c (itemEffect item index v { (openFrame s).base with cfg := c } s.seat)) := by
    rw [writeConfig, fit, cfg, good, ← openFrame_seat s]
    exact if_neg (by rw [openFrame_seat]; exact room)
  refine (comfort_run (act := writeConfig item index v w) h (passes_plain mode)).trans ?_
  rw [answer]

/-! ### SET VEHICLE STATE (R8, R171) -/

theorem vehicleOfCode_none (high : 2 ≤ v) : vehicleOfCode v = none := by
  unfold vehicleOfCode
  split
  · omega
  · omega
  · rfl

theorem exec_setVehicle_range (h : Works s) (mode : s.seat.brace.mode = .idle ∨ s.seat.brace.mode = .releasing) (high : 2 ≤ v) :
    exec (.setVehicleState v) s = .next (refused s .range) := by
  have answer : setVehicleState v (openFrame s) = (.range, openFrame s) := by
    rw [setVehicleState, vehicleOfCode_none high]
  refine (comfort_run (act := setVehicleState v) h (passes_plain mode)).trans ?_
  rw [answer]
  rfl

/-- The frame begun, with a new vehicle state. -/
def withVehicle (s : State) (n : Vehicle) : State := withLink (openFrame s) { (openFrame s).base.link with vehicle := n }

/-- A vehicle state that ends no learn run. -/
theorem exec_setVehicle_stays {n : Vehicle} (h : Works s) (mode : s.seat.brace.mode = .idle ∨ s.seat.brace.mode = .releasing)
    (code : vehicleOfCode v = some n) (stays : n = .parked ∨ s.base.link.vehicle = .moving) :
    exec (.setVehicleState v) s = .next (closeFrame (withVehicle s n) .accepted []) := by
  have answer : setVehicleState v (openFrame s) = (.accepted, withVehicle s n) := by
    rw [setVehicleState, code]
    refine if_neg ?_
    rintro ⟨rfl, parked⟩
    rw [(openFrame_settings s).2.2] at parked
    rcases stays with still | moving
    · exact Vehicle.noConfusion still
    · exact Vehicle.noConfusion (parked.symm.trans moving)
  refine (comfort_run (act := setVehicleState v) h (passes_plain mode)).trans ?_
  rw [answer]

/-- Acting on the axes that pass a test is acting on those that passed it at first, when each act changes its own axis alone. -/
theorem forEach_when {p : AxisState → Bool} {f : Axis → Seat → Did} (others : ∀ a c t, c ≠ a → axisOf (f a t).1 c = axisOf t c)
    {l : List Axis} (once : l.Nodup) (t : Seat) :
    forEach l (fun a u => if p (axisOf u a) = true then f a u else done u) t = forEach (l.filter fun a => p (axisOf t a)) f t := by
  induction l generalizing t with
  | nil => rfl
  | cons a rest ih =>
    obtain ⟨fresh, once⟩ := List.nodup_cons.mp once
    rw [forEach_cons]
    by_cases acts : p (axisOf t a) = true
    · have same : (rest.filter fun c => p (axisOf (f a t).1 c)) = rest.filter fun c => p (axisOf t c) :=
        List.filter_congr fun c hc => by rw [others a c t fun e => fresh (e ▸ hc)]
      rw [if_pos acts, List.filter_cons_of_pos (p := fun c => p (axisOf t c)) acts, forEach_cons]
      refine Prod.ext ?_ ?_
      · rw [andThen_fst, andThen_fst, ih once, same]
      · rw [andThen_snd, andThen_snd, ih once, same]
    · rw [if_neg acts, List.filter_cons_of_neg (p := fun c => p (axisOf t c)) acts, ← ih once]
      exact Prod.ext rfl (List.nil_append _)

/-- A vehicle that begins to move ends every learn run. -/
theorem exec_setVehicle_moves (h : Works s) (mode : s.seat.brace.mode = .idle ∨ s.seat.brace.mode = .releasing)
    (parked : s.base.link.vehicle = .parked) :
    exec (.setVehicleState 1) s =
      .next (closeFrame (actOn (withVehicle s .moving)
        (forEach ((presentIn s.base.fit axisOrder).filter fun a => decide ((axisOf s.seat a).learn ≠ .none))
          (fun a t => endMove (withVehicle s .moving).base t a .aborted false) s.seat)) .accepted []) := by
  obtain ⟨fit, _, vehicle⟩ := openFrame_settings s
  have ends : forEach (presentIn s.base.fit axisOrder) (endLearn (withVehicle s .moving).base) s.seat =
      forEach ((presentIn s.base.fit axisOrder).filter fun a => decide ((axisOf s.seat a).learn ≠ .none))
        (fun a t => endMove (withVehicle s .moving).base t a .aborted false) s.seat := by
    have whenLearning : endLearn (withVehicle s .moving).base = fun a t =>
        if decide ((axisOf t a).learn ≠ .none) = true then endMove (withVehicle s .moving).base t a .aborted false else done t :=
      funext fun a => funext fun t => if_congr decide_eq_true_iff.symm rfl rfl
    rw [whenLearning]
    exact forEach_when (p := fun x => decide (x.learn ≠ .none)) (fun a c t ne => (endMove_other _ t a c _ _ ne).1)
      (List.Nodup.filter _ (by decide)) s.seat
  have answer : setVehicleState 1 (openFrame s) =
      (.accepted, actOn (withVehicle s .moving)
        (forEach (presentIn s.base.fit axisOrder) (endLearn (withVehicle s .moving).base) s.seat)) := by
    rw [setVehicleState, vehicleOfCode, fit]
    rw [← openFrame_seat s]
    exact if_pos ⟨rfl, vehicle.trans parked⟩
  refine (comfort_run (act := setVehicleState 1) h (passes_plain mode)).trans ?_
  rw [answer, ends]

end

end Sys2Proof.Machine
end

section
/-! SUPPORT. A completed write, the end of PARKING and what stops in PARKED (R8, R62, R177, R180, R181). -/
namespace Sys2Proof.Machine

section
variable {b : Base} {s : Seat} {a : Axis} {r : AxisRecord}

/-! ### The owner is told (R8) -/

theorem raiseAxis_marked (marked : (axisOf s a).dirty ≠ .queued) :
    raiseAxis b s a = if isPending s.alloc (.axis a) = true then (s, []) else
      raiseClaim s (.axis a) (if (axisOf s a).owner = .brace then 0 else 1) (b.cfg.axis.get a).claim 0 := by
  unfold raiseAxis
  exact ite_congr rfl (fun _ => rfl) fun _ => if_neg fun both => marked both.1

theorem writeTold_axis :
    writeTold b s (.axis a r) =
      if r.clean = false ∧ (axisOf s a).dirty = .queued then
        if (axisOf s a).drive = .waitGrant ∧ isPending s.alloc (.axis a) = false then
          raiseClaim (markWritten s a) (.axis a) (if (axisOf s a).owner = .brace then 0 else 1) (b.cfg.axis.get a).claim 0
        else (markWritten s a, [])
      else (s, []) := by
  have mine : axisOf (markWritten s a) a = { axisOf s a with dirty := .marked } := PerAxis.get_set_same ..
  refine ite_congr rfl (fun _ => ?_) fun _ => rfl
  unfold raiseDeferred
  by_cases waits : (axisOf s a).drive = .waitGrant
  · rw [if_pos (by rw [mine]; exact waits), raiseAxis_marked (by rw [mine]; exact DirtyMark.noConfusion), mine]
    by_cases pending : isPending s.alloc (.axis a) = true
    · exact (if_pos pending).trans (if_neg fun both => Bool.noConfusion (pending.symm.trans both.2)).symm
    · exact (if_neg pending).trans (if_pos ⟨waits, Bool.eq_false_iff.mpr pending⟩).symm
  · rw [if_neg (by rw [mine]; exact waits), if_neg fun both => waits both.1]
    rfl

end

section
variable {s : State} {x : RecordWrite}

/-- The state with a write made and its place in flight free. -/
def written (s : State) (x : RecordWrite) : State :=
  { s with
    base := { s.base with records := writeRecord s.base.records x },
    seat := { s.seat with store := { s.seat.store with inFlight := none } } }

theorem completeWrite_eq :
    completeWrite s x =
      { written s x with
        seat := { settled (written s x).base (writeTold (written s x).base (written s x).seat x) with
          store := startWrite (settled (written s x).base (writeTold (written s x).base (written s x).seat x)).store } } := rfl

/-- A write that nobody waits for. -/
theorem completeWrite_plain (h : writeTold (written s x).base (written s x).seat x = ((written s x).seat, [])) :
    completeWrite s x =
      { s with
        base := { s.base with records := writeRecord s.base.records x },
        seat := { s.seat with store := nextWrite s.seat.store } } := by
  rw [completeWrite_eq, h, settled_nil]
  rfl

theorem exec_storeWriteComplete (h : s.seat.store.inFlight = some x) : exec .storeWriteComplete s = .next (writeCompletes s x) := by
  change execStoreWriteComplete s = _
  unfold execStoreWriteComplete
  rw [h]

theorem exec_storeWriteComplete_none (h : s.seat.store.inFlight = none) : exec .storeWriteComplete s = .next s := by
  change execStoreWriteComplete s = _
  unfold execStoreWriteComplete
  rw [h]

theorem writeCompletes_run (h : s.base.power = .run) : writeCompletes s x = completeWrite s x := by
  rw [writeCompletes, h]

theorem writeCompletes_parking (h : s.base.power = .parking) : writeCompletes s x = tryPark (completeWrite s x) := by
  rw [writeCompletes, h]

theorem writeCompletes_draining (h : s.base.power = .draining) : writeCompletes s x = drainWrite s x := by
  rw [writeCompletes, h]

theorem writeCompletes_asleep (h : s.base.power = .parked ∨ s.base.power = .off) : writeCompletes s x = s := by
  rcases h with e | e <;> rw [writeCompletes, e]

/-! ### The end of PARKING (R180) -/

theorem storeEmpty_iff {q : StoreQueue} : storeEmpty q = true ↔ q.queue = [] ∧ q.inFlight = none := by
  rw [storeEmpty, Bool.and_eq_true_iff, List.isEmpty_iff, Option.isNone_iff_eq_none]

theorem braceParks_iff {m : BraceMode} : braceParks m = true ↔ m = .idle ∨ m = .locked := by
  cases m <;> simp [braceParks]

theorem contactHolds_iff {t : Seat} {c : Contact} :
    contactHolds t c = true ↔ (contactOf t.scanner c).pressed = true ∧
      ((contactOf t.scanner c).cond = some .active ∨ (contactOf t.scanner c).cond = some .heldOff) := by
  simp [contactHolds]

theorem lineIsLow_iff {l : SafetyLine} : lineIsLow l = true ↔ l.low = true ∨ l.driving ≠ none := by
  rw [lineIsLow, Bool.or_eq_true_iff, Option.isSome_iff_ne_none]

/-- What makes a park BUSY. -/
theorem parkBusy_iff {b : Base} {t : Seat} :
    parkBusy b t = true ↔
      (∃ a, present b.fit a = true ∧ (axisOf t a).drive ≠ .idle) ∨ t.recallCtx ≠ none ∨ t.gallery.state ≠ .idle ∨ t.gallery.queue ≠ [] ∨
        t.engine.state ≠ .off ∨ (t.brace.mode ≠ .idle ∧ t.brace.mode ≠ .locked) ∨
        (∃ c, contactPresent b.fit c = true ∧ (contactOf t.scanner c).pressed = true ∧
          ((contactOf t.scanner c).cond = some .active ∨ (contactOf t.scanner c).cond = some .heldOff)) ∨
        b.line.low = true ∨ b.line.driving ≠ none := by
  have axes : (presentIn b.fit axisOrder).any (fun a => decide ((axisOf t a).drive ≠ .idle)) = true ↔
      ∃ a, present b.fit a = true ∧ (axisOf t a).drive ≠ .idle :=
    any_presentIn.trans (exists_congr fun a => and_congr_right fun _ => decide_eq_true_iff)
  have mode : (!braceParks t.brace.mode) = true ↔ t.brace.mode ≠ .idle ∧ t.brace.mode ≠ .locked := by
    rw [Bool.not_eq_true', Bool.eq_false_iff, ne_eq, braceParks_iff, not_or]
  have contacts : (contactOrder.filter (contactPresent b.fit)).any (contactHolds t) = true ↔
      ∃ c, contactPresent b.fit c = true ∧ (contactOf t.scanner c).pressed = true ∧
        ((contactOf t.scanner c).cond = some .active ∨ (contactOf t.scanner c).cond = some .heldOff) := by
    rw [List.any_eq_true]
    refine exists_congr fun c => ?_
    rw [List.mem_filter, contactHolds_iff, and_assoc]
    exact ⟨And.right, fun h => ⟨mem_contactOrder c, h⟩⟩
  unfold parkBusy
  simp only [Bool.or_eq_true_iff, axes, mode, contacts, lineIsLow_iff, Option.isSome_iff_ne_none, decide_eq_true_iff, Bool.not_eq_true',
    List.isEmpty_eq_false_iff, or_assoc]

theorem tryPark_waits (h : ¬ storeEmpty s.seat.store = true) : tryPark s = s := if_neg fun both => h both.2

theorem tryPark_abandons (parking : s.base.power = .parking) (empty : storeEmpty s.seat.store = true)
    (busy : parkBusy s.base s.seat = true) : tryPark s = withBase s { s.base with power := .run } :=
  (if_pos ⟨parking, empty⟩).trans (if_pos busy)

theorem tryPark_parks (parking : s.base.power = .parking) (empty : storeEmpty s.seat.store = true)
    (rest : ¬ parkBusy s.base s.seat = true) : tryPark s = enterParked s :=
  (if_pos ⟨parking, empty⟩).trans (if_neg rest)

end

/-! ### What stops in PARKED (R62, R136) -/

/-- A contact as PARKED leaves it. -/
def parkedContact (x : ContactState) : ContactState := if x.cond = some .stuck then { x with debounce := none } else Reset.contact

theorem parkContact_eq (s : Seat) (c : Contact) :
    parkContact s c = { s with scanner := putContact s.scanner c (parkedContact (contactOf s.scanner c)) } := by
  unfold parkContact parkedContact
  dsimp only
  split <;> rfl

theorem foldl_parkContact (l : List Contact) (s : Seat) :
    l.foldl parkContact s =
      { s with scanner := l.foldl (fun t c => putContact t c (parkedContact (contactOf t c))) s.scanner } := by
  induction l generalizing s with
  | nil => rfl
  | cons c rest ih => rw [List.foldl_cons, parkContact_eq, ih, List.foldl_cons]

theorem stopBlocks_eq (s : Seat) :
    ∃ sc : Scanner, (∀ c, contactOf sc c = parkedContact (contactOf s.scanner c)) ∧
      sc = { s.scanner with axes := sc.axes, lumbar := sc.lumbar, keys := sc.keys, window := none } ∧
      stopBlocks s =
        { s with
          scanner := sc, alloc := { s.alloc with stagger := none },
          zones := { c := { s.zones.c with sampleLeft := none }, b := { s.zones.b with sampleLeft := none } } } := by
  obtain ⟨axes, lumbar, keys, rest⟩ := foldl_putContact_rest parkedContact contactOrder (closeWindow s).scanner
  refine ⟨contactOrder.foldl (fun t c => putContact t c (parkedContact (contactOf t c))) (closeWindow s).scanner, fun c => ?_, ?_, ?_⟩
  · rw [contactOf_foldl_put _ _ contactOrder_nodup, if_pos (mem_contactOrder c)]
    exact congrArg parkedContact (contactOf_window ..)
  · rw [rest]
    rfl
  · unfold stopBlocks
    rw [foldl_parkContact]
    rfl

theorem enterParked_eq {s : State} {off quiet : Seat}
    (shed : settled s.base (andThen (climateOff s.base s.seat) releaseFans) = off) (stopped : stopBlocks off = quiet) :
    enterParked s =
      { s with
        base := { s.base with
          power := .parked, wakeLeft := some s.base.cfg.wakeInterval, hall := s.base.hall.map hallUnknown,
          monitor := { s.base.monitor with sampleLeft := none, settleLeft := none },
          link := { s.base.link with begun := false, captured := none } },
        seat := quiet } := by
  dsimp only [enterParked, actOn, withSeat, withBase]
  rw [shed, stopped]

end Sys2Proof.Machine
end

section
/-! SUPPORT. Configuration and writes as the statement lists them (R43, R171, R172, R177, R180, R181). -/
namespace Sys2Proof.Machine

/-- Settles O59: the queue by the entry that names the record, the item by what it calls for, the completed write by the power state. -/
theorem configurationAndWritesAreTaken : Obligations.ConfigurationAndWritesAreTaken := by
  unfold Obligations.ConfigurationAndWritesAreTaken
  refine ⟨fun q w => ?_, fun s item index v w => ?_⟩
  · intro same becomes
    have sameIff (x : RecordWrite) : same x ↔ sameRecord w x = true := by
      cases w <;> cases x <;> simp [same, sameRecord]
    have other {x : RecordWrite} (h : ¬ same x) : sameRecord w x = false := Bool.eq_false_iff.mpr (mt (sameIff x).mpr h)
    have begun {l : List RecordWrite} (e : enterWrite q w = startWrite { q with queue := l }) : becomes l :=
      ⟨fun busy => e.trans (startWrite_queue busy), fun o rest free first => e.trans (startWrite_begins _ o rest free first)⟩
    exact ⟨fun before x after entries named others =>
        begun (enterWrite_replaces q w x before after entries ((sameIff x).mp named) fun y hy => other (others y hy)),
      fun absent => begun (enterWrite_appends q w fun x hx => other (absent x hx))⟩
  · intro o
    refine ⟨fun works mode => ⟨exec_writeConfig_range works mode, fun c good => ?_, exec_setVehicle_range works mode, ?_⟩,
      exec_storeWriteComplete_none, fun x flight => ?_⟩
    · intro full b takes al claims
      have fullIff : refusesLinkWrite s.seat.store (.configuration c) = true ↔ full := refusesLinkWrite_iff ..
      refine ⟨fun h => exec_writeConfig_busy works mode good (fullIff.mpr h), fun room => ?_⟩
      have taken : takes (itemEffect item index v b s.seat) := exec_writeConfig_takes works mode good (mt fullIff.mp room)
      have calls {y : Did} (e : itemEffect item index v b s.seat = y) : takes y := e ▸ taken
      have fit : b.fit = s.base.fit := (openFrame_settings s).1
      refine ⟨taken, ?_, fun plain => calls (itemEffect_other plain), ?_, ?_, ?_, ?_, ?_, ?_, ?_⟩
      · rintro rfl rfl
        intro amounts
        have amount : c.fanClaim.get 0 = v := (written_fanClaim good).2
        have changed : changeFanAmount b.cfg s.seat 0 = amounts := by
          rw [changeFanAmount_eq, show b.cfg.fanClaim.get 0 = v from amount]
        exact calls ((fanClaimWritten_zero (b := b)).trans (by rw [changed]))
      · rintro (rfl | rfl)
        · exact calls rfl
        · exact calls rfl
      · rintro rfl
        exact calls rfl
      · rintro rfl
        exact ⟨fun held => calls (changeAmount_held held v), fun free => calls (changeAmount_free free v)⟩
      · rintro a rfl rfl
        have effect : itemEffect 0x01 (axisCode a) v b s.seat = changeAmount s.seat (.axis a) v :=
          itemEffect_axis (fit ▸ written_axis good)
        exact ⟨fun held => calls (effect.trans (changeAmount_held held v)), fun free => calls (effect.trans (changeAmount_free free v))⟩
      · rintro rfl on hit
        have effect : itemEffect 0x25 index v b s.seat = changeFanAmount b.cfg s.seat index := fanClaimWritten_level on
        rw [changeFanAmount_eq, show b.cfg.fanClaim.get index = v from (written_fanClaim good).2] at effect
        refine ⟨fun pending granted => calls (effect.trans (if_neg ?_)), fun some => calls (effect.trans (if_pos some))⟩
        rintro (⟨x, hx, hits⟩ | ⟨g, hg, hits⟩)
        · exact pending x hx hits
        · exact granted g hg hits
      · rintro rfl rfl free
        have amount : b.cfg.fanClaim.l0 = v := (written_fanClaim good).2
        have unheld (z : Zone) : ¬ ((∃ p ∈ al.pending, p.consumer = .fan z) ∨ ∃ g ∈ al.granted, g.claim.consumer = .fan z) :=
          fun held => Bool.eq_false_iff.mp (free z) (holdsClaim_iff.mpr held)
        have still : changeFanAmount b.cfg s.seat 0 = (s.seat, []) := by
          rw [changeFanAmount_eq, if_neg]
          rintro (⟨x, hx, at_ | at_, _⟩ | ⟨g, hg, at_ | at_, _⟩)
          · exact unheld .c (.inl ⟨x, hx, at_⟩)
          · exact unheld .b (.inl ⟨x, hx, at_⟩)
          · exact unheld .c (.inr ⟨g, hg, at_⟩)
          · exact unheld .b (.inr ⟨g, hg, at_⟩)
        have effect : itemEffect 0x25 0 v b s.seat =
            andThen (levelZeroClaim b s.seat .c) fun t => levelZeroClaim b t .b := by
          refine (fanClaimWritten_zero (b := b)).trans ?_
          rw [still]
          rfl
        refine ⟨fun none => calls ?_, fun z some off others => calls ?_⟩
        · have nothing (z : Zone) : levelZeroClaim b s.seat z = (s.seat, []) :=
            none.elim (fun on => levelZeroClaim_on (on z)) fun zero => levelZeroClaim_nothing (amount.trans zero) (free z)
          rw [effect, nothing .c]
          exact nothing .b
        · have raised : levelZeroClaim b s.seat z = ({ s.seat with alloc := arrive s.seat.alloc (.fan z) 3 v 0 }, [.pass]) := by
            rw [levelZeroClaim_raises off (amount ▸ some) (free z), amount]
          rw [effect]
          cases z with
          | c =>
            rw [raised]
            exact congrArg (fun y : Did => (y.1, [Task.pass] ++ y.2))
              (levelZeroClaim_on (s := { s.seat with alloc := arrive s.seat.alloc (.fan .c) 3 v 0 }) (others .b Zone.noConfusion))
          | b =>
            rw [levelZeroClaim_on (others .c Zone.noConfusion)]
            exact raised
      · rintro z rfl code
        intro due
        have effect : itemEffect 0x57 index v b s.seat = _ := itemEffect_stepDown (z := z) code
        have dueIff : stepDownDue (b.cfg.zone.get z) (zoneOf s.seat z) = true ↔ due := by
          rw [stepDownDue_iff, show (b.cfg.zone.get z).stepDown = v from written_stepDown good code]
        exact ⟨fun no => calls (effect.trans (if_neg (mt dueIff.mp no))),
          fun yes => calls (effect.trans ((if_pos (dueIff.mpr yes)).trans (stepDown_eq yes.2.1)))⟩
    · intro n code link u
      have known : vehicleOfCode v = some n := by
        rcases code with ⟨rfl, rfl⟩ | ⟨rfl, rfl⟩
        · rfl
        · rfl
      have moves (moving : n = .moving) (parked : s.base.link.vehicle = .parked) :
          exec (.setVehicleState v) s =
            .next (closeFrame (actOn u
              (forEach ((presentIn s.base.fit axisOrder).filter fun a => decide ((axisOf s.seat a).learn ≠ .none))
                (fun a t => endMove u.base t a .aborted false) s.seat)) .accepted []) := by
        subst moving
        obtain rfl : v = 1 := code.elim (fun h => Vehicle.noConfusion h.2) And.left
        exact exec_setVehicle_moves works mode parked
      refine ⟨fun quiet => ?_, fun moving parked => ?_⟩
      · by_cases stays : n = .parked ∨ s.base.link.vehicle = .moving
        · exact exec_setVehicle_stays works mode known stays
        · have begins : n = .moving ∧ s.base.link.vehicle = .parked := by
            cases n <;> cases e : s.base.link.vehicle <;> simp [e] at stays ⊢
          have resting := (quiet.resolve_left (not_or.mp stays).1).resolve_left (not_or.mp stays).2
          have none : (presentIn s.base.fit axisOrder).filter (fun a => decide ((axisOf s.seat a).learn ≠ .none)) = [] :=
            List.filter_eq_nil_iff.mpr fun a ha => by simpa using resting a (List.mem_filter.mp ha).2
          have unmoved : actOn u (s.seat, []) = u := by
            rw [actOn_nil, ← openFrame_seat s]
          rw [moves begins.1 begins.2, none]
          exact congrArg (fun t => Host.Outcome.next (closeFrame t .accepted [])) unmoved
      · intro learning
        have same : (presentIn s.base.fit axisOrder).filter (fun a => decide ((axisOf s.seat a).learn ≠ .none)) = learning := by
          rw [presentIn, List.filter_filter]
          refine List.filter_congr fun a _ => ?_
          rw [Bool.decide_and, Bool.and_comm, Bool.decide_eq_true]
        rw [moves moving parked, same]
    · intro records base rest next told t u y busy empty
      have toldEq : told = writeTold (written s x).base (written s x).seat x := by
        cases x with
        | axis a r => exact (writeTold_axis (b := (written s (.axis a r)).base) (s := (written s (.axis a r)).seat)).symm
        | profile | pattern | configuration | crashLock => rfl
      have completed : completeWrite s x = u := by
        rw [completeWrite_eq, ← toldEq]
        rfl
      have comes := exec_storeWriteComplete flight
      have nextEq : nextWrite s.seat.store = next := nextWrite_eq
      have busyIff : parkBusy u.base u.seat = true ↔ busy := parkBusy_iff
      have emptyIff : storeEmpty u.seat.store = true ↔ empty := storeEmpty_iff
      refine ⟨?_, ?_, ?_, ?_, ?_, fun power => ?_, fun plain => ?_,
        fun power => ⟨fun waits => ?_, fun done_ held => ?_, fun done_ free => ?_⟩,
        fun power => ?_, fun power => ?_⟩
      · rintro a r rfl
        exact (congrArg readCopies (PerAxis.get_set_same ..)).trans (readCopies_writeCopy ..)
      · rintro p r rfl
        exact (congrArg readCopies (PerProfile.get_set_same ..)).trans (readCopies_writeCopy ..)
      · rintro p r rfl
        exact (congrArg readCopies (PerPattern.get_set_same ..)).trans (readCopies_writeCopy ..)
      · rintro r rfl
        exact readCopies_writeCopy ..
      · rintro r rfl
        exact readCopies_writeCopy ..
      · rw [comes, writeCompletes_run power, completed]
      · have quiet : writeTold (written s x).base (written s x).seat x = ((written s x).seat, []) := by
          cases x with
          | axis a r =>
            rw [writeTold_axis, if_neg]
            rintro ⟨dirty, queued⟩
            exact (plain a r rfl).elim (fun clean => Bool.noConfusion (dirty.symm.trans clean)) fun ne => ne queued
          | profile | pattern | configuration | crashLock => rfl
        rw [← completed, completeWrite_plain quiet, nextEq]
      · rw [comes, writeCompletes_parking power, completed, tryPark_waits (mt emptyIff.mp waits)]
      · rw [comes, writeCompletes_parking power, completed, tryPark_abandons (s := u) power (emptyIff.mpr done_) (busyIff.mpr held)]
        rfl
      · intro off still
        obtain ⟨sc, contacts, others, stopped⟩ := stopBlocks_eq off
        refine ⟨sc, contacts, others, ?_⟩
        intro parked quiet
        rw [comes, writeCompletes_parking power, completed, tryPark_parks (s := u) power (emptyIff.mpr done_) (mt busyIff.mp free)]
        exact congrArg Host.Outcome.next (enterParked_eq (s := u) (off := off) (quiet := quiet) rfl stopped)
      · rw [comes, writeCompletes_draining power, drainWrite, nextEq]
        rfl
      · rw [comes, writeCompletes_asleep power]

end Sys2Proof.Machine
end

section
/-! SUPPORT. The records as a reset loads them, and what it calls for (R106, R122, R158, R182). -/
namespace Sys2Proof.Machine

section
variable {r : Records} {f : Fitment} {n : Notices} {a : Axis} {k j : PatternNo} {p : Patterns}

/-! ### The notices of defaulted records (R182) -/

/-- The notice of a record that is defaulted. -/
def notedIf (n : Notices) (bad : Bool) (about : Subject) (code : Nat) : Notices := if bad then defaulted n about code else n

theorem axisDefaulted_eq : axisDefaulted r n a = notedIf n (readCopies (r.axis.get a)).isNone (.axis a) 2 := by
  unfold axisDefaulted notedIf
  cases readCopies (r.axis.get a) <;> rfl

theorem profileDefaulted_eq (p : Retained4) :
    profileDefaulted r n p = notedIf n (readCopies (r.profile.get p)).isNone .none (profileCode p) := by
  unfold profileDefaulted notedIf
  cases readCopies (r.profile.get p) <;> rfl

theorem foldl_axisDefaulted :
    (presentIn f axisOrder).foldl (axisDefaulted r) n =
      axisOrder.foldl (fun n a => notedIf n (present f a && (readCopies (r.axis.get a)).isNone) (.axis a) 2) n := by
  rw [presentIn, List.foldl_filter]
  congr 1
  funext n a
  rw [axisDefaulted_eq]
  cases present f a <;> rfl

theorem foldl_profileDefaulted (l : List Retained4) (n : Notices) :
    l.foldl (profileDefaulted r) n =
      l.foldl (fun n p => notedIf n (readCopies (r.profile.get p)).isNone .none (profileCode p)) n := by
  congr 1
  funext n p
  exact profileDefaulted_eq p

/-! ### The patterns (R122) -/

/-- A pattern record that fits is placed behind those before it. -/
def placeLoaded (r : Records) (p : Patterns) (k : PatternNo) : Patterns :=
  match readCopies (r.pattern.get k) with
  | some (some steps) => if steps.length + p.steps.length ≤ stepStoreSize then placePattern p k steps else p
  | _ => p

/-- A pattern that its record should hold and that is absent. -/
def patternBad (r : Records) (p : Patterns) (k : PatternNo) : Bool :=
  decide (readCopies (r.pattern.get k) ≠ some none) && (p.directory.get k).isNone

theorem placeLoaded_other (ne : j ≠ k) : (placeLoaded r p k).directory.get j = p.directory.get j := by
  unfold placeLoaded
  split
  · split
    · exact PerPattern.get_set_ne _ _ ne
    · rfl
  · rfl

theorem foldl_placeLoaded_other {l : List PatternNo} (absent : j ∉ l) (p : Patterns) :
    (l.foldl (placeLoaded r) p).directory.get j = p.directory.get j := by
  induction l generalizing p with
  | nil => rfl
  | cons k rest ih =>
    obtain ⟨ne, absent⟩ := not_or.mp (mt List.mem_cons.mpr absent)
    rw [List.foldl_cons, ih absent, placeLoaded_other ne]

theorem loadPattern_eq (free : p.directory.get k = none) :
    loadPattern r (p, n) k = (placeLoaded r p k, notedIf n (patternBad r (placeLoaded r p k) k) (.pattern k) 7) := by
  unfold loadPattern placeLoaded patternBad
  cases record : readCopies (r.pattern.get k) with
  | none => simp [free, notedIf]
  | some held =>
    cases held with
    | none => simp [notedIf]
    | some steps =>
      dsimp only
      by_cases room : steps.length + p.steps.length ≤ stepStoreSize
      · rw [if_pos room, if_pos room]
        simp [placePattern, notedIf]
      · rw [if_neg room, if_neg room]
        simp [free, notedIf]

/-- The patterns are placed one after the other, and those that end absent although a record should hold them are noted. -/
theorem foldl_loadPattern {l : List PatternNo} (once : l.Nodup) (p : Patterns) (n : Notices)
    (free : ∀ k ∈ l, p.directory.get k = none) :
    l.foldl (loadPattern r) (p, n) =
      (l.foldl (placeLoaded r) p,
        l.foldl (fun n k => notedIf n (patternBad r (l.foldl (placeLoaded r) p) k) (.pattern k) 7) n) := by
  suffices general : ∀ (q : Patterns), (∀ k ∈ l, (q.directory.get k) = ((l.foldl (placeLoaded r) p).directory.get k)) →
      l.foldl (loadPattern r) (p, n) =
        (l.foldl (placeLoaded r) p, l.foldl (fun n k => notedIf n (patternBad r q k) (.pattern k) 7) n) from
    general _ fun _ _ => rfl
  induction l generalizing p n with
  | nil => exact fun _ _ => rfl
  | cons k rest ih =>
    intro q same
    obtain ⟨fresh, once⟩ := List.nodup_cons.mp once
    have mine : patternBad r q k = patternBad r (placeLoaded r p k) k := by
      rw [patternBad, same k List.mem_cons_self, List.foldl_cons, foldl_placeLoaded_other fresh, patternBad]
    have others : ∀ j ∈ rest, (placeLoaded r p k).directory.get j = none := fun j hj =>
      (placeLoaded_other fun e : j = k => fresh (e ▸ hj)).trans (free j (List.mem_cons_of_mem k hj))
    rw [List.foldl_cons, loadPattern_eq (free k List.mem_cons_self), ih once _ _ others q fun j hj => same j (List.mem_cons_of_mem k hj),
      List.foldl_cons, List.foldl_cons, mine]

theorem loaded_patterns :
    (loadRecords f r).patterns = patternOrder.foldl (placeLoaded r) emptyPatterns := by
  unfold loadRecords
  dsimp only
  rw [foldl_loadPattern (by decide) emptyPatterns _ fun k _ => PerPattern.get_all none k]

/-- The notices of a load, in its order. -/
theorem loaded_notices :
    (loadRecords f r).notices =
      (let parts := notedIf (notedIf Reset.notices (readCopies r.configuration).isNone .none 0) (readCopies r.crashLock).isNone .none 1
       let seats := axisOrder.foldl (fun n a => notedIf n (present f a && (readCopies (r.axis.get a)).isNone) (.axis a) 2) parts
       let slots := [Retained4.p1, .p2, .p3, .p4].foldl
         (fun n p => notedIf n (readCopies (r.profile.get p)).isNone .none (profileCode p)) seats
       patternOrder.foldl
         (fun n k => notedIf n (patternBad r (patternOrder.foldl (placeLoaded r) emptyPatterns) k) (.pattern k) 7) slots) := by
  unfold loadRecords
  dsimp only
  rw [foldl_loadPattern (by decide) emptyPatterns _ fun k _ => PerPattern.get_all none k, foldl_axisDefaulted, foldl_profileDefaulted]
  rfl

theorem loaded_axis {x : AxisRecord} (there : present f a = true) (record : readCopies (r.axis.get a) = some x) :
    (loadRecords f r).axes.get a = loadedAxis x := by
  unfold loadRecords
  dsimp only
  rw [tabulate_get, loadAxis, if_pos there, record]

theorem fresh_axis (there : present f a = true) (record : readCopies (r.axis.get a) = none) :
    (loadRecords f r).axes.get a = freshAxis ((readCopies r.configuration).getD defaultSettings) a := by
  unfold loadRecords
  dsimp only
  rw [tabulate_get, loadAxis, if_pos there, record]

end

/-! ### What a reset calls for (R40, R106) -/

section
variable {b : Base} {l : Loaded}

theorem zoneOf_resetSeat (z : Zone) : (zoneOf (resetSeat l) z).fan = 0 := by cases z <;> rfl

theorem forEach_bothZones (f : Zone → Seat → Did) (s : Seat) :
    forEach zoneOrder f s = ((f .b (f .c s).1).1, (f .c s).2 ++ (f .b (f .c s).1).2) := rfl

theorem holdsClaim_resetAlloc (c : Consumer) : holdsClaim Reset.alloc c = false := rfl

theorem afterReset_serves (free : b.cfg.fanClaim.l0 = 0) : afterReset b (resetSeat l) = (resetSeat l, [.serve]) := by
  have quiet : forEach zoneOrder (fun z t => levelZeroClaim b t z) (resetSeat l) = (resetSeat l, []) :=
    forEach_nothing _ _ _ fun z _ => levelZeroClaim_nothing free (holdsClaim_resetAlloc (.fan z))
  unfold afterReset
  rw [quiet]
  rfl

/-- The allocator once both fans at level 0 have raised their claims, zone C first. -/
def fansClaimed (amount : Nat) : Alloc :=
  { Reset.alloc with
    pending := [{ consumer := .fan .c, cls := 3, amount := amount, arrival := 0, level := 0 },
      { consumer := .fan .b, cls := 3, amount := amount, arrival := 1, level := 0 }],
    nextArrival := 2 }

theorem afterReset_claims (claims : b.cfg.fanClaim.l0 ≠ 0) :
    afterReset b (resetSeat l) = ({ resetSeat l with alloc := fansClaimed b.cfg.fanClaim.l0 }, [.pass, .pass, .serve]) := by
  have first : levelZeroClaim b (resetSeat l) .c =
      ({ resetSeat l with alloc := arrive Reset.alloc (.fan .c) 3 b.cfg.fanClaim.l0 0 }, [.pass]) :=
    levelZeroClaim_raises (zoneOf_resetSeat .c) claims (holdsClaim_resetAlloc _)
  have second : levelZeroClaim b { resetSeat l with alloc := arrive Reset.alloc (.fan .c) 3 b.cfg.fanClaim.l0 0 } .b =
      ({ resetSeat l with alloc := fansClaimed b.cfg.fanClaim.l0 }, [.pass]) :=
    levelZeroClaim_raises (s := { resetSeat l with alloc := arrive Reset.alloc (.fan .c) 3 b.cfg.fanClaim.l0 0 })
      (zoneOf_resetSeat (l := l) .b) claims rfl
  have both : forEach zoneOrder (fun z t => levelZeroClaim b t z) (resetSeat l) =
      ({ resetSeat l with alloc := fansClaimed b.cfg.fanClaim.l0 }, [.pass, .pass]) := by
    refine (forEach_bothZones _ _).trans ?_
    rw [first]
    exact congrArg (fun y : Did => (y.1, [Task.pass] ++ y.2)) second
  unfold afterReset
  rw [both]
  rfl

/-- Hand-overs that end at the first one, and the one that it calls for, with nothing more. -/
theorem settled_two {s t : Seat} {i j : Task} (first : runTask i b s = (t, [j])) (second : runTask j b t = (t, []))
    (plain : i ≠ .pass) (calls : j ≠ .pass) : settled b (s, [i]) = t := by
  have counted : fuel = 999999999998 + 1 + 1 := rfl
  unfold settled
  rw [counted, settle_cons _ _ _ _ _ fun e => plain e.1, first]
  refine (settle_cons _ _ _ _ _ fun e => calls e.1).trans ?_
  rw [second]
  exact settle_nil ..

/-- The first of the seeding operations, in flight. -/
def seedingBegun (b : Base) : Gallery :=
  { Reset.gallery Reset.seeding.tail with
    state := .venting, inFlight := some { Reset.seedVent .m1 with bursts := 1 }, burstLeft := some b.cfg.burstTime }

theorem settled_resetSeat : settled b (resetSeat l, [.serve]) = { resetSeat l with gallery := seedingBegun b } := by
  have later : ¬ doneAtOnce b.cfg.tolerance (Reset.seedVent .m1) (Reset.bladder) = true := by
    rw [doneAtOnce_iff]
    rintro ⟨p, measured, _⟩
    exact nomatch measured
  have service : beginService b { resetSeat l with gallery := Reset.gallery Reset.seeding.tail } (Reset.seedVent .m1) =
      ({ resetSeat l with gallery := seedingBegun b }, []) :=
    (beginService_burst OpKind.noConfusion later).trans (beginBurst_vent rfl)
  refine settled_two (i := .serve) (j := .engineRetry) ?_
    (engineRetry_rests (s := { resetSeat l with gallery := seedingBegun b }) (.inl rfl)) Task.noConfusion Task.noConfusion
  refine (serve_head (b := b) (s := resetSeat l) (op := Reset.seedVent .m1) (rest := Reset.seeding.tail) rfl rfl rfl).trans ?_
  exact congrArg (fun y : Did => (y.1, y.2 ++ [Task.engineRetry])) service

end

end Sys2Proof.Machine
end

section
/-! SUPPORT. PARK, the wake-interval instants and the loss of power (R62, R176, R180, R181). -/
namespace Sys2Proof.Machine

/-! ### A write cut short (R176) -/

/-- The copy that a write cut short leaves is the one to be read, when it is the newer and good. -/
theorem readCopies_cutCopy {α : Type} (c : Copies α)
    (h : c.one.seq < c.two.seq ∧ c.two.good = true ∨ c.two.seq < c.one.seq ∧ c.one.good = true) :
    readCopies (cutCopy c) = readCopies c := by
  unfold cutCopy readCopies
  rcases h with ⟨newer, good⟩ | ⟨newer, good⟩
  · simp [newer.le, good, Nat.not_le.mpr newer]
  · simp [newer.le, good, Nat.not_le.mpr newer]

theorem lose_records {s : State} {x : RecordWrite} (flight : s.seat.store.inFlight = some x) :
    (lose s).base.records = cutRecord s.base.records x := by
  unfold lose
  rw [flight]
  rfl

theorem lose_records_idle {s : State} (idle : s.seat.store.inFlight = none) : (lose s).base.records = s.base.records := by
  unfold lose
  rw [idle]
  rfl

/-! ### PARK (R180) -/

theorem queueClean_eq (s : Seat) (a : Axis) :
    queueClean s a =
      { s with
        axes := s.axes.set a { axisOf s a with dirty := .notMarked },
        store := enterWrite s.store (.axis a (recordOf (axisOf s a) true)) } := rfl

theorem foldl_queueClean {l : List Axis} (once : l.Nodup) (s : Seat) :
    ∃ axes : PerAxis AxisState,
      (∀ a, axes.get a = if a ∈ l then { axisOf s a with dirty := .notMarked } else axisOf s a) ∧
      l.foldl queueClean s =
        { s with axes := axes, store := l.foldl (fun q a => enterWrite q (.axis a (recordOf (axisOf s a) true))) s.store } := by
  induction l generalizing s with
  | nil => exact ⟨s.axes, fun _ => rfl, rfl⟩
  | cons a rest ih =>
    obtain ⟨fresh, once⟩ := List.nodup_cons.mp once
    obtain ⟨axes, gets, folded⟩ := ih once (queueClean s a)
    have others {c : Axis} (ne : c ≠ a) : axisOf (queueClean s a) c = axisOf s c := PerAxis.get_set_ne _ _ ne
    refine ⟨axes, fun c => ?_, ?_⟩
    · rw [gets c]
      by_cases here : c = a
      · subst here
        rw [if_neg fresh, if_pos List.mem_cons_self]
        exact PerAxis.get_set_same ..
      · rw [others here]
        simp only [List.mem_cons, here, false_or]
    · have queued : rest.foldl (fun q c => enterWrite q (.axis c (recordOf (axisOf (queueClean s a) c) true))) (queueClean s a).store =
          rest.foldl (fun q c => enterWrite q (.axis c (recordOf (axisOf s c) true))) (queueClean s a).store :=
        List.foldl_ext _ _ _ fun q c hc => by rw [others fun e : c = a => fresh (e ▸ hc)]
      rw [List.foldl_cons, folded, queued]
      rfl

theorem acceptPark_eq {s : State} {b : Base} {t u : Seat} (vehicle : b = { s.base with link := { s.base.link with vehicle := .parked } })
    (off : settled b (climateOff b s.seat) = t) (ceiling : settled b (setCeiling t b.cfg.parkCeiling) = u) :
    acceptPark s =
      { s with base := { b with power := .parking }, seat := (presentIn b.fit axisOrder).foldl queueClean (closeWindow u) } := by
  subst vehicle
  dsimp only [acceptPark, actOn, withSeat, withBase]
  rw [off, ceiling]

section
variable {s : State}

theorem passes_lockTaken (mode : s.seat.brace.mode = .idle ∨ s.seat.brace.mode = .releasing ∨ s.seat.brace.mode = .locked) :
    passes s.seat.brace.mode .lockTaken = true := by
  rcases mode with e | e | e <;> rw [e] <;> rfl

/-- The conditions of BUSY do not read the link. -/
theorem parkBusy_openFrame : parkBusy (openFrame s).base (openFrame s).seat = parkBusy s.base s.seat := by
  obtain ⟨l, _, e⟩ := openFrame_base s
  rw [e, openFrame_seat]
  rfl

theorem openFrame_power : (openFrame s).base.power = s.base.power := by
  obtain ⟨l, _, e⟩ := openFrame_base s
  rw [e]

theorem exec_park {r : Result} {t : State} (h : Works s)
    (mode : s.seat.brace.mode = .idle ∨ s.seat.brace.mode = .releasing ∨ s.seat.brace.mode = .locked)
    (answer : park (openFrame s) = (r, t)) : exec .park s = .next (closeFrame t r []) := by
  refine (comfort_run (act := park) h (passes_lockTaken mode)).trans ?_
  rw [answer]

theorem park_parking (parking : s.base.power = .parking) : park (openFrame s) = (.accepted, openFrame s) := by
  have power : (openFrame s).base.power = .parking := openFrame_power.trans parking
  unfold park
  rw [if_neg fun both => both.2 power, if_pos power]

theorem park_busy (run : s.base.power = .run) (busy : parkBusy s.base s.seat = true) : park (openFrame s) = (.busy, openFrame s) := by
  have power : (openFrame s).base.power = .run := openFrame_power.trans run
  exact if_pos ⟨parkBusy_openFrame.trans busy, fun parking => Power.noConfusion (power.symm.trans parking)⟩

theorem park_accepted (run : s.base.power = .run) (rest : ¬ parkBusy s.base s.seat = true) :
    park (openFrame s) = (.accepted, acceptPark (openFrame s)) := by
  have power : (openFrame s).base.power = .run := openFrame_power.trans run
  unfold park
  rw [if_neg fun both => rest (parkBusy_openFrame.symm.trans both.1), if_neg fun parking => Power.noConfusion (power.symm.trans parking)]

end

/-! ### Contacts changed one after the other (R62) -/

theorem contactOf_foldl_putEach (f : Contact → ContactState → ContactState) {l : List Contact} (once : l.Nodup) (sc : Scanner)
    (e : Contact) :
    contactOf (l.foldl (fun t c => putContact t c (f c (contactOf t c))) sc) e =
      if e ∈ l then f e (contactOf sc e) else contactOf sc e := by
  induction l generalizing sc with
  | nil => rfl
  | cons c rest ih =>
    obtain ⟨fresh, once⟩ := List.nodup_cons.mp once
    rw [List.foldl_cons, ih once, contactOf_putContact]
    by_cases here : e = c
    · simp [here, fresh]
    · simp [here]

theorem foldl_putEach_rest (f : Contact → ContactState → ContactState) (l : List Contact) (sc : Scanner) :
    ∃ a u k, l.foldl (fun t c => putContact t c (f c (contactOf t c))) sc = { sc with axes := a, lumbar := u, keys := k } := by
  induction l generalizing sc with
  | nil => exact ⟨_, _, _, rfl⟩
  | cons c rest ih =>
    obtain ⟨a, u, k, e⟩ := ih (putContact sc c (f c (contactOf sc c)))
    exact ⟨a, u, k, by rw [List.foldl_cons, e]; cases c <;> rfl⟩

/-- A contact as an instant that finds RUN leaves it. -/
def secondRead (n : Nat) (closed : List Contact) (c : Contact) (x : ContactState) : ContactState :=
  if c ∈ closed ∧ x.pressed = false ∧ x.closed = false then { x with closed := true, debounce := some n } else x

theorem measureSecond_eq (b : Base) (closed : List Contact) (s : Seat) (c : Contact) :
    measureSecond b closed s c =
      { s with scanner := putContact s.scanner c (secondRead b.cfg.debounce closed c (contactOf s.scanner c)) } := by
  have test : (closed.contains c = true ∧ ¬ (contactOf s.scanner c).pressed = true ∧ ¬ (contactOf s.scanner c).closed = true) ↔
      (c ∈ closed ∧ (contactOf s.scanner c).pressed = false ∧ (contactOf s.scanner c).closed = false) := by
    rw [List.contains_iff_mem, Bool.not_eq_true, Bool.not_eq_true]
  unfold measureSecond secondRead
  dsimp only
  by_cases measured : c ∈ closed ∧ (contactOf s.scanner c).pressed = false ∧ (contactOf s.scanner c).closed = false
  · rw [if_pos (test.mpr measured), if_pos measured, levelChange, measured.2.1]
    rfl
  · rw [if_neg (mt test.mp measured), if_neg measured, putContact_self]

theorem foldl_measureSecond (b : Base) (closed : List Contact) (l : List Contact) (s : Seat) :
    l.foldl (measureSecond b closed) s =
      { s with scanner :=
          l.foldl (fun t c => putContact t c (secondRead b.cfg.debounce closed c (contactOf t c))) s.scanner } := by
  induction l generalizing s with
  | nil => rfl
  | cons c rest ih => rw [List.foldl_cons, measureSecond_eq, ih, List.foldl_cons]

/-- A contact as an instant in PARKED reads it. -/
def instantRead (closed : List Contact) (c : Contact) (x : ContactState) : ContactState :=
  if x.cond = some .stuck ∧ c ∉ closed then Reset.contact else { x with closed := decide (c ∈ closed) }

/-- A key that an instant arms again: STUCK, and read open. -/
def rearmed (closed : List Contact) (sc : Scanner) (k : Key) : Bool :=
  decide ((contactOf sc (.key k)).cond = some .stuck ∧ Contact.key k ∉ closed)

section
variable {closed : List Contact} {s : Seat} {c e : Contact} {k : Key}

theorem instantContact_seat : ∃ sc, instantContact closed s c = { s with scanner := sc } := by
  unfold instantContact
  dsimp only
  split
  · cases c <;> exact ⟨_, rfl⟩
  · exact ⟨_, rfl⟩

theorem foldl_instantContact_seat (l : List Contact) (s : Seat) : ∃ sc, l.foldl (instantContact closed) s = { s with scanner := sc } := by
  induction l generalizing s with
  | nil => exact ⟨_, rfl⟩
  | cons c rest ih =>
    obtain ⟨sc, first⟩ := instantContact_seat (closed := closed) (s := s) (c := c)
    obtain ⟨sc', after⟩ := ih { s with scanner := sc }
    exact ⟨sc', by rw [List.foldl_cons, first, after]⟩

theorem lost_iff :
    (contactOf s.scanner c).cond = some .stuck ∧ ¬ closed.contains c = true ↔
      (contactOf s.scanner c).cond = some .stuck ∧ c ∉ closed :=
  and_congr_right fun _ => not_congr List.contains_iff_mem

theorem instantContact_contactOf :
    contactOf (instantContact closed s c).scanner e =
      if e = c then instantRead closed c (contactOf s.scanner c) else contactOf s.scanner e := by
  have contained : closed.contains c = decide (c ∈ closed) := Bool.eq_iff_iff.mpr (List.contains_iff_mem.trans decide_eq_true_iff.symm)
  unfold instantContact instantRead
  dsimp only
  by_cases lost : (contactOf s.scanner c).cond = some .stuck ∧ c ∉ closed
  · rw [if_pos (lost_iff.mpr lost), if_pos lost, ← contactOf_putContact]
    cases c with
    | key k => cases e <;> rfl
    | axis | lumbar => rfl
  · rw [if_neg (mt lost_iff.mp lost), if_neg lost, ← contactOf_putContact, contained]
    rfl

theorem withContact_armed (x : ContactState) : (withContact s c x).scanner.armed = s.scanner.armed := by
  cases c <;> rfl

theorem instantContact_armed :
    (instantContact closed s c).scanner.armed.get k =
      (s.scanner.armed.get k || (decide (c = .key k) && rearmed closed s.scanner k)) := by
  unfold instantContact rearmed
  dsimp only
  by_cases lost : (contactOf s.scanner c).cond = some .stuck ∧ c ∉ closed
  · rw [if_pos (lost_iff.mpr lost)]
    cases c with
    | key j =>
      dsimp only
      rw [PerKey.get_put, withContact_armed]
      by_cases same : k = j
      · subst same
        simp [lost]
      · simp [same, Ne.symm same]
    | axis | lumbar =>
      dsimp only
      rw [withContact_armed]
      simp
  · rw [if_neg (mt lost_iff.mp lost), withContact_armed]
    by_cases same : c = .key k
    · subst same
      simp [lost]
    · simp [same]

theorem foldl_instantContact_contactOf {l : List Contact} (once : l.Nodup) (s : Seat) :
    contactOf (l.foldl (instantContact closed) s).scanner e =
      if e ∈ l then instantRead closed e (contactOf s.scanner e) else contactOf s.scanner e := by
  induction l generalizing s with
  | nil => rfl
  | cons c rest ih =>
    obtain ⟨fresh, once⟩ := List.nodup_cons.mp once
    rw [List.foldl_cons, ih once, instantContact_contactOf]
    by_cases here : e = c
    · simp [here, fresh]
    · simp [here]

theorem foldl_instantContact_armed {l : List Contact} (once : l.Nodup) (s : Seat) :
    (l.foldl (instantContact closed) s).scanner.armed.get k =
      (s.scanner.armed.get k || (decide (Contact.key k ∈ l) && rearmed closed s.scanner k)) := by
  induction l generalizing s with
  | nil => simp
  | cons c rest ih =>
    obtain ⟨fresh, once⟩ := List.nodup_cons.mp once
    rw [List.foldl_cons, ih once, instantContact_armed]
    by_cases here : c = .key k
    · simp [here, here ▸ fresh]
    · have kept : rearmed closed (instantContact closed s c).scanner k = rearmed closed s.scanner k := by
        rw [rearmed, instantContact_contactOf, if_neg (Ne.symm here), rearmed]
      rw [kept]
      simp [here, Ne.symm here]

end

/-! ### The instants (R181) -/

section
variable {s : State} {closed : List Contact} {mv : Nat}

theorem watched_parked (parked : s.base.power = .parked) (c : Contact) :
    c ∈ watchedContacts s.base true ↔ contactPresent s.base.fit c = true := by
  unfold watchedContacts contactWatched
  rw [List.mem_filter, Bool.and_eq_true_iff, parked]
  exact ⟨fun h => h.2.1, fun h => ⟨mem_contactOrder c, h, rfl⟩⟩

theorem watched_works (h : Works s) (c : Contact) :
    c ∈ watchedContacts s.base false ↔ contactPresent s.base.fit c = true := by
  unfold watchedContacts contactWatched
  rw [List.mem_filter, Bool.and_eq_true_iff, pullUp_works h]
  exact ⟨fun h => h.2.1, fun h => ⟨mem_contactOrder c, h, rfl⟩⟩

theorem contactWakes_iff (parked : s.base.power = .parked) :
    contactWakes s closed = true ↔
      ∃ c, c ∈ closed ∧ contactPresent s.base.fit c = true ∧ (contactOf s.seat.scanner c).cond ≠ some .stuck := by
  unfold contactWakes
  rw [List.any_eq_true]
  refine exists_congr fun c => ?_
  rw [watched_parked parked, wakesPart, Bool.and_eq_true_iff, List.contains_iff_mem, decide_eq_true_iff]
  exact and_left_comm

theorem readInstant_base :
    (readInstant s closed mv).base = { s.base with monitor := { takeSample s.base.monitor mv with sampleLeft := none } } := rfl

/-- The seat of an instant that leaves the monitor state as it is. -/
theorem readInstant_seat (same : (takeSample s.base.monitor mv).state = s.base.monitor.state) :
    (readInstant s closed mv).seat = (watchedContacts s.base true).foldl (instantContact closed) s.seat := by
  unfold readInstant
  rw [supplySample_same (s := withSeat s ((watchedContacts s.base true).foldl (instantContact closed) s.seat)) rfl same]
  rfl

end

end Sys2Proof.Machine
end

section
/-! SUPPORT. The resets and the instants as the statement lists them (R62, R176, R180 to R183). -/
namespace Sys2Proof.Machine

/-! ### The part after a reset (R106, R182) -/

section
variable {s : State} {f : Fitment} {high : Bool} {r : Records}

theorem resetPart_serves (free : ((readCopies r.configuration).getD defaultSettings).fanClaim.l0 = 0) :
    (resetPart s f high r).seat =
      { resetSeat (loadRecords f r) with gallery := seedingBegun (resetBase f high r (loadRecords f r)) } := by
  have after := afterReset_serves (b := resetBase f high r (loadRecords f r)) (l := loadRecords f r) free
  dsimp only [resetPart]
  rw [after, settled_resetSeat]

theorem resetPart_claims (claims : ((readCopies r.configuration).getD defaultSettings).fanClaim.l0 ≠ 0) :
    (resetPart s f high r).seat =
      settled (resetBase f high r (loadRecords f r))
        ({ resetSeat (loadRecords f r) with
            alloc := fansClaimed ((readCopies r.configuration).getD defaultSettings).fanClaim.l0 }, [.pass, .pass, .serve]) := by
  have after := afterReset_claims (b := resetBase f high r (loadRecords f r)) (l := loadRecords f r) claims
  dsimp only [resetPart]
  rw [after]
  rfl

end

/-! ### The contacts at an instant in PARKED (R62, R181) -/

section
variable {s : State} {closed : List Contact} {mv : Nat}

theorem watchedContacts_once (b : Base) (atInstant : Bool) : (watchedContacts b atInstant).Nodup := contactOrder_nodup.filter _

theorem wakeInstant_wakes (h : contactWakes s closed = true) : wakeInstant s closed mv = wake (readInstant s closed mv) := if_pos h

theorem wakeInstant_sleeps (h : ¬ contactWakes s closed = true) :
    wakeInstant s closed mv =
      withBase (readInstant s closed mv) { (readInstant s closed mv).base with wakeLeft := some s.base.cfg.wakeInterval } := if_neg h

theorem wakeInstant_keeps :
    (wakeInstant s closed mv).base.link = s.base.link ∧ (wakeInstant s closed mv).base.cfg = s.base.cfg ∧
      (wakeInstant s closed mv).base.records = s.base.records := by
  by_cases wakes : contactWakes s closed = true
  · rw [wakeInstant_wakes wakes]
    exact ⟨rfl, rfl, rfl⟩
  · rw [wakeInstant_sleeps wakes]
    exact ⟨rfl, rfl, rfl⟩

theorem readInstant_alloc (same : (takeSample s.base.monitor mv).state = s.base.monitor.state) :
    (readInstant s closed mv).seat.alloc = s.seat.alloc := by
  obtain ⟨sc, seat⟩ := foldl_instantContact_seat (closed := closed) (watchedContacts s.base true) s.seat
  rw [readInstant_seat same, seat]

/-- The seat of a wake at an instant, when no fan claims at level 0 and the monitor state stands. -/
theorem wake_readInstant (same : (takeSample s.base.monitor mv).state = s.base.monitor.state) (free : s.base.cfg.fanClaim.l0 = 0)
    (none : ∀ z, holdsClaim s.seat.alloc (.fan z) = false) :
    (wake (readInstant s closed mv)).seat =
      measureContacts (wakeBase (readInstant s closed mv).base)
        (wakeSeat s.base.cfg ((watchedContacts s.base true).foldl (instantContact closed) s.seat)) := by
  rw [wake_seat (s := readInstant s closed mv) free fun z => by rw [readInstant_alloc same]; exact none z, readInstant_seat same]
  rfl

/-- A contact as an instant leaves it, after the wake that it may cause. -/
def instantLeft (n : Nat) (closed : List Contact) (c : Contact) (x : ContactState) : ContactState :=
  if x.cond = some .stuck then if c ∈ closed then { x with closed := true } else Reset.contact
  else if c ∈ closed then { x with closed := true, debounce := some n }
  else { x with closed := false }

theorem remeasured_instantRead (n : Nat) (c : Contact) (x : ContactState) :
    remeasured n (instantRead closed c x) = instantLeft n closed c x := by
  unfold instantRead instantLeft remeasured
  by_cases stuck : x.cond = some .stuck
  · by_cases shut : c ∈ closed
    · simp [stuck, shut]
    · simp [stuck, shut, Reset.contact]
  · by_cases shut : c ∈ closed
    · simp [stuck, shut]
    · simp [stuck, shut]

theorem instantRead_asleep {n : Nat} {c : Contact} {x : ContactState} (quiet : c ∈ closed → x.cond = some .stuck) :
    instantRead closed c x = instantLeft n closed c x := by
  unfold instantRead instantLeft
  by_cases shut : c ∈ closed
  · simp [quiet shut, shut]
  · by_cases stuck : x.cond = some .stuck
    · simp [stuck, shut]
    · simp [stuck, shut]

section
variable (parked : s.base.power = .parked) (same : (takeSample s.base.monitor mv).state = s.base.monitor.state)
  (free : s.base.cfg.fanClaim.l0 = 0) (none : ∀ z, holdsClaim s.seat.alloc (.fan z) = false)
include parked same free none

theorem wakeInstant_contactOf (c : Contact) :
    contactOf (wakeInstant s closed mv).seat.scanner c =
      if contactPresent s.base.fit c = false then contactOf s.seat.scanner c
      else instantLeft s.base.cfg.debounce closed c (contactOf s.seat.scanner c) := by
  have read : contactOf ((watchedContacts s.base true).foldl (instantContact closed) s.seat).scanner c = _ :=
    foldl_instantContact_contactOf (watchedContacts_once ..) s.seat
  have watched := watched_parked parked c
  by_cases there : contactPresent s.base.fit c = true
  · rw [if_pos (watched.mpr there)] at read
    rw [if_neg (by rw [there]; exact Bool.noConfusion)]
    by_cases wakes : contactWakes s closed = true
    · rw [wakeInstant_wakes wakes, wake_readInstant same free none, measureContacts_wakeBase_contactOf]
      exact ((if_pos there).trans (congrArg (remeasured s.base.cfg.debounce) read)).trans (remeasured_instantRead ..)
    · rw [wakeInstant_sleeps wakes, withBase_seat, readInstant_seat same, read]
      refine instantRead_asleep fun shut => ?_
      exact by_contra fun other => wakes ((contactWakes_iff parked).mpr ⟨c, shut, there, other⟩)
  · rw [if_neg (mt watched.mp there)] at read
    rw [if_pos (Bool.eq_false_iff.mpr there)]
    by_cases wakes : contactWakes s closed = true
    · rw [wakeInstant_wakes wakes, wake_readInstant same free none, measureContacts_wakeBase_contactOf]
      exact (if_neg there).trans read
    · rw [wakeInstant_sleeps wakes, withBase_seat, readInstant_seat same, read]

theorem wakeInstant_armed (k : Key) :
    (wakeInstant s closed mv).seat.scanner.armed.get k = (s.seat.scanner.armed.get k || rearmed closed s.seat.scanner k) := by
  have read : ((watchedContacts s.base true).foldl (instantContact closed) s.seat).scanner.armed.get k =
      (s.seat.scanner.armed.get k || rearmed closed s.seat.scanner k) := by
    rw [foldl_instantContact_armed (watchedContacts_once ..), decide_eq_true ((watched_parked parked (.key k)).mpr rfl)]
    rfl
  by_cases wakes : contactWakes s closed = true
  · rw [wakeInstant_wakes wakes, wake_readInstant same free none]
    have kept := (measureContacts_rest (wakeBase (readInstant s closed mv).base)
      (wakeSeat s.base.cfg ((watchedContacts s.base true).foldl (instantContact closed) s.seat))).2
    exact (congrArg (fun sc : Scanner => sc.armed.get k) kept).trans read
  · rw [wakeInstant_sleeps wakes, withBase_seat, readInstant_seat same, read]

end

theorem exec_instant_parked (parked : s.base.power = .parked) :
    exec (.wakeIntervalInstant closed mv) s = .next (wakeInstant s closed mv) := by
  change execWakeIntervalInstant closed mv s = _
  unfold execWakeIntervalInstant
  rw [parked]

theorem exec_instant_works (h : Works s) : exec (.wakeIntervalInstant closed mv) s = .next (secondInstant s closed) := by
  change execWakeIntervalInstant closed mv s = _
  unfold execWakeIntervalInstant
  rcases works_power h with e | e <;> rw [e]

theorem secondInstant_eq :
    secondInstant s closed =
      { s with
        seat := { s.seat with
          scanner := (watchedContacts s.base false).foldl
            (fun t c => putContact t c (secondRead s.base.cfg.debounce closed c (contactOf t c))) s.seat.scanner } } :=
  congrArg (withSeat s) (foldl_measureSecond ..)

theorem exec_instant_silent (silent : s.base.power = .draining ∨ s.base.power = .off) :
    exec (.wakeIntervalInstant closed mv) s = .next s := by
  change execWakeIntervalInstant closed mv s = _
  unfold execWakeIntervalInstant
  rcases silent with e | e <;> rw [e]

/-! ### PARK taken (R180) -/

theorem exec_park_taken {b : Base} {t u : Seat} (h : Works s)
    (mode : s.seat.brace.mode = .idle ∨ s.seat.brace.mode = .releasing ∨ s.seat.brace.mode = .locked) (run : s.base.power = .run)
    (rest : ¬ parkBusy s.base s.seat = true)
    (vehicle : b = { (openFrame s).base with link := { (openFrame s).base.link with vehicle := .parked } })
    (off : settled b (climateOff b s.seat) = t) (ceiling : settled b (setCeiling t b.cfg.parkCeiling) = u) :
    ∃ axes : PerAxis AxisState,
      (∀ a, axes.get a = if present b.fit a = true then { axisOf u a with dirty := .notMarked } else axisOf u a) ∧
      exec .park s =
        .next (closeFrame
          { openFrame s with
            base := { b with power := .parking },
            seat := { u with
              axes := axes, scanner := { u.scanner with window := none },
              store := (presentIn b.fit axisOrder).foldl (fun q a => enterWrite q (.axis a (recordOf (axisOf u a) true))) u.store } }
          .accepted []) := by
  obtain ⟨axes, gets, cleaned⟩ := foldl_queueClean (l := presentIn b.fit axisOrder) (List.Nodup.filter _ (by decide)) (closeWindow u)
  have there (a : Axis) : a ∈ presentIn b.fit axisOrder ↔ present b.fit a = true := by
    rw [presentIn, List.mem_filter]
    exact ⟨And.right, fun h => ⟨mem_axisOrder a, h⟩⟩
  refine ⟨axes, fun a => (gets a).trans (if_congr (there a) rfl rfl), ?_⟩
  rw [exec_park h mode (park_accepted run rest), acceptPark_eq vehicle (by rw [openFrame_seat]; exact off) ceiling, cleaned]
  rfl

/-! ### The supply and the reset pin (R176, R182, R183) -/

theorem exec_powerOnReset_off {f : Fitment} {high : Bool} (off : s.base.power = .off) :
    exec (.powerOnReset f high) s = .next (resetPart s f high s.base.records) := by
  change Host.Outcome.next (resetPart (if s.base.power = .off then s else lose s) f high _) = _
  rw [if_pos off]

/-- A reset with supply present loses it first. -/
theorem exec_powerOnReset_on {f : Fitment} {high : Bool} (on : s.base.power ≠ .off) :
    exec (.powerOnReset f high) s = .next (resetPart (lose s) f high (lose s).base.records) := by
  change Host.Outcome.next (resetPart (if s.base.power = .off then s else lose s) f high _) = _
  rw [if_neg on]

theorem exec_resetPin_drains (h : s.base.power = .run ∨ s.base.power = .parking ∨ s.base.power = .parked) :
    exec .resetPin s = .next (beginDrain s) := by
  change execResetPin s = _
  unfold execResetPin
  rcases h with e | e | e <;> rw [e]

theorem exec_resetPin_silent (h : s.base.power = .draining ∨ s.base.power = .off) : exec .resetPin s = .next s := by
  change execResetPin s = _
  unfold execResetPin
  rcases h with e | e <;> rw [e]

end

end Sys2Proof.Machine
end

section
/-! SUPPORT. Park, resets and instants as the statement lists them (R176, R180 to R183). -/
namespace Sys2Proof.Machine

/-- Settles O60: each reset by what it keeps and loads, PARK by its busy conditions, an instant by the power state that it finds. -/
theorem parkAndResetsAct : Obligations.ParkAndResetsAct := by
  unfold Obligations.ParkAndResetsAct
  intro s fit high drains resets
  have drained (t : State) (records : t.base.records = s.base.records) (cfg : t.base.cfg = s.base.cfg) (fitment : t.base.fit = s.base.fit)
      (store : t.seat.store = s.seat.store) (pending : t.pending = s.pending) : drains (beginDrain t) :=
    ⟨rfl, records, cfg, fitment, store, pending, rfl, rfl, fun a => by cases a <;> rfl, rfl, rfl⟩
  have reset {i : Instr} {records : Records} {f : Fitment} {u : State} (comes : exec i s = .next (resetPart u f high records))
      (pending : u.pending = s.pending) : resets i records f := by
    unfold resets
    intro cfg lock place numbers patterns tell parts seats slots notices still open_ empty load zone seed gallery alloc claim
    have patternsEq : (loadRecords f records).patterns = patterns := loaded_patterns
    have noticesEq : (loadRecords f records).notices = notices := loaded_notices
    have stillEq (p : Nat) (h : Option Nat) (c : Confidence) (up down : Nat) : Reset.axis p h c up down = still p h c up down := by
      cases h <;> rfl
    refine ⟨resetPart u f high records, resetSeat (loadRecords f records), comes, pending, fun a => ?_, ?_,
      fun a there => ⟨fun x record => ?_, fun record => ?_⟩, ?_, fun free => ?_, fun claims => ?_⟩
    · exact tabulate_get ..
    · rw [← patternsEq]
      rfl
    · exact (loaded_axis there record).trans (stillEq ..)
    · exact fresh_axis there record
    · rw [← noticesEq]
      rfl
    · exact resetPart_serves free
    · exact resetPart_claims claims
  refine ⟨fun works mode => ?_, fun power => ⟨_, exec_resetPin_drains power, drained s rfl rfl rfl rfl rfl⟩, exec_resetPin_silent,
    fun power => reset (u := s) (if_pos power) rfl, fun power => if_neg power, fun power => reset (u := s) ?_ rfl, fun power t lost => ?_,
    fun power => if_pos power, fun power => ⟨lose s, if_neg power, rfl, rfl, lose_records_idle, ?_⟩, fun works mode => ?_,
    fun closed mv parked => ⟨wakeInstant s closed mv, exec_instant_parked parked, ?_⟩, fun closed mv works => ?_,
    fun closed mv silent => exec_instant_silent silent⟩
  · obtain ⟨l, vehicle, opened⟩ := openFrame_withLink s
    refine ⟨_, (exec_reset_works works).trans (congrArg Host.Outcome.next (if_pos (passes_plain mode))), ?_⟩
    rw [opened]
    exact drained _ rfl rfl rfl rfl rfl
  · exact exec_powerOnReset_off power
  · obtain rfl : lose s = t := Host.Outcome.next.inj ((if_neg power).symm.trans lost)
    exact (exec_powerOnReset_on power).trans (exec_powerOnReset_off rfl).symm
  · intro k cut kept
    have keeps (α : Type) (c : Copies α) : kept α c := readCopies_cutCopy c
    exact ⟨fun a r flight => ⟨lose_records flight, keeps _ _⟩, fun p r flight => ⟨lose_records flight, keeps _ _⟩,
      fun p r flight => ⟨lose_records flight, keeps _ _⟩, fun r flight => ⟨lose_records flight, keeps _ _⟩,
      fun r flight => ⟨lose_records flight, keeps _ _⟩⟩
  · intro busy
    have releasing : (s.seat.brace.mode ≠ .idle ∧ s.seat.brace.mode ≠ .locked) ↔ s.seat.brace.mode = .releasing := by
      rcases mode with e | e | e <;> simp [e]
    have busyIff : parkBusy s.base s.seat = true ↔ busy := by
      rw [parkBusy_iff, releasing]
    refine ⟨fun parking => exec_park works mode (park_parking parking),
      fun run held => exec_park works mode (park_busy run (busyIff.mpr held)),
      fun run rest => ?_⟩
    intro o link b t u
    have ceiling : settled b (setCeiling t b.cfg.parkCeiling) = u := rfl
    exact exec_park_taken works mode run (mt busyIff.mp rest) (b := b) (t := t) (u := u) rfl rfl ceiling
  · obtain ⟨link, cfg, records⟩ := wakeInstant_keeps (s := s) (closed := closed) (mv := mv)
    refine ⟨link, cfg, records, ?_⟩
    intro m wakes
    have wakesIff : contactWakes s closed = true ↔ wakes := contactWakes_iff parked
    refine ⟨fun h => ?_, fun h => ?_, fun same free none => ⟨fun c => ?_, fun k => ?_⟩⟩
    · rw [wakeInstant_wakes (wakesIff.mpr h)]
      exact ⟨rfl, rfl, rfl, fun a => congrArg Hall.accepted (PerAxis.get_map ..)⟩
    · rw [wakeInstant_sleeps (mt wakesIff.mp h)]
      exact ⟨parked, rfl, rfl⟩
    · exact wakeInstant_contactOf parked same free none c
    · exact wakeInstant_armed parked same free none k
  · obtain ⟨axes, lumbar, keys, rest⟩ :=
      foldl_putEach_rest (secondRead s.base.cfg.debounce closed) (watchedContacts s.base false) s.seat.scanner
    refine ⟨_, fun c => ?_, ?_, (exec_instant_works works).trans (congrArg Host.Outcome.next secondInstant_eq)⟩
    · intro x
      rw [contactOf_foldl_putEach _ (watchedContacts_once ..), secondRead, ← ite_and]
      exact if_congr (and_congr_left' (watched_works works c)) rfl rfl
    · rw [rest]

end Sys2Proof.Machine
end
